-- ==== Sys2Proof/Word.lean ====
section
/-! DEFINITION. Words, bytes and register numbers of the KC-480, and their plainest arithmetic (R4, R5). -/

namespace Sys2Proof

/-- An address-map word: 32 bits (R4). -/
abbrev Word := BitVec 32

/-- A 64-bit value: a stroke number, an INT64, a digest, a wall-clock time. -/
abbrev DWord := BitVec 64

/-- One byte. -/
abbrev Byte := BitVec 8

/-- The number of one of the registers g0 to g127 (R138). -/
abbrev RegNo := BitVec 7

/-- An event source or event code (R391, R392). -/
abbrev Half := BitVec 16

/-- Bits `[hi:lo]` of a natural number (R5). -/
def bitsOf (n hi lo : Nat) : Nat := (n >>> lo) % 2 ^ (hi + 1 - lo)

/-- Bits `[hi:lo]` of a word, as a natural number (R5). -/
def Word.bits (w : Word) (hi lo : Nat) : Nat := bitsOf w.toNat hi lo

/-- A number as a word, its low 32 bits. -/
def word (n : Nat) : Word := BitVec.ofNat 32 n

/-- `n` limited to the range `lo .. hi` (R11). -/
def clampNat (lo hi n : Nat) : Nat := max lo (min hi n)

/-- An integer limited to the range `lo .. hi` (R11). -/
def clampInt (lo hi n : Int) : Int := max lo (min hi n)

/-- The low word of a 64-bit value. -/
def DWord.lo (d : DWord) : Word := d.extractLsb' 0 32

/-- The high word of a 64-bit value. -/
def DWord.hi (d : DWord) : Word := d.extractLsb' 32 32

/-- A 64-bit value from its high and low words. -/
def dword (hi lo : Word) : DWord := hi ++ lo

/-- 1 for true, 0 for false (R119, BOOL). -/
def boolWord (b : Bool) : Word := if b then 1#32 else 0#32

/-- 1 for true, 0 for false. -/
def boolNat (b : Bool) : Nat := if b then 1 else 0

end Sys2Proof
end

