-- ==== Sys2Proof/Machine/Table.lean ====
section
/-! DEFINITION. Sparse tables in one canonical form: a list of (key, value) pairs with keys strictly rising, in which no
entry equals what an unlisted key reads as. Registers, memory bytes, slots and channels are all held this way. -/

namespace Sys2Proof

/-- A sparse table: what an unlisted key reads as is given where the table is read. -/
abbrev Tab (α : Type) := List (Nat × α)

/-- The value at key `k`, `d` where the table lists none. -/
def Tab.get {α : Type} (t : Tab α) (d : α) (k : Nat) : α :=
  match t with
  | [] => d
  | e :: r => if e.1 = k then e.2 else Tab.get r d k

/-- The table without key `k`. -/
def Tab.erase {α : Type} (t : Tab α) (k : Nat) : Tab α :=
  match t with
  | [] => []
  | e :: r => if e.1 = k then Tab.erase r k else e :: Tab.erase r k

/-- `(k, v)` placed before the first larger key. -/
def Tab.place {α : Type} (t : Tab α) (k : Nat) (v : α) : Tab α :=
  match t with
  | [] => [(k, v)]
  | e :: r => if k < e.1 then (k, v) :: e :: r else e :: Tab.place r k v

/-- The table with `v` at key `k`; `d` is what an unlisted `k` reads as, and writing it removes the entry. -/
def Tab.set {α : Type} [DecidableEq α] (t : Tab α) (d : α) (k : Nat) (v : α) : Tab α :=
  if v = d then t.erase k else (t.erase k).place k v

/-- The value at `k` changed by `f`. -/
def Tab.upd {α : Type} [DecidableEq α] (t : Tab α) (d : α) (k : Nat) (f : α → α) : Tab α :=
  t.set d k (f (t.get d k))

/-- The keys listed. -/
def Tab.keys {α : Type} (t : Tab α) : List Nat := t.map (·.1)

/-- Keys strictly rise, every one above `b`. -/
def Tab.rising {α : Type} (b : Nat) (t : Tab α) : Bool :=
  match t with
  | [] => true
  | e :: r => decide (b ≤ e.1) && Tab.rising (e.1 + 1) r

/-- The canonical form: keys strictly rise and no entry equals what its unlisted key reads as (`d`). -/
def Tab.wf {α : Type} [DecidableEq α] (t : Tab α) (d : Nat → α) : Bool :=
  Tab.rising 0 t && t.all fun e => decide (e.2 ≠ d e.1)

end Sys2Proof
end

