-- ==== Sys2Proof/Operand.lean ====
section
/-! DEFINITION. The operands of the commands: what a command of the opcode table carries beside its name. -/

namespace Sys2Proof

/-! ### Supplies, pace, online change -/

/-- A feed as its monitor reads it (R47): when, and its voltage in units of 10 mV. -/
structure FeedRead where
  now : Nat
  volts : Nat
  deriving DecidableEq, Repr

/-- A measurement of the pace monitor (R103): when, and the margin in 0.1 %. -/
structure PaceMeas where
  now : Nat
  margin : Int
  deriving DecidableEq, Repr

/-- The slot of an ACTIVATE ONLINE (R131); `ready` says that the inactive slot of the shadow module holds the same identity ACCEPTED. -/
structure OnlineSlot where
  slot : Nat
  ready : Bool
  deriving DecidableEq, Repr

/-! ### Fytric instructions (chapter 07) -/

/-- Source B of an instruction: a register (R form) or the literal word that takes its place (I form), R135. -/
inductive Src where
  | reg (r : RegNo)
  | lit (w : Word)
  deriving DecidableEq, Repr

/-- KIND of a load or store (R145): one word, or two consecutive words. -/
inductive AccessKind where
  | word
  | pair
  deriving DecidableEq, Repr

/-- The array that a literal and the reference list name (R118, R145): its base address, its size in bytes, and whether it is a scalar, which has one element
whatever its size. -/
structure ArrRef where
  base : Nat
  bytes : Nat
  scalar : Bool := false
  deriving DecidableEq, Repr

/-- What reads of data SRAM find wrong in its storage words (R168, R169), each by a byte address in it: those with a single wrong bit, and one with two. -/
structure EccFound where
  fixed : List Nat := []
  bad : Option Nat := none
  deriving DecidableEq, Repr

/-- Addressing of LD and ST (R145): the array, the KIND and the SCALE; and what a load finds in the storage words that it reads. -/
structure Access where
  arr : ArrRef
  kind : AccessKind
  scale : BitVec 3
  ecc : EccFound := {}
  deriving DecidableEq, Repr

/-- The words of a VAR_READ: how many, and what it finds in the storage words that it reads. -/
structure ReadSpan where
  count : Nat
  ecc : EccFound := {}
  deriving DecidableEq, Repr

/-- What a LOG_READ finds in the log store (R171, R387): the single-bit errors corrected, and the places with a double-bit error. -/
structure LogEcc where
  fixed : Nat
  bad : List Nat
  deriving DecidableEq, Repr

/-- The four CRCs of the check-value unit, in code order (R158). -/
inductive CrcKind where
  | crc8
  | crc16
  | crc32
  | crc32c
  deriving DecidableEq, Repr

/-! ### CAN frames (chapters 07 and 15) -/

/-- A CAN data frame with what its descriptor carries (R155). -/
structure CanFrame where
  ide : Bool
  ident : Nat
  fdf : Bool
  brs : Bool
  esi : Bool
  data : List Byte
  stamp : Word
  deriving DecidableEq, Repr

/-! ### The tick and priming (chapters 04 and 05) -/

/-- What the hardware finds at a tick S (R87): the timebase in ns, the live straps (R32), the transmit buffers (32 × port + buffer) whose
frame is in arbitration or transmission (R291), the faults that R201 and R365 detect at a tick, and what the accesses to the memories have found since the
last one: data SRAM storage words with a single-bit error, one with a double-bit error, single-bit errors of MRAM and a double-bit error of the code store
(R168, R169, R171). -/
structure TickIn where
  now : Nat
  station : Nat
  slotB : Bool
  onBus : List Nat
  leaseFault : Bool
  laneFault : Option Nat
  sramFixed : List Nat
  sramBad : Option Nat
  mramFixed : Nat
  mramBad : Bool
  deriving DecidableEq, Repr

/-- What a priming finds (R76): the timebase in ns, the straps it latches, whether the memory test of step 2 passes and the storage words it corrects (R170), the
firmware slots and the image check of step 3, the save areas with an uncorrectable error, the stored calibration record, and the single-bit errors of MRAM and
a double-bit error in the code that runs (R171). -/
structure PrimingIn where
  now : Nat
  station : Nat
  slotB : Bool
  sramOk : Bool
  fwBad : List Nat
  imageBad : Bool
  areaBad : List Nat
  calOk : Bool
  sramFixed : List Nat
  mramFixed : Nat
  mramBad : Bool
  deriving DecidableEq, Repr

/-! ### Wellheads (chapters 12 and 13) -/

/-- A DW link frame as the core receives it (R231): the time, whether its CRC-16 is right, its alive counter, and the measured L+ (0.1 V) and
current (50 mA) of the four groups with the current of ENC_5V in mA. -/
structure DwFrame where
  now : Nat
  good : Bool
  alive : Nat
  groups : List (Nat × Nat)
  encMa : Nat
  deriving DecidableEq, Repr

/-- One sampling of the DW island (R234, R235): voltage in mV and current in µA at each of the 32 contacts, and the outputs in current limit. -/
structure DioMeas where
  pins : List (Nat × Nat)
  limited : Word
  deriving DecidableEq, Repr

/-- An AW link frame as the core receives it (R267): the wellhead, the time, whether its CRC-16 is right, its alive counter, and the reservoir's
energy in percent. -/
structure AwFrame where
  w : Nat
  now : Nat
  good : Bool
  alive : Nat
  reservoir : Nat
  deriving DecidableEq, Repr

/-- One sample instant of an analog wellhead (R255, R263): the time; per channel of the wellhead the raw code, and the currents of the drive
monitor and of the readback in units of 0.1 µA. -/
structure AwMeas where
  w : Nat
  now : Nat
  codes : List Nat
  drive : List Nat
  readback : List Nat
  deriving DecidableEq, Repr

/-! ### Images (chapter 06) -/

/-- A task as TASKS declares it (R96, R97, R99): number, engine, period, phase, sliced flag, slice budget, and the entry point as a word
offset of CODE. -/
structure TaskDecl where
  num : Nat
  engine : Nat
  period : Nat
  phase : Nat
  sliced : Bool
  budget : Nat
  entry : Nat
  deriving DecidableEq, Repr

/-- Sources of input items (R235, R251, R258). -/
inductive ItemKind where
  | dio | aio | enc
  deriving DecidableEq, Repr

/-- An input item of LAYOUT: its channel and the address of its value word. -/
structure ItemDecl where
  kind : ItemKind
  chan : Nat
  addr : Nat
  deriving DecidableEq, Repr

/-- A variable of LAYOUT and SYMBOLS (R110): symbol, address, words, type, flags and declared initial values. `kind` numbers the types in the order of R119,
0 BOOL, 1 INT32, 2 UINT32, 3 REAL32, 4 INT64, 5 DURATION; an array, or an input item with its quality word, adds 8 (DESIGN CHOICE, log entry 11: the spec
gives LAYOUT no coding). -/
structure VarDecl where
  sym : Nat
  addr : Nat
  words : Nat
  kind : Nat
  retained : Bool
  hostWritable : Bool
  init : List Word
  deriving DecidableEq, Repr

/-- Whether a variable is a scalar (R119, R145). -/
def VarDecl.scalar (v : VarDecl) : Bool := decide (v.kind < 8)

/-- A loop or slot symbol: kind 0 loop, 1 edge, 2 timer, 3 counter, 4 stream. -/
structure SlotDecl where
  sym : Nat
  kind : Nat
  index : Nat
  deriving DecidableEq, Repr

/-- A remote module the image declares (R316). -/
structure ModuleDecl where
  station : Nat
  slot : Nat
  inWords : Nat
  outWords : Nat
  code : Word
  inAddr : Nat
  outAddr : Nat
  deriving DecidableEq, Repr

/-- A loop the LOOPS section declares (R186): block, PERIOD and LINK words, its addresses. -/
structure LoopDecl where
  block : Nat
  period : Nat
  phase : Nat
  link : Word
  pv : Nat
  ff : Nat
  out : Nat
  satw : Nat
  deriving DecidableEq, Repr

/-- The writer of a word (R122): one task, the loop engine, or the snapshot. -/
inductive Writer where
  | task (num : Nat) | loops | snapshot
  deriving DecidableEq, Repr

/-- What the sections of an image body say (R110). The spec does not give their byte layout, so this is what the verifier reads out of them, with
`malformed` where the content of a section is not as the format of that section has it (R112, code 2); the section table and CODE are read from the image itself. `blocks` are the tasks,
subroutines and parts of the priming section as (first word, end) in CODE; a constant is a variable whose address lies in the code store
window; `owners` is OWNERSHIP (first byte, end, writer); `durations` are the literal words that hold DURATION constants in µs (R120); `schedules` are (number, table, scheduling variable),
`groups` (number, record, destination), `tables` the Modbus tables (address, elements). -/
structure ImageBody where
  tasks : List TaskDecl
  code : List Word
  blocks : List (Nat × Nat)
  refs : List (Nat × ArrRef)
  configEntry : Nat
  initEntry : Option Nat
  vars : List VarDecl
  items : List ItemDecl
  symbols : List SlotDecl
  modules : List ModuleDecl
  tables : List (Nat × Nat)
  loops : List LoopDecl
  schedules : List (Nat × Nat × Nat)
  groups : List (Nat × Nat × Nat)
  owners : List (Nat × Nat × Writer)
  durations : List Nat
  malformed : Bool
  deriving DecidableEq, Repr

/-- An image without content. -/
def ImageBody.empty : ImageBody :=
  { tasks := [], code := [], blocks := [], refs := [], configEntry := 0, initEntry := none, vars := [], items := [], symbols := [], modules := []
    tables := [], loops := [], schedules := [], groups := [], owners := [], durations := [], malformed := false }

/-! ### HART, CAN and the ring (chapters 14 to 16) -/

/-- How a HART attempt ends with a received response (R275): whether it carries an error, and its fields; a command 0 response carries the
long address. -/
structure HartFrame where
  ok : Bool
  uid : Nat
  command : Nat
  respCode : Byte
  devStatus : Byte
  data : List Byte
  deriving DecidableEq, Repr

/-- A data frame as the port receives it (R285, R289): the frame, whose stamp the port sets, and the timebase time in ns of the sample point of its
start-of-frame bit. -/
structure CanRx where
  frame : CanFrame
  sof : Nat
  deriving DecidableEq, Repr

/-- A bus error (R294, R295): lost arbitration; an error met as transmitter, `spared` where ISO 11898-1 leaves TEC as it is; an error met as receiver; a bit
error in the data field of an own frame. `more` counts the further steps of 8 that ISO 11898-1 takes for errors within and dominant bits after the error
flag. -/
inductive CanError where
  | arbitration
  | sending (spared : Bool) (more : Nat)
  | receiving (more : Nat)
  | collision (ident : Nat)
  deriving DecidableEq, Repr

/-- A data record of a Wazar IN frame with the CRC that it carries (R303). -/
structure RioRecord where
  slot : Nat
  subst : Bool
  fault : Bool
  version : Word
  words : List Word
  crc : Word
  deriving DecidableEq, Repr

/-- What every Wazar frame carries that the KC-480 uses (R300, R302, R304): the arrival port (1 or 2), the time in ns, HOPS on arrival, the source
address, SEQ, CTRL_ADDR, STN_ADDR and START. -/
structure WazarHead where
  port : Nat
  now : Nat
  hops : Nat
  mac : Nat
  seq : Nat
  ctrl : Nat
  stn : Nat
  start : Bool
  deriving DecidableEq, Repr

/-- A Wazar IN frame. -/
structure WazarIn where
  head : WazarHead
  linkA : Bool
  linkB : Bool
  acked : Nat
  records : List RioRecord
  deriving DecidableEq, Repr

/-- An identity record (R303). -/
structure IdentRecord where
  slot : Nat
  inWords : Nat
  outWords : Nat
  code : Word
  deriving DecidableEq, Repr

/-- A Wazar IDENT_RSP frame. -/
structure WazarIdent where
  head : WazarHead
  records : List IdentRecord
  deriving DecidableEq, Repr

/-! ### The plant network and the host (chapters 17, 20 to 22) -/

/-- A Modbus request as it arrives (R320): connection, transaction, starting address, unit identifier. -/
structure MbReq where
  conn : Nat
  tag : Nat
  start : Nat
  unit : Nat := 0
  deriving DecidableEq, Repr

/-- A Modbus write in a snapshot (R322): function code, connection, transaction, starting address, the values (coils as 0 or 1), and the
read part of function code 23; `ex` is the exception code of a request that waits only for its turn to be answered with it, else 0; and the unit identifier
that the reply echoes (R320). -/
structure MbWrite where
  fn : Nat
  ex : Nat
  conn : Nat
  tag : Nat
  start : Nat
  values : List Nat
  readPart : Option (Nat × Nat)
  unit : Nat := 0
  deriving DecidableEq, Repr

/-- A request of the engineering protocol (R331): the session and the header's TAG, COMMAND, LENGTH, FLAGS and last two bytes; and, once the request waits, its
place among the unanswered ones of its session (R332), else 0. -/
structure Req where
  sess : Nat
  tag : Nat
  command : Nat := 0
  length : Nat := 16
  flags : Nat := 0
  spare : Nat := 0
  place : Nat := 0
  deriving DecidableEq, Repr

/-- The cipher suite that a client's handshake comes to (R395). -/
inductive CipherSuite where
  | aes128GcmSha256
  | chacha20Poly1305Sha256
  | other
  deriving DecidableEq, Repr

/-- The signature scheme of a client's handshake (R395). -/
inductive SignatureScheme where
  | ed25519
  | ecdsaSecp256r1Sha256
  | other
  deriving DecidableEq, Repr

/-- A handshake (R395 to R401): the session it opens, over USB or from an IPv4 address, the client certificate's fingerprint, the client anchor
(fingerprint) its chain ends at, whether the signatures of the handshake and of the chain verify and the dates are right, the organizationalUnitName values of the
certificate's subject, and the suite, the scheme and the number of certificates of the chain. -/
structure Handshake where
  id : Nat
  usb : Bool
  addr : Word
  cert : List Byte
  anchor : List Byte
  ok : Bool
  datesOk : Bool
  units : List String
  suite : CipherSuite := .aes128GcmSha256
  scheme : SignatureScheme := .ed25519
  chain : Nat := 1
  now : Nat
  deriving DecidableEq, Repr

/-- A Sync, or the Follow_Up of a two-step one (R325): the timebase at its arrival in ns, its origin time and corrections in ns of PTP time; and what the spec leaves
to the port: by how much its servo then moves the port's clock, and the steering in 0.01 ppm that a timebase locked to PTP takes (R83). -/
structure PtpMeas where
  now : Nat
  origin : Nat
  correction : Int
  servo : Int
  adj : Int
  deriving DecidableEq, Repr

/-- A Delay_Resp (R325): its master, the timebase when the Delay_Req left, the time at which the master received it, and the corrections. -/
structure PtpDelay where
  master : Nat
  sent : Nat
  receive : Nat
  correction : Int
  deriving DecidableEq, Repr

/-- A master as its Announce describes it (R325): what the default best master clock algorithm compares, in its order, and the port that sends. -/
structure PtpMaster where
  priority1 : Nat
  clockClass : Nat
  accuracy : Nat
  variance : Nat
  priority2 : Nat
  identity : Nat
  steps : Nat
  sender : Nat
  deriving DecidableEq, Repr

/-- Who gives a loop command (R217): a task by LCMD, with the registers for the status and for the command's value (R153), or the host. -/
inductive LoopBy where
  | task (d b : RegNo)
  | host (req : Req)
  deriving DecidableEq, Repr

/-! ### The rope (chapter 18) -/

/-- The frame of a TRANSFER (R339, R354): its SEQ, whether an earlier TRANSFER frame is missing, and how many frames are missing between the frame received
before it and this one. -/
structure TransferSeq where
  seq : Nat
  gap : Bool
  lost : Nat
  deriving DecidableEq, Repr

/-- How a divergence self-test ends (R351): whether it passes, and whether the lease timer disagrees with its shadow counter at the renewal of a pass (R365). -/
structure SelfTest where
  pass : Bool
  leaseFault : Bool
  deriving DecidableEq, Repr

/-- A STATUS frame (R341); `lost` frames are missing between the frame received before it and this one (R339). -/
structure RopeStatus where
  now : Nat
  role : Nat
  holds : Bool
  safeDriver : Bool
  armed : Bool
  mode : Nat
  priming : Nat
  station : Nat
  slotB : Bool
  ropeVersion : Nat
  imageId : Nat
  safeA : Bool
  safeB : Bool
  joinReq : Bool
  joinAccept : Bool
  joinRefuse : Bool
  refusal : Nat
  wall : DWord
  firmware : Nat := 0
  ack : Nat := 0
  lost : Nat := 0
  deriving DecidableEq, Repr

/-- A CAN reception of a manifest (R342) with the frame that its notice resolves. -/
structure CanEntry where
  port : Nat
  frame : CanFrame
  route : Nat
  mailbox : Nat
  filter : Nat
  deriving DecidableEq, Repr

/-- A HART entry of a manifest (R342): channel, kind (0 result, 1 burst, 2 pass-through result, 3 pass-through request), outcome, frame. -/
structure HartEntry where
  chan : Nat
  kind : Nat
  outcome : Nat
  frame : HartFrame
  deriving DecidableEq, Repr

/-- A manifest (R92, R342): its header, the local field values as register fields and
raw codes (channel, code; none where the channel is off or its wellhead dead), the wellheads that are off, restarting or silent (0 and 1 the analog ones,
2 DW, and 3 where the watchdog of the DW island has expired), the
LINK_SKIP bits (1 DW, 2 AW0, 4 AW1), and its sections. `inputs` is the byte at 0x11 of the header: 1 SAFE_A_n, 2 SAFE_B_n of the lead module, 4 an input of
the shadow module reported at the last digest. -/
structure Manifest where
  stroke : DWord
  modeAt : DWord
  newMode : Nat
  safeCause : Nat
  roleEvent : Nat
  roleAt : DWord
  changeAt : DWord
  changeSlot : Nat
  commands : Nat
  fields : List (Nat × Word)
  raw : List (Nat × Nat)
  dead : List Nat
  skips : Nat
  hostWrites : List (Word × Word)
  remote : List (Nat × Bool × Nat)
  can : List CanEntry
  modbus : List MbWrite
  hart : List HartEntry
  inputs : Nat := 0
  deriving DecidableEq, Repr

/-- The content of an IMAGE frame (R358, R403): image bytes at an offset, or the holder's trust material. -/
inductive RopeImage where
  | bytes (offset total : Nat) (data : List Byte)
  | anchors (images clients deny : List (List Byte))
  deriving DecidableEq, Repr

/-- What a COMMAND frame of the rope carries (R337, R340): a forwarded command (its code) or a reply (code and status). -/
inductive RopeCommand where
  | command (code principal : Nat)
  | reply (code status : Nat)
  deriving DecidableEq, Repr

end Sys2Proof
end

