-- ==== Sys2Proof/Machine/StFytric.lean ====
section
/-! DEFINITION. State of the Fytric engines: activations with their registers, stacks and working copies, the edge, timer,
counter and stream slots, and the frozen snapshot an activation reads (R88, R90, R138, R150, R161). -/

namespace Sys2Proof.Machine

/-- An event as it is raised (R379): source, code and four parameters. -/
structure Event where
  source : Half
  code : Half
  p0 : Word := 0#32
  p1 : Word := 0#32
  p2 : Word := 0#32
  p3 : Word := 0#32
  deriving DecidableEq, Repr

/-- A LOOP in progress (R148): first word and end of the body, pass number, number of passes wanted, register gd, and the
number of subroutine calls open when it began. -/
structure LoopFrame where
  start : Nat
  stop : Nat
  pass : Nat
  count : Nat
  reg : RegNo
  depth : Nat
  deriving DecidableEq, Repr

/-- A mailbox of a CAN port (R156, R288): its latest frame, the filter that routed it, whether it has been read, and whether
it overwrote a frame since the last CANMB. -/
structure Mailbox where
  frame : CanFrame
  filter : Nat
  isRead : Bool
  lost : Bool
  deriving DecidableEq, Repr

/-- A completed HART result (R157, R276). -/
structure HartResult where
  command : Nat
  outcome : Nat
  respCode : Byte
  devStatus : Byte
  data : List Byte
  deriving DecidableEq, Repr

/-- An effect of a task beside its writes, applied at the commit that ends the activation. -/
inductive Effect where
  | event (e : Event)
  | canTx (port buf : Nat) (frame : CanFrame)
  | canPop (port fifo : Nat)
  | canMb (port mailbox : Nat)
  | hartStart (chan cmd : Nat) (data : List Byte)
  | hartTaken (chan : Nat)
  | loopCmd (block cmd : Nat) (operand : Word)
  | cvu (requests fails gaps : Nat)
  | regAction (addr : Nat) (w : Word)
  deriving DecidableEq, Repr

/-- What an activation reads: everything frozen in the snapshot of its activation stroke (R88, R90). -/
structure Snap where
  stroke : DWord
  fields : Tab Word
  mem : List Host.Cell
  fifos : Tab (List (CanFrame × Nat))
  boxes : Tab (Option Mailbox)
  hart : Tab (Option HartResult)
  code : Tab Byte
  codeLen : Nat
  dipperBusy : Bool
  hartOk : Bool
  awDead : List Nat
  deriving DecidableEq, Repr

/-- An activation of a task, or of the priming section (R96, R97, R138); `slices` counts the strokes that a sliced one has had, and
`owed` is what a LOOP pass begun at the end of its last slice still costs (R97, R139). -/
structure Act where
  task : Nat
  engine : Nat
  priming : Bool
  regs : Tab Word
  pc : Nat
  calls : List Nat
  loops : List LoopFrame
  writes : List (Nat × Word)
  effects : List Effect
  events : Nat
  number : Nat
  charge : Nat
  waitBu : Nat
  slices : Nat
  owed : Nat
  done : Bool
  snap : Snap
  deriving DecidableEq, Repr

/-- An edge slot (R150): the stored input and the FRESH mark. -/
structure EdgeSlot where
  prev : Bool
  fresh : Bool
  deriving DecidableEq, Repr

/-- A timer slot (R151): elapsed activations, output, whether it runs, the stored input of TP, and the activation number of its
last execution. -/
structure TimerSlot where
  et : Nat
  q : Bool
  timing : Bool
  prevIn : Bool
  last : Nat
  deriving DecidableEq, Repr

/-- A counter slot (R151): its INT32 value and its stored input. -/
structure CounterSlot where
  cv : Int
  prev : Bool
  deriving DecidableEq, Repr

/-- A stream slot of SEAL or CHECK (R161). -/
structure StreamSlot where
  counter : Nat
  fresh : Bool
  deriving DecidableEq, Repr

/-- The slots of the running image. -/
structure Slots where
  edges : Tab EdgeSlot
  timers : Tab TimerSlot
  counters : Tab CounterSlot
  streams : Tab StreamSlot
  deriving DecidableEq, Repr

/-- What a Fytric instruction works on: an activation and the slots. -/
structure Fy where
  act : Act
  slots : Slots
  deriving DecidableEq, Repr

/-- An empty snapshot, as before the first stroke. -/
def Snap.empty : Snap :=
  { stroke := 0, fields := [], mem := [], fifos := [], boxes := [], hart := [], code := [], codeLen := 0, dipperBusy := false
    hartOk := false, awDead := [] }

/-- An activation at its start: every register zero (R138). -/
def Act.start : Act :=
  { task := 0, engine := 0, priming := false, regs := [], pc := 0, calls := [], loops := [], writes := [], effects := []
    events := 0, number := 0, charge := 0, waitBu := 0, slices := 0, owed := 0, done := false, snap := Snap.empty }

/-- Slots as a priming leaves them (R78): timers idle, counters 0, streams fresh. -/
def Slots.empty : Slots := { edges := [], timers := [], counters := [], streams := [] }

end Sys2Proof.Machine
end

