-- ==== Sys2Proof/Machine/StLoop.lean ====
section
/-! DEFINITION. State of the loop engine behind the loop blocks: tuning and injection runs, the dipper, and what the LOOPS section of
the image fixes (R190, R203, R211, R219 to R229). The fields of the loop blocks themselves are in the register file. -/

namespace Sys2Proof.Machine

/-- The open relay cycle: evaluations, highest and lowest y (R220). -/
structure Cycle where
  count : Nat
  high : Word
  low : Word
  deriving DecidableEq, Repr

/-- A relay tuning run (R219 to R221): the rule, whether its first evaluation has been made, r0, whether s is −1, the side, the limit in
evaluations and the evaluations made, the open cycle, and the closed cycles as (n, pp), newest first. -/
structure TuneRun where
  rule : Nat
  begun : Bool
  r0 : Word
  negative : Bool
  high : Bool
  limit : Nat
  count : Nat
  cycle : Option Cycle
  closed : List (Nat × Word)
  deriving DecidableEq, Repr

/-- A test-signal injection run (R227): whether its first evaluation has been made, the evaluation number j, the shift register, the
present bit and the evaluations left of it, and the settings of the run. -/
structure InjRun where
  begun : Bool
  j : Nat
  shift : Nat
  bit : Bool
  left : Nat
  bitEvals : Nat
  amp : Word
  cfg : Nat
  deriving DecidableEq, Repr

/-- What the engine keeps of a loop beside its block: whether the next evaluation in auto is an entry to auto (R194), whether its last
due stroke saw ENABLE 0 (R200), and its runs. -/
structure LoopHidden where
  entry : Bool
  sawDisabled : Bool
  tune : Option TuneRun
  inj : Option InjRun
  deriving DecidableEq, Repr

/-- A loop of which nothing is kept. -/
def LoopHidden.none : LoopHidden := { entry := false, sawDisabled := false, tune := Option.none, inj := Option.none }

/-- One dipper sample: LOOP_R_EFF, y, LOOP_U, inj (R229). -/
structure DipSample where
  rEff : Word
  y : Word
  u : Word
  inj : Word
  deriving DecidableEq, Repr

/-- The dipper (R229, R230): the block of its run (none when empty), the run's settings and state, the stroke of sample 0, and the
samples, newest first. -/
structure Dipper where
  block : Option Nat
  cfg : Nat
  state : Nat
  bitEvals : Nat
  amp : Word
  h : Word
  stroke0 : DWord
  samples : List DipSample
  deriving DecidableEq, Repr

/-- An empty dipper. -/
def Dipper.empty : Dipper :=
  { block := Option.none, cfg := 0, state := 0, bitEvals := 0, amp := 0, h := 0, stroke0 := 0, samples := [] }

/-- What the LOOPS section declares beside the wiring fields: the declared blocks in ascending order, the schedules (table address,
scheduling variable address) and the groups (record address, destination address). -/
structure LoopDecls where
  blocks : List Nat
  schedules : Tab (Nat × Nat)
  groups : Tab (Nat × Nat)
  deriving DecidableEq, Repr

/-- The state words of a loop block that an evaluation writes (R192). -/
structure LoopWords where
  kpAct : Word
  tiAct : Word
  tdAct : Word
  kffAct : Word
  sched : Word
  vff : Word
  status : Word
  rEff : Word
  y : Word
  e : Word
  p : Word
  i : Word
  d : Word
  edPrev : Word
  ff : Word
  uUnc : Word
  u : Word
  evals : Word
  candKp : Word
  candTi : Word
  candTd : Word
  tune : Word
  injStat : Word
  deriving DecidableEq, Repr

/-- The result of a due loop in a stroke, held until the commit (R192, R213): its words, whether it was evaluated, whether it competes in
its group, whether with its relay output, the run state, a pending abort code, the events, and the injected value. -/
structure LoopResult where
  block : Nat
  evaluated : Bool
  competes : Bool
  relay : Bool
  words : LoopWords
  hidden : LoopHidden
  abort : Option Nat
  events : List Event
  inj : Word
  sampled : Bool
  deriving DecidableEq, Repr

/-- What a group step writes beside the members' results: GRP_STATUS, GRP_U, GRP_SWITCHES and, unless SOURCE is HELD, the destination. -/
structure GroupResult where
  group : Nat
  status : Word
  u : Word
  switches : Word
  driven : Bool
  deriving DecidableEq, Repr

/-- What the engine computed in a stroke. -/
structure LoopStroke where
  results : List LoopResult
  groups : List GroupResult
  deriving DecidableEq, Repr

end Sys2Proof.Machine
end

