-- ==== Sys2Proof/Machine/StUnits.lean ====
section
/-! DEFINITION. State of the units of the module beside its registers: what AON, the mode supervisor, the stroke, the image and
firmware slots, the save areas, the wellheads, HART, CAN, the ring, the network, the host interface, the rope, the health report and
the recorder keep that no register shows whole. Times are in ns of the timebase. -/

namespace Sys2Proof.Machine

/-! ### The event recorder (chapter 20) -/

/-- An event as it is raised, with the stroke, wall clock and KIND it carries (R379, R381, R435). -/
structure LogEntry where
  event : Event
  stroke : DWord
  wall : DWord
  qual : Nat
  kind : Nat
  deriving DecidableEq, Repr

/-- A record of the log (R379); `bad` marks a place that fails its check (R387). -/
structure LogRec where
  seq : Word
  event : Event
  first : DWord
  last : DWord
  wall : DWord
  qual : Nat
  kind : Nat
  repeats : Nat
  bad : Bool
  deriving DecidableEq, Repr

/-- The recorder: the closed records from LOG_BASE_SEQ on, the open record, the queue, and the places reported uncorrectable. -/
structure Recorder where
  records : List LogRec
  opened : Option LogRec
  queue : List LogEntry
  reported : List Nat
  deriving DecidableEq, Repr

/-! ### AON (chapters 02 to 04) -/

/-- The always-on block: power, lines, waits, clocks, and its non-volatile cells; `lastStroke` is the stroke number stored
by the power-loss sequence and reset saves (R179). `railSince` is the time since when a feed has held the rail at 19.2 V
or more, `readyAt` the time at which the standpipe became ready, while no priming has begun since RESET was entered (R50, R82). `alm` are the groups whose
ALM strap is fitted at the contacts, whether or not a wellhead is there to read it (R262); `joinAgain` says that the module asks for a join again after its
priming, since it has activated the image that it was refused for (R352). -/
structure Aon where
  powered : Bool
  resetLow : Bool
  saving : Nat
  waiting : Bool
  now : Nat
  wallOff : Int
  coldAsked : Bool
  f3 : Bool
  lastStroke : DWord
  mated : Bool
  queue : List LogEntry
  lost : Nat
  enables : Bool
  dipSince : Nat
  railSince : Option Nat
  readyAt : Option Nat
  alm : List Nat
  healthySince : Option Nat
  joinAgain : Bool := false
  deriving DecidableEq, Repr

/-! ### Modes, the stroke and debugging (chapters 04 and 05) -/

/-- A force of HOLD (R70): address and value. -/
abbrev Force := Nat × Word

/-- A breakpoint (R68): task and word offset. -/
abbrev Break := Nat × Nat

/-- Writes and effects waiting for the next commit, effects with their source (R87, R106). -/
structure Pend where
  writes : List (Nat × Word)
  effects : List (Half × Effect)
  deriving DecidableEq, Repr

/-- The mode supervisor: whether priming is at its bucket step, whether one has completed and its first commit is due, its kind, the mode
change announced (stroke, mode, cause), a SAFE_ACK on its way, strokes left to step in HOLD, breakpoints, forces, a breakpoint reached,
the output values held at the entry to a mode (R63, R434), the Fytric request that the last commit took (R82: 1 STOP, 2 SAFE), the analog
channels that follow their stop values because an online change removed the loop that owned them (R133), when the priming began, the SAFE inputs
asserted since the last cut (1 SAFE_A_n, 2 SAFE_B_n; R65), whether DBG_EN has read open in HOLD since then (R33), and the restart targets whose domain the
priming left off (R56, R58). -/
structure Ctl where
  step8 : Bool
  primed : Bool
  firstCommit : Bool
  cold : Bool
  nextMode : Option (DWord × Nat × Nat)
  ackAt : Option DWord
  holdSteps : Nat
  stepping : Bool
  breaks : Tab (Option Break)
  forces : List Force
  hit : Option Nat
  held : Tab Word
  breakHit : Bool
  request : Nat
  orphans : List Nat
  primeAt : Nat
  inputSeen : Nat
  dbgSeen : Bool
  leftOff : List Nat
  deriving DecidableEq, Repr

/-- What the last commit left: the mode, the retained bytes, and the identity of the image that was active at it (R54, R82, R174, R176). -/
structure LastCommit where
  mode : Nat
  cells : List Host.Cell
  identity : List Byte
  deriving DecidableEq, Repr

/-- The stroke in progress: the frozen snapshot, the activations, the loop engine's results, the write queue of the next commit and what
the manifest of the stroke holds. `committed` is the number of the last committed stroke, `partnerOk` whether the partner's digest came with its
self-check passed, `compare` is the digest exchange (R102): 0 none, 1 matched, 2 missing, 3 mismatch. `ended` are the tasks
whose activation the next commit publishes, `lane` is a lane mismatch of the stroke not yet acted on (R20), `parked` a manifest with a reference not yet
resolved (R95), `paceDue` a predicted pace fault detected at the instant of the digest exchange (R104), `begun` counts the activations begun per task (R150); `slots0` and `begun0` are the slots and those
counts as of the last commit, `exchanged` says that the digest exchange of the stroke has been (R104), `wallAt` is the
module's own wall clock at S of the stroke (R381), `last` what it left behind, none before the first commit of a priming. -/
structure Run where
  snap : Snap
  acts : List Act
  loops : LoopStroke
  snapWrites : List (Nat × Word)
  pend : Pend
  ended : List Nat
  begun : Tab Nat
  slots0 : Slots
  begun0 : Tab Nat
  executed : Bool
  abandoned : Bool
  digest : DWord
  committed : DWord
  partner : Option DWord
  partnerOk : Bool
  compare : Nat
  loopHid : Tab LoopHidden
  barred : List Nat
  dipper : Dipper
  countHi : Option Word
  paceNeg : Bool
  paceWasLow : Bool
  manifest : Option Manifest
  lane : Option Nat
  parked : Option Manifest
  paceDue : Bool
  last : Option LastCommit
  exchanged : Bool := false
  wallAt : DWord := 0
  deriving DecidableEq, Repr

/-! ### Images, firmware, trust (chapters 06 and 21) -/

/-- An image slot: its bytes, how many of how many have been received, and what its sections say once verified. -/
structure ImgSlot where
  bytes : Tab Byte
  received : Nat
  total : Nat
  body : ImageBody
  deriving DecidableEq, Repr

/-- A firmware slot. -/
structure FwSlot where
  bytes : Tab Byte
  received : Nat
  total : Nat
  rollback : Nat
  deriving DecidableEq, Repr

/-- A pending online change (R132): target slot, activation stroke, the change copies of settings and the initial values. -/
structure Change where
  slot : Nat
  stroke : DWord
  copies : List (Nat × Word)
  deriving DecidableEq, Repr

/-- The code store and the security element; `cal` are the two copies of the wellhead calibration record, each with the number of its writing, 0 where it has never
been written (R74, R78, R180). -/
structure Store where
  slots : Tab ImgSlot
  fw : Tab FwSlot
  change : Option Change
  images : Tab (List Byte)
  clients : Tab (List Byte)
  deny : List (List Byte)
  forwarding : Option Nat
  fromRope : Bool
  imageFrom : Option Nat
  fwFrom : Option Nat
  cal : Tab Nat
  deriving DecidableEq, Repr

/-! ### Save areas (chapter 08) -/

/-- A cistern save area (R177): the copy of the cistern and its header; `crcOk` says that its CRC-32C matches what stands before it, as it does once a save has
completed, until an error is found in it. -/
structure Area where
  cells : List Host.Cell
  kind : Nat
  seq : Nat
  stroke : DWord
  prevMode : Nat
  identity : List Byte
  magic : Word
  format : Nat
  crcOk : Bool
  deriving DecidableEq, Repr

/-- Whether an area is valid: the right MAGIC and FORMAT, and a CRC-32C that matches (R178). -/
def Area.valid (a : Area) : Bool := a.magic == 0x54534943#32 && a.format == 1 && a.crcOk

/-- The two areas, the checkpoint in progress with the area it is written to, a held request, whether one is asked for at the next commit,
the highest SAVE_SEQ, the corrections of the present scrub pass and the scrub pointer. -/
structure Saves where
  areas : Tab Area
  running : Option (Nat × Area)
  waiting : Bool
  asked : Bool
  seq : Nat
  failed : Bool
  older : Bool
  passFixes : Nat
  passMany : Bool
  scrubAt : Nat
  scrubbed : Bool
  firstDone : Bool
  deriving DecidableEq, Repr

/-! ### The wellheads (chapters 12 to 14) -/

/-- A digital channel at the island (R234, R239): the raw and filtered state, the run of differing samples, the readback, the shutdowns since
the last reset of the retry count, the commits for which its committed value has stood, and the differing or equal snapshots of R242. -/
structure DioChan where
  raw : Bool
  filtered : Bool
  run : Nat
  readback : Bool
  retries : Nat
  stable : Nat
  mismatch : Nat
  equal : Nat
  deriving DecidableEq, Repr

/-- An encoder: the lines as last decoded, counts and illegal transitions not yet delivered, the counter in the core, whether an illegal
transition came since the last snapshot, a value that the commit at S loads into the counter (R247), the SSI result at the island with its fault, and
both as the core's mirror has them (R231). -/
structure EncChan where
  a : Bool
  b : Bool
  delta : Int
  illegal : Nat
  count : Word
  seen : Bool
  load : Option Word
  result : Word
  fault : Bool
  shown : Word
  shownFault : Bool
  deriving DecidableEq, Repr

/-- The digital wellhead: its channels and encoders, the island's STAT, GRP and encoder fields, the mirror of the input values, the output word
as the latest tick found it (`cut`), the output word passed to it and the one held (R237), groups whose outputs wait for a commit (R243), whether the watchdogs have expired, valid frames have
resumed and the last frame was discarded, whether no valid frame has come since the domain was last restarted (`silent`), whether a commit has passed values to the
island since then (`passed`), the alive counter, and the times of discarded frames. -/
structure Dw where
  chans : Tab DioChan
  encs : Tab EncChan
  island : Tab Word
  mirror : Word
  cut : Word
  out : Word
  hold : Word
  latched : List Nat
  islandDead : Bool
  coreDead : Bool
  resumed : Bool
  lastBad : Bool
  silent : Bool
  passed : Bool
  alive : Option Nat
  discards : List Nat
  deriving DecidableEq, Repr

/-- An analog channel (R253, R255, R257, R261): at the island the filter state, whether it is to be loaded, the latest samples of the HART
filter, and the latest filtered codes with their sample instants, newest first; those codes in the core's mirror; the code of the latest
snapshot; loop supply on and queued; NE 43 counts below and above, what they have confirmed, and whether the latest snapshot found the supply off; the target
of the last commit (whether it is the alarm current, its code in 0.4 µA, and whether that code is a held one, which no strap changes), and the target held. -/
structure AioChan where
  filter : Int
  load : Bool
  samples : List Nat
  hist : List (Nat × Nat)
  mirror : List (Nat × Nat)
  raw : Nat
  supplyOn : Bool
  queued : Bool
  low : Nat
  high : Nat
  isLow : Bool
  isHigh : Bool
  off : Bool
  alarm : Bool
  code : Nat
  fixed : Bool
  hold : Bool × Nat
  deriving DecidableEq, Repr

/-- An analog wellhead: the island's flags, whether the watchdogs have expired and valid frames have resumed, the island in reset, the output
stages off until a commit, which after a reset of the island must come after the link resumes (`waitsLink`), the last frame discarded, no valid frame since the domain or the island last restarted (`silent`),
the alive counter, and the times of discarded frames. -/
structure Aw where
  island : Tab Word
  islandDead : Bool
  coreDead : Bool
  resumed : Bool
  inReset : Bool
  stagesOff : Bool
  waitsLink : Bool
  lastBad : Bool
  silent : Bool
  alive : Option Nat
  discards : List Nat
  deriving DecidableEq, Repr

/-- A HART transaction (R275): command, data, attempts made, whether an attempt is on the line, the task that started it (16 for none),
whether it is a pass-through and for which request (a pass-through without a request has its result discarded), and whether it has completed. -/
structure HartTx where
  command : Nat
  data : List Byte
  attempts : Nat
  sent : Bool
  task : Nat
  pass : Option (Option Req)
  done : Bool := false
  deriving DecidableEq, Repr

/-- A HART request frame (R272): the 38-bit long address, or the polling address in a short frame; whether the modem speaks as secondary master; the
preamble characters; command byte and data. -/
structure HartRequest where
  long : Option Nat
  poll : Nat
  secondary : Bool
  preambles : Nat
  command : Nat
  data : List Byte
  deriving DecidableEq, Repr

/-- A HART channel: the transaction outstanding until its result is taken, one accepted on an older snapshot that waits for its end, its result waiting for
a snapshot, the pending burst frame, attempts of the identification under way, the last identified address, and the result in the snapshot view. -/
structure HartChan where
  tx : Option HartTx
  next : Option HartTx
  result : Option (Nat × HartFrame)
  burst : Option HartFrame
  identify : Option Nat
  uid : Option Nat
  view : Option HartResult
  deriving DecidableEq, Repr

/-! ### CAN and the ring (chapters 15 and 16) -/

/-- A CAN port: the receive store (frames in timestamp order, each with the stroke it came in), transmit buffers, replacements and withdrawals
waiting for a frame on the bus, whether bus-off recovery runs, the frames that reception notices have named with the stroke they came in, and the frame that
the controller offers to arbitration (R290). -/
structure CanPort where
  store : List (CanFrame × Nat)
  tx : Tab (Option CanFrame)
  next : Tab (Option CanFrame)
  abort : List Nat
  recovering : Bool
  notices : List (CanFrame × Nat)
  offered : Option (Nat × CanFrame)
  deriving DecidableEq, Repr

/-- A ring station (R304 to R314): the MAC addresses that claim it with their times, whether its OUT frames carry START, whether its output
version is acknowledged, the time of its last OUT frame, its output records (slot, words, SUBST) at that version, for a removed station
the time until which it is told so, and the version of the first OUT frame sent with START. -/
structure Station where
  claims : List (Nat × Nat)
  needStart : Bool
  ackOk : Bool
  sentAt : Nat
  out : List (Nat × List Word × Bool)
  removedUntil : Option Nat
  startFrom : Option Nat := none
  deriving DecidableEq, Repr

/-- A remote module: its latest accepted records, newest first (R95), the time of the last acceptance, whether one has been accepted since
priming or since its station restarted, the record in the snapshot, and whether the snapshot shows it STALE. -/
structure RioMod where
  kept : List RioRecord
  time : Nat
  fresh : Bool
  taken : Option RioRecord
  stale : Bool
  deriving DecidableEq, Repr

/-- A Wazar frame seen on a ring port: its originator, its SEQ, and when. -/
structure Seen where
  mac : Nat
  seq : Nat
  time : Nat
  deriving DecidableEq, Repr

/-- The ring: stations, modules, the SEQ of frames sent, originators heard with their last SEQ, frames of this CTRL_ADDR seen on P1 and on P2 in
the last 10 ms, when a foreign controller was last reported, stations left unsent by the last commit, and the links of P1 and P2. -/
structure Ring where
  stations : Tab Station
  mods : Tab RioMod
  seq : Nat
  heard : List (Nat × Nat)
  seen1 : List Seen
  seen2 : List Seen
  foreignAt : Option Nat
  late : List Nat
  link1 : Bool
  link2 : Bool
  deriving DecidableEq, Repr

/-! ### The plant network and the host (chapters 17, 20 to 22) -/

/-- Host commands that act at a commit (R414). -/
inductive HostCmd where
  | run | stop | safe | ack | hold
  | varWrite (ws : List (Nat × Word))
  | forceSet (addr : Nat) (v : Word)
  | forceClear (addr : Nat)
  | loop (block cmd : Nat) (operand : Word)
  | hartPass (chan cmd : Nat) (data : List Byte)
  | online (slot : Nat) (ready : Bool)
  | detach
  | switchover
  deriving DecidableEq, Repr

/-- A host command on its way: waiting for the cut, then for the commit; its status once judged; none for a session when it came over the
rope. -/
structure HostReq where
  req : Option Req
  principal : Word
  role : Nat
  cmd : HostCmd
  status : Option Nat
  deriving DecidableEq, Repr

/-- A TRANSFER frame (R353, R354): a page of data SRAM or of a loop block by its number, the pages of another part of the state space as that part
itself, a commit record (register and alias writes, effects, results of the loop engine), or the state of the outputs: the values that the pair holds in STOP or SAFE, the analog channels with
their counts of R257, and the channels that stand on their stop values since an online change (R133, R237, R257, R261, R309). `more` is a further page of one of those
parts, whose content came with the part. -/
inductive Transfer where
  | page (number : Nat) (bytes : List Byte)
  | slots (slots : Slots) (begun : Tab Nat)
  | acts (acts : List Act)
  | loops (hidden : Tab LoopHidden) (dipper : Dipper)
  | regs (fields : List (Nat × Word))
  | can (fifos : Tab (List (CanFrame × Nat))) (boxes : Tab (Option Mailbox)) (ports : Tab CanPort)
  | hart (chans : Tab HartChan)
  | ring (stations : Tab Station) (mods : Tab RioMod)
  | record (writes : List (Nat × Word)) (effects : List (Half × Effect)) (loops : LoopStroke)
  | outputs (dio : Word) (aio : Tab AioChan) (ring : Tab Word) (orphans : List Nat)
  | more (number : Nat)
  deriving DecidableEq, Repr

/-- What leaves the module: replies, frames, pulses. The trace of them is the model's own; the newest is last. A Wazar frame that the module originates stands
there byte for byte, on both ring ports (R300, R302); `wazarForward` is the frame that has just arrived, passed on at a port with the HOPS given; `marker` is the tick marker K28.1 (R338), and `join` a change of the join
flags of STATUS (R341, R352). -/
inductive Out where
  | reply (req : Req) (status : Nat) (body : List Byte)
  | modbus (conn tag unit fn ex : Nat) (values : List Nat)
  | reset (port : Nat)
  | closed (sess status : Nat)
  | arp | icmp | delayReq | ppsPulse
  | hart (chan : Nat) (frame : HartRequest)
  | canOffer (port buf : Nat)
  | wazar (frame : List Byte)
  | wazarForward (port hops : Nat)
  | manifest (m : Manifest)
  | status (x : RopeStatus)
  | transfer (seq : Nat) (t : Transfer)
  | marker | notice (port : Nat) (f : CanFrame)
  | digest (d : DWord) (ok safeA safeB pace : Bool)
  | handover | selftest (pass : Bool)
  | catchup (c : DWord)
  | join (request : Bool) (refusal : Nat)
  | forward (code : Nat) (principal : Word)
  | ropeReply (code status : Nat)
  | image (total : Nat) (bytes : Tab Byte)
  | adopt (images clients deny : List (List Byte))
  | ssiTrigger (n : Nat)
  deriving DecidableEq, Repr

/-- An engineering session: its principal, whether it is authenticated (R402), the places of its unanswered requests in order of receipt, the replies that wait for those of
earlier requests by place, and whether it closes with the last of them (R332). -/
structure Session where
  id : Nat
  usb : Bool
  auth : Bool
  role : Nat
  principal : Word
  cert : List Byte
  anchor : List Byte
  order : List Nat
  ready : List (Nat × Out)
  closing : Bool := false
  deriving DecidableEq, Repr

/-- The network and the engineering protocol: open Modbus connections and their requests not yet answered; PTP (since when the measured offset has
been within 1 µs, a Delay_Req without its response, a two-step Sync without its Follow_Up, the master chosen, the time of the last measurement); sessions, the times of
failed handshakes per address, locked addresses; the queue of host commands that wait for a cut, those a cut has taken, those forwarded to the lead
module; the PTP port's own clock, less the timebase, the path delay, arrival less origin of the latest Sync, a two-step Sync's arrival and corrections, and the
masters heard (R325); and VBUS at the service port (R333). -/
structure Net where
  conns : List Nat
  writes : List MbWrite
  inBand : Option Nat
  delayAsked : Bool
  twoStepOpen : Bool
  ptpMaster : Option Nat
  ptpSince : Nat
  sessions : List Session
  failures : List (Word × Nat)
  locked : List Word
  queue : List HostReq
  taken : List HostReq
  forwarded : List HostReq
  ptpClock : Int := 0
  ptpDelay : Int := 0
  ptpDiff : Int := 0
  syncAt : Nat := 0
  syncCorr : Int := 0
  masters : List PtpMaster := []
  vbus : Bool := false
  deriving DecidableEq, Repr

/-! ### The rope and the bucket (chapter 18) -/

/-- Redundancy state: the rope (lost, ever UP), the partner's latest STATUS, whether PARTNER_PRESENT_n reads absent, the lease and arming
(guard measurement begun, window open), a handover (release frame received, this module takes), the announced role event, strokes skipped, the
divergence self-tests with the stroke and the two digests (lead, shadow) that differed, the row of R347 under which the bucket is wanted (5 marks a takeover whose first tick is due), and a
join: asked for, to be asked for once the rope is UP, barred by the straps, answered, the code of its last refusal, in progress since a time, pages
of the first copy not yet sent, pages dirtied again, a gap in the frames, and the stroke of its catch-up. `tickAt` is the time of the last tick,
`seq` the SEQ of the next frame (R339), `records` the commit records not yet sent, `flight` the pages sent and not yet acknowledged with their SEQ, `lastAck` the
acknowledgement of the joiner's STATUS before, `ack` a joiner's own, `answer` the code with which a request was answered (R341, R354),
`restartAsked` a restart that a task of a shadow module asks for, with the source of the write, until the manifest brings the holder's status (R59). -/
structure Red where
  lost : Bool
  everUp : Bool
  partner : Option RopeStatus
  absent : Bool
  leaseLoaded : Bool
  guarding : Bool
  armedTill : Bool
  release : Bool
  roleEvent : Nat
  roleAt : DWord
  roleAsked : Bool
  taker : Bool
  skipped : Nat
  selfOwn : Option Bool
  selfPartner : Option Bool
  mismatch : Option (DWord × DWord × DWord)
  digestSafe : Nat
  joinAsked : Bool
  joining : Bool
  joinAt : Nat
  dirty : List Nat
  unsent : Nat
  gap : Bool
  ask : Bool
  noJoin : Bool
  strapsSeen : Bool
  answered : Bool
  refusal : Nat
  catchup : Option DWord
  tickAt : Nat
  tickMiss : Nat
  safeRuns : Tab Nat
  laneLost : Bool
  wantBucket : Nat
  restartAsked : Option (Half × Nat)
  seq : Nat := 0
  records : List Transfer := []
  flight : List (Nat × Nat) := []
  lastAck : Option Nat := none
  ack : Nat := 0
  answer : Nat := 0
  deriving DecidableEq, Repr

/-! ### Health (chapter 19) -/

/-- Times of automatic restarts, when timed conditions began to hold, requests refused, latched item causes since priming, the target of the
last accepted domain restart (R61). -/
structure Health where
  restarts : List (Nat × Nat)
  since : Tab (Option Nat)
  refused : List Nat
  passed : List Nat
  overdue : List Nat
  latched : List Nat
  retriedStart : Bool
  leaseEver : Bool
  dioOn : Word
  illegalAt : Tab (Option Nat)
  deferAt : Option Nat
  cause : Option Word
  accepted : Nat
  deriving DecidableEq, Repr

/-! ### The module -/

/-- The module: the register file (one value per field), data memory, the Fytric context that instruction commands act on, and every unit;
`hartQ` holds the HART items waiting for a snapshot as (channel, kind), in order of completion. -/
structure M where
  fields : Tab Word
  mem : List Host.Cell
  fy : Fy
  aon : Aon
  ctl : Ctl
  run : Run
  store : Store
  saves : Saves
  dw : Dw
  aio : Tab AioChan
  aw : Tab Aw
  hart : Tab HartChan
  hartQ : List (Nat × Nat)
  can : Tab CanPort
  fifos : Tab (List (CanFrame × Nat))
  boxes : Tab (Option Mailbox)
  ring : Ring
  net : Net
  red : Red
  hlt : Health
  log : Recorder
  out : List Out
  deriving DecidableEq, Repr

/-! ### The units as a factory module has them -/

/-- As a priming, or the factory, starts it. -/
def DioChan.start : DioChan :=
  { raw := false, filtered := false, run := 0, readback := false, retries := 0, stable := 0, mismatch := 0, equal := 0 }
/-- As a priming, or the factory, starts it. -/
def EncChan.start : EncChan :=
  { a := false, b := false, delta := 0, illegal := 0, count := 0, seen := false, load := none, result := 0, fault := false, shown := 0
    shownFault := false }
/-- As a priming, or the factory, starts it. -/
def AioChan.start : AioChan :=
  { filter := 0, load := true, samples := [], hist := [], mirror := [], raw := 0, supplyOn := false, queued := false, low := 0, high := 0
    isLow := false, isHigh := false, off := false, alarm := false, code := 0, fixed := false, hold := (false, 0) }
/-- As a priming, or the factory, starts it. -/
def Aw.start : Aw :=
  { island := [], islandDead := false, coreDead := false, resumed := false, inReset := false, stagesOff := false, waitsLink := false, lastBad := false, silent := false, alive := none
    discards := [] }
/-- As a priming, or the factory, starts it. -/
def HartChan.start : HartChan := { tx := none, next := none, result := none, burst := none, identify := none, uid := none, view := none }
/-- As a priming, or the factory, starts it. -/
def CanPort.start : CanPort := { store := [], tx := [], next := [], abort := [], recovering := false, notices := [], offered := none }
/-- As a priming, or the factory, starts it. -/
def Station.start : Station :=
  { claims := [], needStart := true, ackOk := false, sentAt := 0, out := [], removedUntil := none }
/-- As a priming, or the factory, starts it. -/
def RioMod.start : RioMod := { kept := [], time := 0, fresh := false, taken := none, stale := true }
/-- Empty. -/
def Area.empty : Area := { cells := [], kind := 0, seq := 0, stroke := 0, prevMode := 2, identity := [], magic := 0, format := 0, crcOk := false }
/-- Empty. -/
def ImgSlot.empty : ImgSlot := { bytes := [], received := 0, total := 0, body := ImageBody.empty }
/-- Empty. -/
def FwSlot.empty : FwSlot := { bytes := [], received := 0, total := 0, rollback := 0 }
/-- Empty. -/
def Fy.empty : Fy := { act := Act.start, slots := Slots.empty }
/-- Empty. -/
def Pend.empty : Pend := { writes := [], effects := [] }

/-- As it leaves the factory, AON just powered. -/
def Aon.factory : Aon :=
  { powered := true, resetLow := false, saving := 0, waiting := false, now := 0, wallOff := 0, coldAsked := false, f3 := false
    lastStroke := 0, mated := false, queue := [], lost := 0, enables := false, dipSince := 0
    railSince := some 0, readyAt := none, alm := [], healthySince := none }
/-- As a priming, or the factory, starts it. -/
def Ctl.start : Ctl :=
  { step8 := false, primed := false, firstCommit := false, cold := true, nextMode := none, ackAt := none, holdSteps := 0, stepping := false, breaks := []
    forces := [], hit := none, held := [], breakHit := false, request := 0, orphans := [], primeAt := 0, inputSeen := 0
    dbgSeen := false, leftOff := [] }
/-- As a priming, or the factory, starts it. -/
def Run.start : Run :=
  { snap := Snap.empty, acts := [], loops := { results := [], groups := [] }, snapWrites := [], pend := Pend.empty, ended := [], begun := []
    slots0 := Slots.empty, begun0 := [], executed := false, abandoned := false
    digest := 0, committed := 0, partner := none, partnerOk := false, compare := 0, loopHid := [], barred := [], dipper := Dipper.empty, countHi := none, paceNeg := false
    paceWasLow := false, manifest := none, lane := none, parked := none, paceDue := false, last := none }
/-- As it leaves the factory, AON just powered. -/
def Store.factory : Store := { slots := [], fw := [], change := none, images := [], clients := [], deny := [], forwarding := none, fromRope := false, imageFrom := none, fwFrom := none, cal := [] }
/-- As it leaves the factory, AON just powered. -/
def Saves.factory : Saves :=
  { areas := [], running := none, waiting := false, asked := false, seq := 0, failed := false, older := false, passFixes := 0, passMany := false
    scrubAt := 0, scrubbed := false, firstDone := false }
/-- As a priming, or the factory, starts it. -/
def Dw.start : Dw :=
  { chans := [], encs := [], island := [], mirror := 0, cut := 0, out := 0, hold := 0, latched := [], islandDead := false, coreDead := false, resumed := false
    lastBad := false, silent := false, passed := false, alive := none, discards := [] }
/-- As a priming, or the factory, starts it. -/
def Ring.start : Ring :=
  { stations := [], mods := [], seq := 0, heard := [], seen1 := [], seen2 := [], foreignAt := none, late := [], link1 := false, link2 := false }
/-- As a priming, or the factory, starts it. -/
def Net.start : Net :=
  { conns := [], writes := [], inBand := none, delayAsked := false, twoStepOpen := false, ptpMaster := none, ptpSince := 0, sessions := [], failures := [], locked := [], queue := [], taken := [], forwarded := [] }
/-- As a priming, or the factory, starts it. -/
def Red.start : Red :=
  { lost := true, everUp := false, partner := none, absent := true, leaseLoaded := false, guarding := false, armedTill := false
    release := false, roleEvent := 0, roleAt := 0, roleAsked := false, taker := false, skipped := 0, selfOwn := none, selfPartner := none
    mismatch := none, digestSafe := 0, joinAsked := false, joining := false, joinAt := 0, dirty := [], unsent := 0, gap := false, ask := false
    noJoin := false, strapsSeen := false, answered := false, refusal := 0, catchup := none, tickAt := 0, tickMiss := 0, safeRuns := [], laneLost := false
    wantBucket := 0, restartAsked := none }
/-- As a priming, or the factory, starts it. -/
def Health.start : Health :=
  { restarts := [], since := [], refused := [], passed := [], overdue := [], latched := [], retriedStart := false, leaseEver := false, dioOn := 0
    illegalAt := [], deferAt := none, cause := none, accepted := 0 }
/-- As it leaves the factory, AON just powered. -/
def Recorder.factory : Recorder := { records := [], opened := none, queue := [], reported := [] }

/-- A factory module (R401: unclaimed, no anchors, no image) right after AON has powered up: mode RESET, every register at its Cold
value. DESIGN CHOICE (log entry 2): the hw fields of ID_STRAPS read 0, and PRESENT_n counts as not mated, until the lines are read. -/
def M.factory : M :=
  { fields := [], mem := [], fy := Fy.empty, aon := Aon.factory, ctl := Ctl.start, run := Run.start, store := Store.factory, saves := Saves.factory
    dw := Dw.start, aio := [], aw := [], hart := [], hartQ := [], can := [], fifos := [], boxes := [], ring := Ring.start, net := Net.start, red := Red.start
    hlt := Health.start, log := Recorder.factory, out := [] }

end Sys2Proof.Machine
end

