-- ==== Sys2Proof/Syntax.lean ====
section
/-! DEFINITION. The commands: one constructor per row of the opcode table, in the table's order, with the operands the row's
rule gives it. The Fytric instructions (ADD to EVT, CANTX to CHECK) act on the module's Fytric context; every other row is an
event at the module's edge, a register write, or a command of the engineering protocol. -/

namespace Sys2Proof

/-- A command of the KC-480. -/
inductive Instr where
  /-- AON_POWER_UP (R50). -/
  | aonPowerUp (now : Nat)
  /-- AON_POWER_DOWN (R50). -/
  | aonPowerDown
  /-- STANDPIPE_READY (R49). -/
  | standpipeReady
  /-- FEED_GOOD (R47). -/
  | feedGood (b : Bool) (v : FeedRead)
  /-- FEED_LOW (R47). -/
  | feedLow (b : Bool) (v : FeedRead)
  /-- FEED_LOST (R47). -/
  | feedLost (b : Bool) (v : FeedRead)
  /-- FEED_OVER (R47). -/
  | feedOver (b : Bool) (v : FeedRead)
  /-- FEED_OVER_END (R47). -/
  | feedOverEnd (b : Bool) (v : FeedRead)
  /-- DIP_BEGIN (R51). -/
  | dipBegin (now : Nat)
  /-- DIP_RIDDEN (R51). -/
  | dipRidden (now : Nat)
  /-- POWER_LOSS (R53). -/
  | powerLoss
  /-- SAVE_DONE (R53). -/
  | saveDone
  /-- RESET_ASSERT (R38). -/
  | resetAssert
  /-- RESET_RELEASE (R38). -/
  | resetRelease
  /-- PRESENT_MATED (R35). -/
  | presentMated
  /-- PRESENT_PARTED (R46). -/
  | presentParted
  /-- PARTNER_ABSENT (R337). -/
  | partnerAbsent
  /-- PARTNER_PRESENT (R337). -/
  | partnerPresent
  /-- SAFE_INPUT_ASSERTED (R39). -/
  | safeInputAsserted (b : Bool)
  /-- DBG_EN_OPEN (R33). -/
  | dbgEnOpen
  /-- PPS_IN_EDGE (R328). -/
  | ppsInEdge (now : Nat) (adj : Int)
  /-- PPS_OUT_PULSE (R40). -/
  | ppsOutPulse
  /-- ALM_STRAP_CHANGE (R262). -/
  | almStrapChange (w : Nat) (fitted : Bool)
  /-- PRIMING (R76). -/
  | priming (x : PrimingIn)
  /-- PRIMING_TIMEOUT (R77). -/
  | primingTimeout
  /-- PRIMING_RETRY (R80). -/
  | primingRetry
  /-- STROKE_TICK (R87). -/
  | strokeTick (x : TickIn)
  /-- DIGEST_EXCHANGE (R102). -/
  | digestExchange (done : Bool) (sent records : Nat)
  /-- DIGEST_COMPARE (R102). -/
  | digestCompare
  /-- DIVERGENCE_SELFTEST (R351). -/
  | divergenceSelftest (pass : SelfTest)
  /-- SELFTEST_TIMEOUT (R351). -/
  | selftestTimeout
  /-- PACE_MEASUREMENT (R103). -/
  | paceMeasurement (margin : PaceMeas)
  /-- LOCK_SOURCE_LOST (R83). -/
  | lockSourceLost
  /-- LOCK_SOURCE_RETURN (R83). -/
  | lockSourceReturn (adj : Int)
  /-- TIMEBASE_FAULT (R365). -/
  | timebaseFault
  /-- ENGINE_RAIL (R365). -/
  | engineRail (e : Nat)
  /-- LOOP_RAIL (R365). -/
  | loopRail
  /-- MEM_RAIL (R365). -/
  | memRail
  /-- SCRUB_READ (R170). -/
  | scrubRead (errors : Nat)
  /-- CHECKPOINT_DONE (R175). -/
  | checkpointDone (good : Bool)
  /-- VERIFIER_DONE (R112). -/
  | verifierDone (slot : Nat) (b : ImageBody)
  /-- FW_CHECK_DONE (R407). -/
  | fwCheckDone (slot : Nat)
  /-- DOMAIN_RETURN (R57). -/
  | domainReturn (t : Nat)
  /-- ENGINE_SELFTEST_PASS (R367). -/
  | engineSelftestPass (e : Nat) (good : Bool)
  /-- SELFTEST_OVERDUE (R367). -/
  | selftestOverdue (e : Nat)
  /-- PROOF_MARK_SET (R368). -/
  | proofMarkSet (n : Nat) (on : Bool)
  /-- PROOF_MARK_EXPIRED (R368). -/
  | proofMarkExpired (n : Nat) (on : Bool)
  /-- HEALTHY_CLOSE (R374). -/
  | healthyClose (now : Nat)
  /-- NET_FAULT (R365). -/
  | netFault
  /-- SECURE_FAULT (R365). -/
  | secureFault
  /-- RECORD_WRITE (R385). -/
  | recordWrite
  /-- DW_LINK_FRAME (R231). -/
  | dwLinkFrame (x : DwFrame)
  /-- AW_LINK_FRAME (R267). -/
  | awLinkFrame (x : AwFrame)
  /-- ISLAND_WATCHDOG_EXPIRED (R232). -/
  | islandWatchdogExpired (wellhead : Nat)
  /-- DW_LINK_LOST (R232). -/
  | dwLinkLost
  /-- AW_LINK_LOST (R267). -/
  | awLinkLost (w : Nat)
  /-- WIRE_BREAK (R233). -/
  | wireBreak (n : Nat)
  /-- THERMAL_SHUTDOWN (R239). -/
  | thermalShutdown (n : Nat)
  /-- THERMAL_RETRY (R239). -/
  | thermalRetry (n : Nat)
  /-- GROUP_OVERCURRENT (R239). -/
  | groupOvercurrent (g : Nat)
  /-- EXTERNAL_DRIVE (R240). -/
  | externalDrive (n : Nat)
  /-- SWITCH_FAULT (R240). -/
  | switchFault (n : Nat)
  /-- DG_SUPPLY_LOW (R243). -/
  | dgSupplyLow (g : Nat)
  /-- DG_SUPPLY_LOST (R243). -/
  | dgSupplyLost (g : Nat)
  /-- GROUP_RESTORE_TIMER (R243). -/
  | groupRestoreTimer (g : Nat)
  /-- SSI_READ_DONE (R248). -/
  | ssiReadDone (n v : Nat) (fault : Bool)
  /-- ENC_LINE_LOSS (R246). -/
  | encLineLoss (n : Nat)
  /-- ENC_SUPPLY_OVERLOAD (R245). -/
  | encSupplyOverload
  /-- ENC_SUPPLY_RETRY (R245). -/
  | encSupplyRetry (ok : Bool)
  /-- SUPPLY_SWITCH_ON (R253). -/
  | supplySwitchOn (w : Nat)
  /-- SUPPLY_SHORT (R269). -/
  | supplyShort (n : Nat)
  /-- COMPLIANCE_SHORT (R263). -/
  | complianceShort (n : Nat)
  /-- OPEN_LOOP (R263). -/
  | openLoop (n : Nat)
  /-- READBACK_FAULT (R263). -/
  | readbackFault (n : Nat)
  /-- AW_RESERVOIR_LOW (R266). -/
  | awReservoirLow (w : Nat)
  /-- RESERVOIR_RECOVERED (R266). -/
  | reservoirRecovered (w : Nat)
  /-- AW_ISLAND_RESET (R266). -/
  | awIslandReset (w : Nat)
  /-- REFERENCE_CHECK (R268). -/
  | referenceCheck (w : Nat) (ok : Bool)
  /-- HART_RESPONSE (R275). -/
  | hartResponse (n : Nat) (f : HartFrame)
  /-- HART_RT1_TIMEOUT (R275). -/
  | hartRt1Timeout (n : Nat)
  /-- HART_IDENTIFY_TIMER (R273). -/
  | hartIdentifyTimer (n : Nat)
  /-- HART_BURST_FRAME (R277). -/
  | hartBurstFrame (n : Nat) (f : HartFrame)
  /-- CAN_FRAME_RECEIVED (R285). -/
  | canFrameReceived (p : Nat) (x : CanRx)
  /-- CAN_FRAME_SENT (R291). -/
  | canFrameSent (p b : Nat)
  /-- CAN_BUS_ERROR (R295). -/
  | canBusError (p : Nat) (e : CanError)
  /-- CAN_RECOVERED (R295). -/
  | canRecovered (p : Nat)
  /-- PROTOCOL_EXCEPTION (R282). -/
  | protocolException (p : Nat)
  /-- REMOTE_FRAME (R282). -/
  | remoteFrame (p : Nat)
  /-- TXD_DOMINANT_TIMEOUT (R282). -/
  | txdDominantTimeout (p : Nat) (sending : Bool) (more : Nat)
  /-- WAZAR_IN (R307). -/
  | wazarIn (x : WazarIn)
  /-- WAZAR_IDENT_RSP (R305). -/
  | wazarIdentRsp (x : WazarIdent)
  /-- WAZAR_OUT_RECEIVED (R312). -/
  | wazarOutReceived (h : WazarHead)
  /-- IDENT_REQ_TIMER (R305). -/
  | identReqTimer (n : Nat)
  /-- RIO_RING_OPEN (R312). -/
  | rioRingOpen (now : Nat)
  /-- CONFLICT_END (R306). -/
  | conflictEnd (n : Nat)
  /-- ARP_REQUEST (R317). -/
  | arpRequest (target : Word)
  /-- ICMP_ECHO (R317). -/
  | icmpEcho (target : Word)
  /-- MODBUS_CONNECT (R324). -/
  | modbusConnect (conn : Nat)
  /-- MODBUS_IDLE_TIMEOUT (R324). -/
  | modbusIdleTimeout (conn : Nat)
  /-- READ_COILS (R321). -/
  | readCoils (r : MbReq) (quantity : Nat)
  /-- READ_DISCRETE_INPUTS (R321). -/
  | readDiscreteInputs (r : MbReq) (quantity : Nat)
  /-- READ_HOLDING_REGISTERS (R321). -/
  | readHoldingRegisters (r : MbReq) (quantity : Nat)
  /-- READ_INPUT_REGISTERS (R321). -/
  | readInputRegisters (r : MbReq) (quantity : Nat)
  /-- WRITE_SINGLE_COIL (R322). -/
  | writeSingleCoil (r : MbReq) (value : Nat)
  /-- WRITE_SINGLE_REGISTER (R322). -/
  | writeSingleRegister (r : MbReq) (value : Nat)
  /-- WRITE_MULTIPLE_COILS (R322). -/
  | writeMultipleCoils (r : MbReq) (quantity bytes : Nat) (values : List Nat)
  /-- WRITE_MULTIPLE_REGISTERS (R322). -/
  | writeMultipleRegisters (r : MbReq) (quantity bytes : Nat) (values : List Nat)
  /-- READ_WRITE_MULTIPLE_REGISTERS (R323). -/
  | readWriteMultipleRegisters (r : MbReq) (readStart readQuantity quantity bytes : Nat) (values : List Nat)
  /-- PTP_SYNC (R328). -/
  | ptpSync (domain master : Nat) (twoStep : Bool) (x : PtpMeas)
  /-- PTP_FOLLOW_UP (R325). -/
  | ptpFollowUp (domain master : Nat) (x : PtpMeas)
  /-- PTP_DELAY_RESP (R325). -/
  | ptpDelayResp (domain : Nat) (x : PtpDelay)
  /-- PTP_ANNOUNCE (R325). -/
  | ptpAnnounce (domain : Nat) (x : PtpMaster)
  /-- DELAY_REQ_TIMER (R325). -/
  | delayReqTimer
  /-- PTP_SYNC_TIMEOUT (R326). -/
  | ptpSyncTimeout
  /-- SESSION_OPEN (R330). -/
  | sessionOpen (h : Handshake)
  /-- SESSION_IDLE_TIMEOUT (R330). -/
  | sessionIdleTimeout (id : Nat)
  /-- AUTH_LOCKOUT_END (R398). -/
  | authLockoutEnd (addr : Word)
  /-- USB_ATTACH (R333). -/
  | usbAttach
  /-- USB_DETACH (R333). -/
  | usbDetach
  /-- ROPE_LANE_UP (R338). -/
  | ropeLaneUp (lane : Nat)
  /-- ROPE_LANE_LOST (R338). -/
  | ropeLaneLost (lane : Nat)
  /-- ROPE_LOST (R338). -/
  | ropeLost (long : Bool)
  /-- ROPE_RESTORED (R338). -/
  | ropeRestored
  /-- TICK_MARKER (R338). -/
  | tickMarker (offset adj : Int)
  /-- ROPE_STATUS (R341). -/
  | ropeStatus (x : RopeStatus)
  /-- ROPE_MANIFEST (R95). -/
  | ropeManifest (m : Manifest)
  /-- MANIFEST_LATE (R95). -/
  | manifestLate
  /-- RX_NOTICE (R289). -/
  | rxNotice (p : Nat) (x : CanFrame)
  /-- ROPE_DIGEST (R102). -/
  | ropeDigest (d : DWord) (ok safeA safeB pace : Bool)
  /-- TRANSFER (R354). -/
  | transfer (t : Machine.Transfer) (gap : TransferSeq)
  /-- CATCHUP (R355). -/
  | catchup (c : DWord)
  /-- ROPE_IMAGE (R358). -/
  | ropeImage (x : RopeImage)
  /-- ROPE_COMMAND (R337). -/
  | ropeCommand (x : RopeCommand)
  /-- HANDOVER_RELEASED (R350). -/
  | handoverReleased
  /-- SELFTEST_PASS (R351). -/
  | selftestPass
  /-- SELFTEST_FAIL (R351). -/
  | selftestFail
  /-- BUCKET_LINE_CHANGE (R345). -/
  | bucketLineChange (held : Bool)
  /-- BUCKET_TAKE (R347). -/
  | bucketTake (twice signal : Bool)
  /-- BUCKET_STUCK (R347). -/
  | bucketStuck
  /-- LEASE_LAPSED (R344). -/
  | leaseLapsed
  /-- ARMED_WINDOW_END (R348). -/
  | armedWindowEnd
  /-- JOIN_TIMEOUT (R356). -/
  | joinTimeout
  /-- JOIN_RETRY (R352). -/
  | joinRetry
  /-- PWR_RESTART (R59). -/
  | pwrRestart (task : Nat) (target : Word)
  /-- REQUEST_STOP (R82). -/
  | requestStop (task : Nat)
  /-- REQUEST_SAFE (R82). -/
  | requestSafe (task : Nat)
  /-- CKPT_NOW (R174). -/
  | ckptNow (task : Nat) (interval : Word)
  /-- DIO_UNLATCH (R239). -/
  | dioUnlatch (task : Nat) (mask : Word)
  /-- GROUP_ACK (R244). -/
  | groupAck (task : Nat) (w : Word)
  /-- ENC_LOAD (R247). -/
  | encLoad (task n : Nat) (w : Word)
  /-- CAN_TX_ABORT (R291). -/
  | canTxAbort (task port : Nat) (mask : Word)
  /-- RECOVER (R295). -/
  | recover (task port : Nat)
  /-- DIO_OUT_SET (R238). -/
  | dioOutSet (task : Nat) (mask : Word)
  /-- DIO_OUT_CLR (R238). -/
  | dioOutClr (task : Nat) (mask : Word)
  /-- BIT_SET_ALIAS (R91). -/
  | bitSetAlias (task addr : Nat) (mask : Word)
  /-- BIT_CLEAR_ALIAS (R91). -/
  | bitClearAlias (task addr : Nat) (mask : Word)
  /-- CLEAR_STRAP_CHANGED (R34). -/
  | clearStrapChanged (task : Nat)
  /-- CLEAR_CAN_FLAGS (R298). -/
  | clearCanFlags (task port : Nat) (bits : Word)
  /-- STK_COUNT_LO_READ (R86). -/
  | stkCountLoRead (r : Req)
  /-- REGISTER_WRITE (R116). -/
  | registerWrite (task addr : Nat) (w : Word)
  /-- ADD (R142). -/
  | add (d a : RegNo) (b : Src)
  /-- SUB (R142). -/
  | sub (d a : RegNo) (b : Src)
  /-- ADDU (R142). -/
  | addu (d a : RegNo) (b : Src)
  /-- SUBU (R142). -/
  | subu (d a : RegNo) (b : Src)
  /-- AND (R142). -/
  | and (d a : RegNo) (b : Src)
  /-- OR (R142). -/
  | or (d a : RegNo) (b : Src)
  /-- XOR (R142). -/
  | xor (d a : RegNo) (b : Src)
  /-- ANDN (R142). -/
  | andn (d a : RegNo) (b : Src)
  /-- SHL (R142). -/
  | shl (d a : RegNo) (b : Src)
  /-- SHR (R142). -/
  | shr (d a : RegNo) (b : Src)
  /-- SAR (R142). -/
  | sar (d a : RegNo) (b : Src)
  /-- MIN (R142). -/
  | min (d a : RegNo) (b : Src)
  /-- MAX (R142). -/
  | max (d a : RegNo) (b : Src)
  /-- MINU (R142). -/
  | minu (d a : RegNo) (b : Src)
  /-- MAXU (R142). -/
  | maxu (d a : RegNo) (b : Src)
  /-- MUL (R142). -/
  | mul (d a : RegNo) (b : Src)
  /-- MULU (R142). -/
  | mulu (d a : RegNo) (b : Src)
  /-- DIV (R142). -/
  | div (d a : RegNo) (b : Src)
  /-- DIVU (R142). -/
  | divu (d a : RegNo) (b : Src)
  /-- REM (R142). -/
  | rem (d a : RegNo) (b : Src)
  /-- REMU (R142). -/
  | remu (d a : RegNo) (b : Src)
  /-- NEG (R142). -/
  | neg (d a : RegNo)
  /-- ABS (R142). -/
  | abs (d a : RegNo)
  /-- CMOV (R142). -/
  | cmov (d a : RegNo) (b : Src)
  /-- EQ (R142). -/
  | eq (d a : RegNo) (b : Src)
  /-- NE (R142). -/
  | ne (d a : RegNo) (b : Src)
  /-- LT (R142). -/
  | lt (d a : RegNo) (b : Src)
  /-- LE (R142). -/
  | le (d a : RegNo) (b : Src)
  /-- LTU (R142). -/
  | ltu (d a : RegNo) (b : Src)
  /-- LEU (R142). -/
  | leu (d a : RegNo) (b : Src)
  /-- NOT (R142). -/
  | not (d a : RegNo)
  /-- FADD (R143). -/
  | fadd (d a : RegNo) (b : Src)
  /-- FSUB (R143). -/
  | fsub (d a : RegNo) (b : Src)
  /-- FMUL (R143). -/
  | fmul (d a : RegNo) (b : Src)
  /-- FDIV (R143). -/
  | fdiv (d a : RegNo) (b : Src)
  /-- FSQRT (R143). -/
  | fsqrt (d a : RegNo)
  /-- FMIN (R143). -/
  | fmin (d a : RegNo) (b : Src)
  /-- FMAX (R143). -/
  | fmax (d a : RegNo) (b : Src)
  /-- FABS (R143). -/
  | fabs (d a : RegNo)
  /-- FNEG (R143). -/
  | fneg (d a : RegNo)
  /-- FEQ (R143). -/
  | feq (d a : RegNo) (b : Src)
  /-- FLT (R143). -/
  | flt (d a : RegNo) (b : Src)
  /-- FLE (R143). -/
  | fle (d a : RegNo) (b : Src)
  /-- ITOF (R143). -/
  | itof (d a : RegNo)
  /-- UTOF (R143). -/
  | utof (d a : RegNo)
  /-- FTOI (R143). -/
  | ftoi (d a : RegNo)
  /-- FTOIZ (R143). -/
  | ftoiz (d a : RegNo)
  /-- FTOU (R143). -/
  | ftou (d a : RegNo)
  /-- ADD64 (R144). -/
  | add64 (d a b : RegNo)
  /-- SUB64 (R144). -/
  | sub64 (d a b : RegNo)
  /-- MUL64 (R144). -/
  | mul64 (d a b : RegNo)
  /-- DIV64 (R144). -/
  | div64 (d a b : RegNo)
  /-- REM64 (R144). -/
  | rem64 (d a b : RegNo)
  /-- NEG64 (R144). -/
  | neg64 (d a : RegNo)
  /-- EQ64 (R144). -/
  | eq64 (d a b : RegNo)
  /-- LT64 (R144). -/
  | lt64 (d a b : RegNo)
  /-- SX64 (R144). -/
  | sx64 (d a : RegNo)
  /-- ZX64 (R144). -/
  | zx64 (d a : RegNo)
  /-- SAT32 (R144). -/
  | sat32 (d a : RegNo)
  /-- TOF64 (R144). -/
  | tof64 (d a : RegNo)
  /-- FTO64 (R144). -/
  | fto64 (d a : RegNo)
  /-- MOVI (R144). -/
  | movi (d : RegNo) (w : Word)
  /-- LD (R145). -/
  | ld (d a : RegNo) (x : Access)
  /-- ST (R145). -/
  | st (b a : RegNo) (x : Access)
  /-- BR (R147). -/
  | br (off : Word)
  /-- BRT (R147). -/
  | brt (ra : RegNo) (off : Word)
  /-- BRF (R147). -/
  | brf (ra : RegNo) (off : Word)
  /-- LOOP (R148). -/
  | loop (d ra : RegNo) (bound len : Nat)
  /-- CALL (R149). -/
  | call (entry : Nat)
  /-- RET (R147). -/
  | ret
  /-- END (R147). -/
  | endTask
  /-- NOP (R147). -/
  | nop
  /-- RISE (R151). -/
  | rise (d ra : RegNo) (n : Nat)
  /-- FALL (R151). -/
  | fall (d ra : RegNo) (n : Nat)
  /-- CHANGE (R151). -/
  | change (d ra : RegNo) (n : Nat)
  /-- TON (R151). -/
  | ton (d ra rb : RegNo) (n : Nat)
  /-- TOF (R151). -/
  | tof (d ra rb : RegNo) (n : Nat)
  /-- TP (R151). -/
  | tp (d ra rb : RegNo) (n : Nat)
  /-- TRD (R151). -/
  | trd (d : RegNo) (n : Nat)
  /-- TRST (R151). -/
  | trst (n : Nat)
  /-- CTU (R151). -/
  | ctu (d ra rb rp : RegNo) (n : Nat)
  /-- CTD (R151). -/
  | ctd (d ra rb rp : RegNo) (n : Nat)
  /-- CRD (R151). -/
  | crd (d : RegNo) (n : Nat)
  /-- CLD (R151). -/
  | cld (ra : RegNo) (n : Nat)
  /-- STROKE (R152). -/
  | stroke (d : RegNo)
  /-- TASKID (R152). -/
  | taskid (d : RegNo)
  /-- EVT (R152). -/
  | evt (d ra : RegNo) (code : Nat)
  /-- AUTO (R195). -/
  | auto (d : RegNo) (block : Nat)
  /-- MANUAL (R195). -/
  | manual (d : RegNo) (block : Nat)
  /-- TUNE_START (R219). -/
  | tuneStart (who : LoopBy) (block : Nat) (rule : Word)
  /-- TUNE_ACCEPT (R224). -/
  | tuneAccept (who : LoopBy) (block : Nat)
  /-- TUNE_DISCARD (R224). -/
  | tuneDiscard (who : LoopBy) (block : Nat)
  /-- TUNE_ABORT (R222). -/
  | tuneAbort (who : LoopBy) (block : Nat)
  /-- INJECT_START (R227). -/
  | injectStart (who : LoopBy) (block : Nat)
  /-- INJECT_STOP (R228). -/
  | injectStop (who : LoopBy) (block : Nat)
  /-- CANTX (R156). -/
  | cantx (d : RegNo) (port buf base : Nat)
  /-- CANPOP (R156). -/
  | canpop (d : RegNo) (port fifo base : Nat)
  /-- CANMB (R156). -/
  | canmb (d : RegNo) (port mailbox base : Nat)
  /-- HREQ (R157). -/
  | hreq (d : RegNo) (chan : Nat) (arr : ArrRef)
  /-- HRES (R157). -/
  | hres (d : RegNo) (chan : Nat) (arr : ArrRef)
  /-- CRC (R159). -/
  | crc (d ra : RegNo) (k : CrcKind) (arr : ArrRef)
  /-- CRCC (R159). -/
  | crcc (d ra rb : RegNo) (k : CrcKind) (arr : ArrRef)
  /-- SEAL (R161). -/
  | seal (d ra : RegNo) (k : CrcKind) (arr : ArrRef) (slot : Nat)
  /-- CHECK (R161). -/
  | check (d ra : RegNo) (k : CrcKind) (arr : ArrRef) (slot : Nat)
  /-- REG_READ (R117). -/
  | regRead (r : Req) (addr count : Nat)
  /-- VAR_READ (R117). -/
  | varRead (r : Req) (addr : Nat) (count : ReadSpan)
  /-- VAR_WRITE (R125). -/
  | varWrite (r : Req) (ws : List (Nat × Word))
  /-- DIPPER_READ (R230). -/
  | dipperRead (r : Req) (first count : Nat)
  /-- MODE_RUN (R66). -/
  | modeRun (r : Req)
  /-- MODE_STOP (R66). -/
  | modeStop (r : Req)
  /-- MODE_SAFE (R71). -/
  | modeSafe (r : Req)
  /-- SAFE_ACK (R73). -/
  | safeAck (r : Req)
  /-- MODE_HOLD (R68). -/
  | modeHold (r : Req)
  /-- HOLD_STEP (R69). -/
  | holdStep (r : Req) (count : Nat)
  /-- BREAK_SET (R68). -/
  | breakSet (r : Req) (index task off : Nat)
  /-- BREAK_CLEAR (R68). -/
  | breakClear (r : Req) (index : Nat)
  /-- FORCE_SET (R70). -/
  | forceSet (r : Req) (addr : Nat) (v : Word)
  /-- FORCE_CLEAR (R70). -/
  | forceClear (r : Req) (addr : Nat)
  /-- RESTART (R74). -/
  | restart (r : Req) (kind : Nat)
  /-- IMAGE_DOWNLOAD (R126). -/
  | imageDownload (r : Req) (offset total : Nat) (data : List Byte)
  /-- ACTIVATE_AT_RESTART (R128). -/
  | activateAtRestart (r : Req) (slot : Nat)
  /-- ACTIVATE_ONLINE (R131). -/
  | activateOnline (r : Req) (slot : OnlineSlot)
  /-- FW_DOWNLOAD (R407). -/
  | fwDownload (r : Req) (offset total : Nat) (data : List Byte)
  /-- FW_ACTIVATE (R408). -/
  | fwActivate (r : Req) (slot : Nat)
  /-- DOMAIN_RESTART (R57). -/
  | domainRestart (r : Req) (target : Nat)
  /-- HART_PASS (R278). -/
  | hartPass (r : Req) (chan cmd : Nat) (data : List Byte)
  /-- CLOCK_SET (R328). -/
  | clockSet (r : Req) (time : DWord)
  /-- DETACH (R357). -/
  | detach (r : Req)
  /-- JOIN (R352). -/
  | join (r : Req)
  /-- SWITCHOVER (R350). -/
  | switchover (r : Req)
  /-- TAKE_BUCKET (R347). -/
  | takeBucket (r : Req)
  /-- LOG_READ (R387). -/
  | logRead (r : Req) (first : Word) (count : Nat) (crcBad : List Nat) (eccBad : LogEcc)
  /-- LOG_CLEAR (R388). -/
  | logClear (r : Req) (upto : Word)
  /-- CLAIM (R401). -/
  | claim (r : Req) (client : List Byte) (images : List (List Byte))
  /-- UNCLAIM (R402). -/
  | unclaim (r : Req)
  /-- ANCHOR_ADD (R400). -/
  | anchorAdd (r : Req) (set : Nat) (content : List Byte)
  /-- ANCHOR_REMOVE (R400). -/
  | anchorRemove (r : Req) (set place : Nat)
  /-- DENY_ADD (R400). -/
  | denyAdd (r : Req) (print : List Byte)
  /-- DENY_REMOVE (R400). -/
  | denyRemove (r : Req) (print : List Byte)
  /-- ANCHOR_READ (R399). -/
  | anchorRead (r : Req) (set : Nat)
  /-- DEVICE_ATTEST (R405). -/
  | deviceAttest (r : Req) (nonce : List Byte)
  /-- DIO_SAMPLE (R234). -/
  | dioSample (x : DioMeas)
  /-- ANALOG_SAMPLE (R255). -/
  | analogSample (x : AwMeas)
  /-- QUADRATURE_TRANSITION (R247). -/
  | quadratureTransition (n : Nat) (a b : Bool)
  /-- WIRE_BREAK_CLEARED (R245). -/
  | wireBreakCleared (n : Nat)
  /-- EXTERNAL_DRIVE_CLEARED (R245). -/
  | externalDriveCleared (n : Nat)
  /-- RETRY_COUNT_RESET (R239). -/
  | retryCountReset (n : Nat)
  /-- DG_SUPPLY_GOOD (R243). -/
  | dgSupplyGood (g : Nat)
  /-- ENC_LINE_VALID (R245). -/
  | encLineValid (n : Nat)
  /-- SUPPLY_RETRY (R269). -/
  | supplyRetry (n : Nat)
  /-- SUPPLY_SHORT_CLEARED (R269). -/
  | supplyShortCleared (n : Nat)
  /-- COMPLIANCE_SHORT_CLEARED (R263). -/
  | complianceShortCleared (n : Nat)
  /-- OPEN_LOOP_CLEARED (R263). -/
  | openLoopCleared (n : Nat)
  /-- READBACK_FAULT_CLEARED (R263). -/
  | readbackFaultCleared (n : Nat)
  /-- AW_ISLAND_RESTART (R266). -/
  | awIslandRestart (w : Nat)
  /-- SAFE_INPUT_RELEASED (R39). -/
  | safeInputReleased (b : Bool)
  /-- DBG_EN_FITTED (R33). -/
  | dbgEnFitted
  /-- ETHERNET_LINK_UP (R317). -/
  | ethernetLinkUp (port : Nat) (gig : Bool)
  /-- ETHERNET_LINK_DOWN (R312). -/
  | ethernetLinkDown (port : Nat)
  /-- UNKNOWN_FRAME (R300). -/
  | unknownFrame (port hops : Nat) (drop : Bool)
  /-- P3_DROPPED_FRAME (R317). -/
  | p3DroppedFrame
  /-- MODBUS_UNSUPPORTED_FUNCTION (R320). -/
  | modbusUnsupportedFunction (r : MbReq) (fn : Nat)
  /-- MALFORMED_HEADER (R332). -/
  | malformedHeader (r : Req) (code : Nat)
  /-- UNKNOWN_COMMAND (R332). -/
  | unknownCommand (r : Req) (code : Nat)
  /-- ROPE_CRC_ERROR (R339). -/
  | ropeCrcError (lost : Nat)
  /-- BECOMES_SAFE_DRIVER (R336). -/
  | becomesSafeDriver
  deriving DecidableEq, Repr

end Sys2Proof
end

