-- ==== Sys2Proof/Decode.lean ====
section
/-! DEFINITION. Commands spelled by words. The opcode table gives no row any bits, so no word spells a command. (The encoding of FY2
code, R135 to R159, is read where the Fytric engine runs it, in Machine/Interp.lean.) -/

namespace Sys2Proof

/-- The command that a word of `nbits` bits spells by the table's bits: the table gives none. -/
def decodeTableWord (nbits w : Nat) : Option Instr :=
  match nbits, w with
  | _, _ => none

end Sys2Proof
end

