-- ==== Sys2Proof/Config.lean ====
section
/-! DEFINITION. What an implementation fixes and what the spec leaves open: every constant here is without a body, so nothing
can be proved from its value. -/

namespace Sys2Proof.Config

/-- What CANPOP, CANMB and HRES leave in the bytes of their buffer past the data of the frame or result (chapter 07 states none);
the argument is the byte's place in the data field. -/
opaque padByte : Nat → Byte

/-- Response code (0) and field device status (1) of a HART result to which no response belongs (R157 states none). -/
opaque noResponse : Nat → Byte

/-- What TASKID returns in the priming section, which is no task (R152 gives the number of the executing task). -/
opaque primingTaskId : Word

/-- CAUSE of a health item that changes without an event (R369 gives the event code of its last change). -/
opaque causeless : Nat → Word

/-- What the free-running 10 MHz counter of the CAN timestamps reads at time 0 of the timebase (R289 gives no start). -/
opaque canCounterStart : Word

/-- Where in 119 to 127 a REC above 127 goes when a frame is received without error (ISO 11898-1, to which R295 refers, gives the range): the argument is REC. -/
opaque canRecBack : Nat → Nat

/-- The 8 check bits of a storage word, a Hsiao SECDED code over its 64 data bits (R168, which gives no matrix). -/
opaque hsiao : BitVec 64 → Byte

/-- The verifier tables of the running firmware in MRAM (R180 gives their place alone). -/
opaque verifierTable : Nat → Byte

/-- The bytes of the region of system records in MRAM (R180 gives its place and what it holds, not how). -/
opaque systemRecord : Nat → Byte

/-- The CRC field of a CAN frame (ISO 11898-1, to which R282 refers), as RX_NOTICE and manifests carry it (R340, R342): IDE, identifier, FDF, BRS, ESI, data. -/
opaque canCrc : Bool → Nat → Bool → Bool → Bool → List Byte → Nat

/-- The wellhead mirror format of the local field values of a manifest (R342 gives the sizes of its parts alone): the fields, raw codes, dead wellheads and LINK_SKIP
bits that stand in it. -/
opaque localFormat : List (Nat × Word) → List (Nat × Nat) → List Nat → Nat → List Byte

/-- Pages of 256 bytes of the state space beside data SRAM, the loop blocks and one for each of its other parts (R353 gives no number). -/
opaque otherPages : Nat

/-- STANDPIPE_PCT while a dip or the power-loss sequence drains the standpipe, and until it is ready again: the argument is the time at which the dip
began or the sequence was triggered (R49 gives no load). -/
opaque standpipePct : Nat → Nat

/-- SHA-256, which the spec names (R109, R396, R406) and takes from outside: a function of the bytes, nothing else known of it. -/
opaque sha256 : List Byte → List Byte

/-- Whether an Ed25519 signature over a message verifies under a key (R108, R405), taken from outside: key, message, signature. -/
opaque ed25519 : List Byte → List Byte → List Byte → Bool

/-- The signature that the device key makes over a statement (R405). -/
opaque deviceSign : List Byte → List Byte

/-- The two firmware anchors, fixed at manufacture (R399). -/
opaque firmwareAnchor : Nat → List Byte

/-- What stands for the set in ANCHOR_CHANGED: image anchors (0), client anchors (1), the deny list (2) (R399 gives no coding). -/
opaque anchorSet : Nat → Nat

/-- Whether 32 bytes are an Ed25519 public key (R400). -/
opaque keyOk : List Byte → Bool

/-- Whether the certificate checks of the security element find the DER certificate fit to be a client anchor (R400). -/
opaque certificateOk : List Byte → Bool

end Sys2Proof.Config
end

