-- ==== Sys2Proof/Machine/Real32.lean ====
section
/-! DEFINITION. REAL32 arithmetic of the Fytric engines and of the loop engine (R119, R141, R143): exact results over natural
numbers and integers, rounded once to nearest even; subnormals read and written as zero; no trap, no NaN, no infinity. -/

namespace Sys2Proof.Machine

/-- A finite REAL32 value: sign, significand and exponent, the value being ± sig × 2^exp. -/
structure RealVal where
  neg : Bool
  sig : Nat
  exp : Int
  deriving DecidableEq, Repr

/-- Largest finite REAL32 magnitude. -/
def realMaxBits : Nat := 0x7F7FFFFF

/-- A signed zero or magnitude as a REAL32 word. -/
def realBits (neg : Bool) (mag : Nat) : Word := word (mag + if neg then 0x80000000 else 0)

/-- The value a REAL32 operand is read as (R141): NaN as +0.0, infinity as the maximum finite value, a subnormal as a zero of
its sign. -/
def realOf (w : Word) : RealVal :=
  let neg := w.toNat / 0x80000000 == 1
  let e := w.bits 30 23
  let f := w.bits 22 0
  if e = 255 then (if f = 0 then ⟨neg, 0xFFFFFF, 104⟩ else ⟨false, 0, 0⟩)
  else if e = 0 then ⟨neg, 0, 0⟩
  else ⟨neg, 0x800000 + f, (e : Int) - 150⟩

/-- Number of bits of `n`. -/
def bitLen (n : Nat) : Nat := if n = 0 then 0 else Nat.log2 n + 1

/-- `n / 2^s`, rounded to nearest, ties to even. -/
def shiftEven (n s : Nat) : Nat :=
  let q := n >>> s
  let r := n - q <<< s
  let h := 2 ^ s
  if 2 * r > h ∨ (2 * r = h ∧ q % 2 = 1) then q + 1 else q

/-- The exact value ± n × 2^e, n not 0, as a REAL32 word: rounded to nearest even to 24 significand bits with no limit on the
exponent, then 0.0 of its sign below 2^−126 and the maximum finite value of its sign on overflow (R141). -/
def roundReal (neg : Bool) (n : Nat) (e : Int) : Word :=
  if n = 0 then realBits neg 0
  else
    let l := bitLen n
    let q := if l ≤ 24 then n <<< (24 - l) else shiftEven n (l - 24)
    let x : Int := e + (l : Int) - 24
    let (q, x) := if q = 0x1000000 then (0x800000, x + 1) else (q, x)
    let b : Int := x + 150
    if b ≥ 255 then realBits neg realMaxBits
    else if b ≤ 0 then realBits neg 0
    else realBits neg (b.toNat * 0x800000 + (q - 0x800000))

/-- The signed integer significands of two values on their smaller exponent. -/
def realAlign (a b : RealVal) : Int × Int × Int :=
  let e := min a.exp b.exp
  let g (r : RealVal) : Int := (if r.neg then -1 else 1) * (r.sig <<< (r.exp - e).toNat : Nat)
  (g a, g b, e)

/-- A value that is read as itself, put back into a word. -/
def realPut (r : RealVal) : Word := roundReal r.neg r.sig r.exp

/-- The value a REAL32 operand is read as, as a word: no NaN, no infinity, no subnormal (R141). -/
def realRead (w : Word) : Word := realPut (realOf w)

/-- FADD: a + b (R143). Zeros of both signs give +0.0, two −0.0 give −0.0, an exact cancellation gives +0.0. -/
def realAdd (x y : Word) : Word :=
  let a := realOf x
  let b := realOf y
  if a.sig = 0 ∧ b.sig = 0 then realBits (a.neg && b.neg) 0
  else if a.sig = 0 then realPut b
  else if b.sig = 0 then realPut a
  else
    let (i, j, e) := realAlign a b
    let s := i + j
    if s = 0 then realBits false 0 else roundReal (decide (s < 0)) s.natAbs e

/-- FNEG: −a. -/
def realNeg (x : Word) : Word := let a := realOf x; realPut { a with neg := !a.neg }

/-- FABS: |a|. -/
def realAbs (x : Word) : Word := realPut { realOf x with neg := false }

/-- FSUB: a − b. -/
def realSub (x y : Word) : Word := realAdd x (realNeg y)

/-- FMUL: a × b. -/
def realMul (x y : Word) : Word :=
  let a := realOf x
  let b := realOf y
  roundReal (a.neg != b.neg) (a.sig * b.sig) (a.exp + b.exp)

/-- FDIV: a / b. A zero divisor counts as +0.0: x / 0 is the maximum finite value of x's sign, 0 / 0 is 0.0 (R141). -/
def realDiv (x y : Word) : Word :=
  let a := realOf x
  let b := realOf y
  if b.sig = 0 then (if a.sig = 0 then realBits false 0 else realBits a.neg realMaxBits)
  else
    let n := a.sig <<< 64
    let q := n / b.sig
    let st := if n % b.sig = 0 then 0 else 1
    roundReal (a.neg != b.neg) (2 * q + st) (a.exp - b.exp - 65)

/-- Floor of the square root of `n` below `2^k`, bit by bit. -/
def isqrt (n : Nat) : Nat → Nat → Nat
  | 0, r => r
  | k + 1, r => let c := r + 2 ^ k; if c * c ≤ n then isqrt n k c else isqrt n k r

/-- FSQRT: the square root of a; 0.0 when a < 0 (R141). -/
def realSqrt (x : Word) : Word :=
  let a := realOf x
  if a.sig = 0 then realPut a
  else if a.neg then realBits false 0
  else
    let odd := a.exp % 2 ≠ 0
    let n := if odd then a.sig <<< 61 else a.sig <<< 60
    let e := if odd then a.exp - 61 else a.exp - 60
    let r := isqrt n 43 0
    let st := if r * r = n then 0 else 1
    roundReal false (2 * r + st) (e / 2 - 1)

/-- The sign of a − b: a < b, a = b, a > b; +0.0 equals −0.0. -/
def realCmp (x y : Word) : Ordering :=
  let (i, j, _) := realAlign (realOf x) (realOf y)
  compare i j

/-- FEQ: a = b. -/
def realEq (x y : Word) : Bool := realCmp x y == .eq

/-- FLT: a < b. -/
def realLt (x y : Word) : Bool := realCmp x y == .lt

/-- FLE: a ≤ b. -/
def realLe (x y : Word) : Bool := realCmp x y != .gt

/-- FMIN: the smaller of a and b; of +0.0 and −0.0, −0.0 (R143). -/
def realMin (x y : Word) : Word :=
  match realCmp x y with
  | .lt => realRead x
  | .gt => realRead y
  | .eq => if (realOf x).neg then realRead x else realRead y

/-- FMAX: the larger of a and b; of +0.0 and −0.0, +0.0 (R143). -/
def realMax (x y : Word) : Word :=
  match realCmp x y with
  | .lt => realRead y
  | .gt => realRead x
  | .eq => if (realOf x).neg then realRead y else realRead x

/-- An integer as REAL32, rounded to nearest even; the integer 0 is +0.0. -/
def realOfInt (i : Int) : Word := roundReal (decide (i < 0)) i.natAbs 0

/-- A REAL32 value as an integer, rounded to nearest even. -/
def realRound (x : Word) : Int :=
  let a := realOf x
  let m : Nat := if 0 ≤ a.exp then a.sig <<< a.exp.toNat else shiftEven a.sig (-a.exp).toNat
  if a.neg then -(m : Int) else m

/-- A REAL32 value as an integer, rounded toward zero. -/
def realTrunc (x : Word) : Int :=
  let a := realOf x
  let m : Nat := if 0 ≤ a.exp then a.sig <<< a.exp.toNat else a.sig >>> (-a.exp).toNat
  if a.neg then -(m : Int) else m

/-- A REAL32 value limited to `lo .. hi`. -/
def realClamp (lo hi x : Word) : Word := realMax lo (realMin hi x)

/-- REAL32 constants used by the control law: 1.0, 0.5, 2.0. -/
def realOne : Word := 0x3F800000#32
def realHalf : Word := 0x3F000000#32
def realTwo : Word := 0x40000000#32

end Sys2Proof.Machine
end

