-- ==== Sys2Proof/Machine/SysMap.lean ====
section
/-! DEFINITION. The registers of SYS space and loop block space (R183 to R186, R419, and the field tables of every block): for
each field its register, its bits, its access code (R8), its legal values (R11) and what the Cold and Warm columns give (R10). -/

namespace Sys2Proof.Machine

/-- Access codes (R8). -/
inductive FieldAccess where
  | ro
  | rw
  | w1s
  | w1c
  | rc
  | wo
  deriving DecidableEq, Repr

/-- How a value outside the legal ones is stored (R11): `any` every value is legal; `range` unsigned, clamped; `srange` signed in
the field, clamped; `enum` codes above the first take the second; `real` REAL32, clamped; `mask` bits outside are stored as 0;
`ip` an address of 0.0.0.0/8, 127.0.0.0/8 or 224.0.0.0/3 is stored as 0 (R334). -/
inductive FieldClamp where
  | any
  | range (lo hi : Nat)
  | srange (lo hi : Int)
  | enum (top fallback : Nat)
  | real (lo hi : Nat)
  | mask (m : Nat)
  | ip
  deriving DecidableEq, Repr

/-- One field of a register or register array: the address of element 0, stride and count of up to two indices, bits `[hi:lo]`,
access, legal values, the value after a cold priming, whether a cold and a warm priming keep or recompute it instead (kept, hw,
cal, Image value), and the address at which it is stored where that is another register (DIO_OUT_SET and DIO_OUT_CLR, R238). -/
structure FieldSpec where
  base : Nat
  s1 : Nat
  c1 : Nat
  s2 : Nat
  c2 : Nat
  hi : Nat
  lo : Nat
  acc : FieldAccess
  clamp : FieldClamp
  cold : Nat
  coldKept : Bool
  warmKept : Bool
  home : Nat
  deriving DecidableEq, Repr

/-- The key of a field in the register file: its register address and its lowest bit. -/
def fieldKey (addr lo : Nat) : Nat := addr * 32 + lo

/-- Fields of the Identity block. -/
def mapIdentity : List FieldSpec :=
  [⟨0x40000040, 0x0, 1, 0x0, 1, 14, 14, .w1c, .any, 0x0, false, false, 0x40000040⟩,
   ⟨0x40000040, 0x0, 1, 0x0, 1, 13, 13, .ro, .any, 0x0, true, true, 0x40000040⟩,
   ⟨0x40000040, 0x0, 1, 0x0, 1, 12, 12, .ro, .any, 0x0, true, true, 0x40000040⟩,
   ⟨0x40000040, 0x0, 1, 0x0, 1, 11, 11, .ro, .any, 0x0, true, true, 0x40000040⟩,
   ⟨0x40000040, 0x0, 1, 0x0, 1, 10, 10, .ro, .any, 0x0, true, true, 0x40000040⟩,
   ⟨0x40000040, 0x0, 1, 0x0, 1, 9, 9, .ro, .any, 0x0, true, true, 0x40000040⟩,
   ⟨0x40000040, 0x0, 1, 0x0, 1, 8, 8, .ro, .any, 0x0, true, true, 0x40000040⟩,
   ⟨0x40000040, 0x0, 1, 0x0, 1, 7, 7, .ro, .any, 0x0, true, true, 0x40000040⟩,
   ⟨0x40000040, 0x0, 1, 0x0, 1, 6, 6, .ro, .any, 0x0, true, true, 0x40000040⟩,
   ⟨0x40000040, 0x0, 1, 0x0, 1, 5, 0, .ro, .any, 0x0, true, true, 0x40000040⟩,
   ⟨0x40000080, 0x10, 2, 0x0, 1, 31, 31, .ro, .any, 0x0, true, true, 0x40000080⟩,
   ⟨0x40000080, 0x10, 2, 0x0, 1, 30, 30, .ro, .any, 0x0, true, true, 0x40000080⟩,
   ⟨0x40000080, 0x10, 2, 0x0, 1, 29, 27, .ro, .any, 0x0, true, true, 0x40000080⟩,
   ⟨0x40000080, 0x10, 2, 0x0, 1, 20, 16, .ro, .any, 0x0, true, true, 0x40000080⟩,
   ⟨0x40000080, 0x10, 2, 0x0, 1, 2, 0, .ro, .any, 0x0, true, true, 0x40000080⟩,
   ⟨0x40000084, 0x10, 2, 0x0, 1, 31, 0, .ro, .any, 0x0, true, true, 0x40000084⟩,
   ⟨0x40000088, 0x10, 2, 0x0, 1, 31, 0, .ro, .any, 0x0, true, true, 0x40000088⟩,
   ⟨0x4000008C, 0x10, 2, 0x0, 1, 31, 0, .ro, .any, 0x0, true, true, 0x4000008C⟩,
   ⟨0x400000A0, 0x0, 1, 0x0, 1, 31, 31, .ro, .any, 0x0, false, false, 0x400000A0⟩,
   ⟨0x400000A0, 0x0, 1, 0x0, 1, 30, 30, .ro, .any, 0x0, false, false, 0x400000A0⟩,
   ⟨0x400000A0, 0x0, 1, 0x0, 1, 23, 16, .ro, .any, 0x0, false, false, 0x400000A0⟩,
   ⟨0x400000A0, 0x0, 1, 0x0, 1, 3, 0, .ro, .any, 0x0, false, false, 0x400000A0⟩,
   ⟨0x40000000, 0x0, 1, 0x0, 1, 31, 16, .ro, .any, 0x0, true, true, 0x40000000⟩,
   ⟨0x40000000, 0x0, 1, 0x0, 1, 15, 8, .ro, .any, 0x0, true, true, 0x40000000⟩,
   ⟨0x40000000, 0x0, 1, 0x0, 1, 7, 0, .ro, .any, 0x0, true, true, 0x40000000⟩,
   ⟨0x40000004, 0x0, 1, 0x0, 1, 31, 0, .ro, .any, 0x0, true, true, 0x40000004⟩,
   ⟨0x40000008, 0x0, 1, 0x0, 1, 31, 0, .ro, .any, 0x0, true, true, 0x40000008⟩,
   ⟨0x4000000C, 0x0, 1, 0x0, 1, 31, 0, .ro, .any, 0x0, true, true, 0x4000000C⟩]

/-- Fields of the Mode block. -/
def mapMode : List FieldSpec :=
  [⟨0x40001000, 0x0, 1, 0x0, 1, 24, 24, .ro, .any, 0x0, true, true, 0x40001000⟩,
   ⟨0x40001000, 0x0, 1, 0x0, 1, 23, 20, .ro, .any, 0x0, true, false, 0x40001000⟩,
   ⟨0x40001000, 0x0, 1, 0x0, 1, 16, 16, .ro, .any, 0x0, false, false, 0x40001000⟩,
   ⟨0x40001000, 0x0, 1, 0x0, 1, 15, 12, .ro, .any, 0x0, false, false, 0x40001000⟩,
   ⟨0x40001000, 0x0, 1, 0x0, 1, 11, 8, .ro, .any, 0x0, true, true, 0x40001000⟩,
   ⟨0x40001000, 0x0, 1, 0x0, 1, 2, 0, .ro, .any, 0x1, false, false, 0x40001000⟩,
   ⟨0x40001004, 0x0, 1, 0x0, 1, 2, 1, .rw, (.enum 2 0), 0x0, false, false, 0x40001004⟩,
   ⟨0x40001004, 0x0, 1, 0x0, 1, 0, 0, .rw, .any, 0x0, false, false, 0x40001004⟩,
   ⟨0x40001008, 0x0, 1, 0x0, 1, 31, 16, .ro, .any, 0x0, true, true, 0x40001008⟩,
   ⟨0x40001008, 0x0, 1, 0x0, 1, 3, 2, .ro, .any, 0x0, true, true, 0x40001008⟩,
   ⟨0x40001008, 0x0, 1, 0x0, 1, 1, 0, .ro, .any, 0x0, true, true, 0x40001008⟩,
   ⟨0x4000100C, 0x0, 1, 0x0, 1, 2, 0, .ro, .any, 0x0, true, true, 0x4000100C⟩,
   ⟨0x40001010, 0x0, 1, 0x0, 1, 1, 0, .wo, (.enum 2 0), 0x0, false, false, 0x40001010⟩,
   ⟨0x40001014, 0x0, 1, 0x0, 1, 8, 8, .ro, .any, 0x0, false, false, 0x40001014⟩,
   ⟨0x40001014, 0x0, 1, 0x0, 1, 2, 0, .ro, .any, 0x0, false, false, 0x40001014⟩,
   ⟨0x40001018, 0x0, 1, 0x0, 1, 31, 0, .ro, .any, 0x0, false, false, 0x40001018⟩,
   ⟨0x4000101C, 0x0, 1, 0x0, 1, 31, 0, .ro, .any, 0x0, false, false, 0x4000101C⟩]

/-- Fields of the Stroke block. -/
def mapStroke : List FieldSpec :=
  [⟨0x40002000, 0x0, 1, 0x0, 1, 31, 16, .ro, .any, 0x0, true, true, 0x40002000⟩,
   ⟨0x40002000, 0x0, 1, 0x0, 1, 15, 0, .ro, .any, 0x0, true, true, 0x40002000⟩,
   ⟨0x40002004, 0x0, 1, 0x0, 1, 31, 0, .ro, .any, 0x0, false, true, 0x40002004⟩,
   ⟨0x40002008, 0x0, 1, 0x0, 1, 31, 0, .ro, .any, 0x0, false, true, 0x40002008⟩,
   ⟨0x4000200C, 0x0, 1, 0x0, 1, 31, 16, .ro, .any, 0x0, false, false, 0x4000200C⟩,
   ⟨0x4000200C, 0x0, 1, 0x0, 1, 9, 8, .ro, .any, 0x0, false, false, 0x4000200C⟩,
   ⟨0x4000200C, 0x0, 1, 0x0, 1, 2, 2, .rw, .any, 0x0, false, false, 0x4000200C⟩,
   ⟨0x4000200C, 0x0, 1, 0x0, 1, 1, 0, .rw, (.enum 2 0), 0x0, false, false, 0x4000200C⟩,
   ⟨0x40002010, 0x0, 1, 0x0, 1, 31, 16, .ro, .any, 0x0, true, true, 0x40002010⟩,
   ⟨0x40002010, 0x0, 1, 0x0, 1, 15, 0, .ro, .any, 0x0, true, true, 0x40002010⟩,
   ⟨0x40002014, 0x0, 1, 0x0, 1, 15, 0, .rw, (.range 0 500), 0x32, false, false, 0x40002014⟩,
   ⟨0x40002018, 0x0, 1, 0x0, 1, 31, 16, .ro, .any, 0x0, false, false, 0x40002018⟩,
   ⟨0x40002018, 0x0, 1, 0x0, 1, 15, 0, .ro, .any, 0x0, false, false, 0x40002018⟩,
   ⟨0x4000201C, 0x0, 1, 0x0, 1, 31, 16, .ro, .any, 0x0, false, false, 0x4000201C⟩,
   ⟨0x4000201C, 0x0, 1, 0x0, 1, 15, 0, .ro, .any, 0x0, true, true, 0x4000201C⟩,
   ⟨0x40002020, 0x0, 1, 0x0, 1, 31, 0, .ro, .any, 0x0, false, false, 0x40002020⟩,
   ⟨0x40002024, 0x0, 1, 0x0, 1, 31, 0, .ro, .any, 0x0, false, false, 0x40002024⟩,
   ⟨0x40002028, 0x0, 1, 0x0, 1, 31, 16, .ro, .any, 0x0, false, false, 0x40002028⟩,
   ⟨0x40002028, 0x0, 1, 0x0, 1, 15, 0, .ro, .any, 0x0, false, false, 0x40002028⟩,
   ⟨0x40002030, 0x8, 4, 0x0, 1, 22, 0, .ro, .any, 0x0, true, true, 0x40002030⟩,
   ⟨0x40002034, 0x8, 4, 0x0, 1, 22, 0, .ro, .any, 0x0, true, true, 0x40002034⟩,
   ⟨0x40002100, 0x10, 16, 0x0, 1, 31, 31, .ro, .any, 0x0, true, true, 0x40002100⟩,
   ⟨0x40002100, 0x10, 16, 0x0, 1, 30, 30, .rw, .any, 0x0, true, true, 0x40002100⟩,
   ⟨0x40002100, 0x10, 16, 0x0, 1, 29, 29, .ro, .any, 0x0, true, true, 0x40002100⟩,
   ⟨0x40002100, 0x10, 16, 0x0, 1, 25, 24, .ro, .any, 0x0, true, true, 0x40002100⟩,
   ⟨0x40002100, 0x10, 16, 0x0, 1, 15, 0, .ro, .any, 0x0, true, true, 0x40002100⟩,
   ⟨0x40002104, 0x10, 16, 0x0, 1, 15, 0, .ro, .any, 0x0, true, true, 0x40002104⟩,
   ⟨0x40002108, 0x10, 16, 0x0, 1, 22, 0, .ro, .any, 0x0, true, true, 0x40002108⟩,
   ⟨0x4000210C, 0x10, 16, 0x0, 1, 31, 0, .ro, .any, 0x0, false, false, 0x4000210C⟩]

/-- Fields of the Health block. -/
def mapHealth : List FieldSpec :=
  [⟨0x40003800, 0x0, 1, 0x0, 1, 31, 16, .ro, .any, 0x0, false, false, 0x40003800⟩,
   ⟨0x40003800, 0x0, 1, 0x0, 1, 15, 0, .ro, .any, 0x0, false, false, 0x40003800⟩,
   ⟨0x40003804, 0x0, 1, 0x0, 1, 23, 3, .ro, .any, 0x0, false, false, 0x40003804⟩,
   ⟨0x40003808, 0x0, 1, 0x0, 1, 31, 0, .ro, .any, 0x0, false, false, 0x40003808⟩,
   ⟨0x4000380C, 0x0, 1, 0x0, 1, 12, 12, .wo, .any, 0x0, false, false, 0x4000380C⟩,
   ⟨0x4000380C, 0x0, 1, 0x0, 1, 11, 0, .rw, (.range 1 3600), 0xA, false, false, 0x4000380C⟩,
   ⟨0x40003810, 0x0, 1, 0x0, 1, 31, 31, .ro, .any, 0x0, false, false, 0x40003810⟩,
   ⟨0x40003810, 0x0, 1, 0x0, 1, 30, 30, .ro, .any, 0x0, true, true, 0x40003810⟩,
   ⟨0x40003810, 0x0, 1, 0x0, 1, 29, 29, .ro, .any, 0x0, true, true, 0x40003810⟩,
   ⟨0x40003810, 0x0, 1, 0x0, 1, 28, 28, .ro, .any, 0x0, true, true, 0x40003810⟩,
   ⟨0x40003810, 0x0, 1, 0x0, 1, 15, 0, .ro, .any, 0x0, false, false, 0x40003810⟩,
   ⟨0x40003814, 0x0, 1, 0x0, 1, 31, 0, .ro, .any, 0x0, true, true, 0x40003814⟩,
   ⟨0x40003818, 0x0, 1, 0x0, 1, 31, 0, .ro, .any, 0x0, true, true, 0x40003818⟩,
   ⟨0x4000381C, 0x0, 1, 0x0, 1, 31, 0, .ro, .any, 0x0, true, true, 0x4000381C⟩,
   ⟨0x40003000, 0x0, 1, 0x0, 1, 31, 24, .ro, .any, 0x0, false, false, 0x40003000⟩,
   ⟨0x40003000, 0x0, 1, 0x0, 1, 23, 16, .ro, .any, 0x0, false, false, 0x40003000⟩,
   ⟨0x40003000, 0x0, 1, 0x0, 1, 9, 9, .ro, .any, 0x0, false, false, 0x40003000⟩,
   ⟨0x40003000, 0x0, 1, 0x0, 1, 8, 8, .ro, .any, 0x0, false, false, 0x40003000⟩,
   ⟨0x40003000, 0x0, 1, 0x0, 1, 1, 0, .ro, .any, 0x0, false, false, 0x40003000⟩,
   ⟨0x40003004, 0x4, 4, 0x0, 1, 31, 0, .ro, .any, 0x0, true, true, 0x40003004⟩,
   ⟨0x40003014, 0x0, 1, 0x0, 1, 24, 16, .rw, (.range 0 365), 0x0, false, false, 0x40003014⟩,
   ⟨0x40003014, 0x0, 1, 0x0, 1, 4, 0, .rw, .any, 0x3, false, false, 0x40003014⟩,
   ⟨0x40003018, 0x0, 1, 0x0, 1, 31, 0, .rw, .any, 0x1FFF, false, false, 0x40003018⟩,
   ⟨0x4000301C, 0x0, 1, 0x0, 1, 31, 0, .rw, .any, 0x0, false, false, 0x4000301C⟩,
   ⟨0x40003020, 0x0, 1, 0x0, 1, 16, 16, .rw, .any, 0x1, false, false, 0x40003020⟩,
   ⟨0x40003020, 0x0, 1, 0x0, 1, 15, 0, .rw, .any, 0xFFFF, false, false, 0x40003020⟩,
   ⟨0x40003024, 0x0, 1, 0x0, 1, 31, 16, .ro, .any, 0x0, true, true, 0x40003024⟩,
   ⟨0x40003024, 0x0, 1, 0x0, 1, 15, 0, .ro, .any, 0x0, true, true, 0x40003024⟩,
   ⟨0x40003028, 0x0, 1, 0x0, 1, 31, 0, .ro, .any, 0x0, true, true, 0x40003028⟩,
   ⟨0x4000302C, 0x0, 1, 0x0, 1, 31, 0, .ro, .any, 0x0, true, true, 0x4000302C⟩,
   ⟨0x40003030, 0x0, 1, 0x0, 1, 24, 20, .ro, .any, 0x0, false, false, 0x40003030⟩,
   ⟨0x40003030, 0x0, 1, 0x0, 1, 19, 0, .ro, .any, 0x0, false, false, 0x40003030⟩,
   ⟨0x40003034, 0x0, 1, 0x0, 1, 31, 0, .ro, .any, 0x0, false, false, 0x40003034⟩,
   ⟨0x40003038, 0x0, 1, 0x0, 1, 31, 0, .ro, .any, 0x0, false, false, 0x40003038⟩,
   ⟨0x4000303C, 0x0, 1, 0x0, 1, 3, 3, .ro, .any, 0x0, false, true, 0x4000303C⟩,
   ⟨0x4000303C, 0x0, 1, 0x0, 1, 2, 2, .ro, .any, 0x0, false, true, 0x4000303C⟩,
   ⟨0x4000303C, 0x0, 1, 0x0, 1, 1, 1, .ro, .any, 0x0, false, false, 0x4000303C⟩,
   ⟨0x4000303C, 0x0, 1, 0x0, 1, 0, 0, .ro, .any, 0x0, false, false, 0x4000303C⟩,
   ⟨0x40003100, 0x10, 64, 0x0, 1, 31, 16, .ro, .any, 0x0, false, false, 0x40003100⟩,
   ⟨0x40003100, 0x10, 64, 0x0, 1, 1, 0, .ro, .any, 0x0, true, true, 0x40003100⟩] ++
  [⟨0x40003104, 0x10, 64, 0x0, 1, 31, 0, .ro, .any, 0x0, false, false, 0x40003104⟩,
   ⟨0x40003108, 0x10, 64, 0x0, 1, 31, 0, .ro, .any, 0x0, false, false, 0x40003108⟩,
   ⟨0x4000310C, 0x10, 64, 0x0, 1, 31, 0, .ro, .any, 0x0, false, false, 0x4000310C⟩]

/-- Fields of the Power block. -/
def mapPower : List FieldSpec :=
  [⟨0x40004000, 0x0, 1, 0x0, 1, 23, 16, .ro, .any, 0x0, true, true, 0x40004000⟩,
   ⟨0x40004000, 0x0, 1, 0x0, 1, 9, 9, .ro, .any, 0x0, true, true, 0x40004000⟩,
   ⟨0x40004000, 0x0, 1, 0x0, 1, 8, 8, .ro, .any, 0x0, true, true, 0x40004000⟩,
   ⟨0x40004000, 0x0, 1, 0x0, 1, 3, 2, .ro, .any, 0x0, true, true, 0x40004000⟩,
   ⟨0x40004000, 0x0, 1, 0x0, 1, 1, 0, .ro, .any, 0x0, true, true, 0x40004000⟩,
   ⟨0x40004004, 0x0, 1, 0x0, 1, 31, 16, .ro, .any, 0x0, true, true, 0x40004004⟩,
   ⟨0x40004004, 0x0, 1, 0x0, 1, 15, 0, .ro, .any, 0x0, true, true, 0x40004004⟩,
   ⟨0x40004008, 0x0, 1, 0x0, 1, 31, 16, .ro, .any, 0x0, false, true, 0x40004008⟩,
   ⟨0x40004008, 0x0, 1, 0x0, 1, 15, 0, .ro, .any, 0x0, false, true, 0x40004008⟩,
   ⟨0x4000400C, 0x0, 1, 0x0, 1, 20, 16, .ro, .any, 0x0, false, false, 0x4000400C⟩,
   ⟨0x4000400C, 0x0, 1, 0x0, 1, 8, 0, .ro, .any, 0x0, true, true, 0x4000400C⟩,
   ⟨0x40004010, 0x0, 1, 0x0, 1, 10, 10, .rw, .any, 0x0, false, false, 0x40004010⟩,
   ⟨0x40004010, 0x0, 1, 0x0, 1, 9, 9, .rw, .any, 0x0, false, false, 0x40004010⟩,
   ⟨0x40004010, 0x0, 1, 0x0, 1, 8, 8, .rw, .any, 0x0, false, false, 0x40004010⟩,
   ⟨0x40004010, 0x0, 1, 0x0, 1, 3, 3, .rw, .any, 0x1, false, false, 0x40004010⟩,
   ⟨0x40004010, 0x0, 1, 0x0, 1, 2, 2, .rw, .any, 0x1, false, false, 0x40004010⟩,
   ⟨0x40004010, 0x0, 1, 0x0, 1, 1, 1, .rw, .any, 0x1, false, false, 0x40004010⟩,
   ⟨0x40004010, 0x0, 1, 0x0, 1, 0, 0, .rw, .any, 0x1, false, false, 0x40004010⟩,
   ⟨0x40004014, 0x0, 1, 0x0, 1, 2, 0, .wo, (.range 0 5), 0x0, false, false, 0x40004014⟩,
   ⟨0x40004018, 0x0, 1, 0x0, 1, 16, 16, .ro, .any, 0x0, false, false, 0x40004018⟩,
   ⟨0x40004018, 0x0, 1, 0x0, 1, 15, 8, .ro, .any, 0x0, false, false, 0x40004018⟩,
   ⟨0x40004018, 0x0, 1, 0x0, 1, 2, 0, .ro, .any, 0x0, false, false, 0x40004018⟩]

/-- Fields of the Digital block. -/
def mapDigital : List FieldSpec :=
  [⟨0x40010000, 0x4, 32, 0x0, 1, 13, 13, .rw, .any, 0x0, false, false, 0x40010000⟩,
   ⟨0x40010000, 0x4, 32, 0x0, 1, 12, 11, .rw, (.enum 2 0), 0x0, false, false, 0x40010000⟩,
   ⟨0x40010000, 0x4, 32, 0x0, 1, 10, 10, .rw, .any, 0x0, false, false, 0x40010000⟩,
   ⟨0x40010000, 0x4, 32, 0x0, 1, 9, 8, .rw, (.enum 2 0), 0x0, false, false, 0x40010000⟩,
   ⟨0x40010000, 0x4, 32, 0x0, 1, 7, 7, .rw, .any, 0x0, false, false, 0x40010000⟩,
   ⟨0x40010000, 0x4, 32, 0x0, 1, 6, 6, .rw, .any, 0x0, false, false, 0x40010000⟩,
   ⟨0x40010000, 0x4, 32, 0x0, 1, 4, 2, .rw, (.enum 6 3), 0x4, false, false, 0x40010000⟩,
   ⟨0x40010000, 0x4, 32, 0x0, 1, 1, 1, .rw, .any, 0x0, false, false, 0x40010000⟩,
   ⟨0x40010000, 0x4, 32, 0x0, 1, 0, 0, .rw, .any, 0x0, false, false, 0x40010000⟩,
   ⟨0x40010080, 0x0, 1, 0x0, 1, 31, 0, .rw, .any, 0x0, false, false, 0x40010080⟩,
   ⟨0x40010084, 0x0, 1, 0x0, 1, 31, 0, .w1s, .any, 0x0, false, false, 0x40010080⟩,
   ⟨0x40010088, 0x0, 1, 0x0, 1, 31, 0, .w1c, .any, 0x0, false, false, 0x40010080⟩,
   ⟨0x4001008C, 0x0, 1, 0x0, 1, 31, 0, .ro, .any, 0x0, false, false, 0x4001008C⟩,
   ⟨0x40010090, 0x0, 1, 0x0, 1, 31, 0, .ro, .any, 0x0, false, false, 0x40010090⟩,
   ⟨0x40010094, 0x0, 1, 0x0, 1, 31, 0, .wo, .any, 0x0, false, false, 0x40010094⟩,
   ⟨0x40010098, 0x0, 1, 0x0, 1, 7, 4, .wo, .any, 0x0, false, false, 0x40010098⟩,
   ⟨0x40010098, 0x0, 1, 0x0, 1, 3, 0, .rw, .any, 0x0, false, false, 0x40010098⟩,
   ⟨0x4001009C, 0x0, 1, 0x0, 1, 13, 0, .rw, (.range 50 10000), 0x3E8, false, false, 0x4001009C⟩,
   ⟨0x400100A0, 0x0, 1, 0x0, 1, 31, 16, .ro, .any, 0x0, false, false, 0x400100A0⟩,
   ⟨0x400100A0, 0x0, 1, 0x0, 1, 15, 8, .ro, .any, 0x0, false, false, 0x400100A0⟩,
   ⟨0x400100A0, 0x0, 1, 0x0, 1, 7, 0, .ro, .any, 0x0, false, false, 0x400100A0⟩,
   ⟨0x400100B0, 0x4, 4, 0x0, 1, 31, 16, .ro, .any, 0x0, true, true, 0x400100B0⟩,
   ⟨0x400100B0, 0x4, 4, 0x0, 1, 15, 8, .ro, .any, 0x0, true, true, 0x400100B0⟩,
   ⟨0x400100B0, 0x4, 4, 0x0, 1, 1, 0, .ro, .any, 0x0, true, true, 0x400100B0⟩,
   ⟨0x40010100, 0x4, 32, 0x0, 1, 31, 24, .ro, .any, 0x0, false, false, 0x40010100⟩,
   ⟨0x40010100, 0x4, 32, 0x0, 1, 7, 7, .ro, .any, 0x0, false, false, 0x40010100⟩,
   ⟨0x40010100, 0x4, 32, 0x0, 1, 6, 6, .ro, .any, 0x0, false, false, 0x40010100⟩,
   ⟨0x40010100, 0x4, 32, 0x0, 1, 5, 5, .ro, .any, 0x0, false, false, 0x40010100⟩,
   ⟨0x40010100, 0x4, 32, 0x0, 1, 4, 4, .ro, .any, 0x0, false, false, 0x40010100⟩,
   ⟨0x40010100, 0x4, 32, 0x0, 1, 3, 3, .ro, .any, 0x0, false, false, 0x40010100⟩,
   ⟨0x40010100, 0x4, 32, 0x0, 1, 2, 2, .ro, .any, 0x0, false, false, 0x40010100⟩,
   ⟨0x40010100, 0x4, 32, 0x0, 1, 1, 1, .ro, .any, 0x0, false, false, 0x40010100⟩]

/-- Fields of the Analog block. -/
def mapAnalog : List FieldSpec :=
  [⟨0x40020000, 0x20, 16, 0x0, 1, 15, 14, .rw, (.enum 2 0), 0x0, false, false, 0x40020000⟩,
   ⟨0x40020000, 0x20, 16, 0x0, 1, 13, 12, .rw, (.enum 2 0), 0x0, false, false, 0x40020000⟩,
   ⟨0x40020000, 0x20, 16, 0x0, 1, 11, 10, .rw, (.enum 2 0), 0x0, false, false, 0x40020000⟩,
   ⟨0x40020000, 0x20, 16, 0x0, 1, 9, 9, .rw, .any, 0x0, false, false, 0x40020000⟩,
   ⟨0x40020000, 0x20, 16, 0x0, 1, 8, 8, .rw, .any, 0x1, false, false, 0x40020000⟩,
   ⟨0x40020000, 0x20, 16, 0x0, 1, 7, 7, .rw, .any, 0x1, false, false, 0x40020000⟩,
   ⟨0x40020000, 0x20, 16, 0x0, 1, 6, 5, .rw, (.enum 2 0), 0x0, false, false, 0x40020000⟩,
   ⟨0x40020000, 0x20, 16, 0x0, 1, 4, 2, .rw, (.enum 4 0), 0x0, false, false, 0x40020000⟩,
   ⟨0x40020000, 0x20, 16, 0x0, 1, 1, 0, .rw, .any, 0x0, false, false, 0x40020000⟩,
   ⟨0x40020004, 0x20, 16, 0x0, 1, 31, 16, .rw, (.range 0 10000), 0x3E8, false, false, 0x40020004⟩,
   ⟨0x40020004, 0x20, 16, 0x0, 1, 13, 8, .rw, (.range 2 32), 0x2, false, false, 0x40020004⟩,
   ⟨0x40020004, 0x20, 16, 0x0, 1, 7, 0, .rw, (.range 0 200), 0xA, false, false, 0x40020004⟩,
   ⟨0x40020008, 0x20, 16, 0x0, 1, 31, 0, .rw, (.real 0xCE6E6B28 0x4E6E6B28), 0x0, false, false, 0x40020008⟩,
   ⟨0x4002000C, 0x20, 16, 0x0, 1, 31, 0, .rw, (.real 0xCE6E6B28 0x4E6E6B28), 0x42C80000, false, false, 0x4002000C⟩,
   ⟨0x40020010, 0x20, 16, 0x0, 1, 31, 0, .rw, (.real 0x00000000 0x41C00000), 0x40800000, false, false, 0x40020010⟩,
   ⟨0x40020014, 0x20, 16, 0x0, 1, 31, 0, .rw, (.real 0x00000000 0x41C00000), 0x40800000, false, false, 0x40020014⟩,
   ⟨0x40020018, 0x20, 16, 0x0, 1, 31, 0, .rw, (.real 0xCE6E6B28 0x4E6E6B28), 0x0, false, false, 0x40020018⟩,
   ⟨0x4002001C, 0x20, 16, 0x0, 1, 31, 16, .ro, .any, 0x0, false, false, 0x4002001C⟩,
   ⟨0x4002001C, 0x20, 16, 0x0, 1, 10, 10, .ro, .any, 0x0, false, false, 0x4002001C⟩,
   ⟨0x4002001C, 0x20, 16, 0x0, 1, 9, 9, .ro, .any, 0x0, false, false, 0x4002001C⟩,
   ⟨0x4002001C, 0x20, 16, 0x0, 1, 8, 8, .ro, .any, 0x0, false, false, 0x4002001C⟩,
   ⟨0x4002001C, 0x20, 16, 0x0, 1, 7, 7, .ro, .any, 0x0, false, false, 0x4002001C⟩,
   ⟨0x4002001C, 0x20, 16, 0x0, 1, 6, 6, .ro, .any, 0x0, false, false, 0x4002001C⟩,
   ⟨0x4002001C, 0x20, 16, 0x0, 1, 5, 5, .ro, .any, 0x0, false, false, 0x4002001C⟩,
   ⟨0x4002001C, 0x20, 16, 0x0, 1, 4, 4, .ro, .any, 0x0, false, false, 0x4002001C⟩,
   ⟨0x4002001C, 0x20, 16, 0x0, 1, 3, 3, .ro, .any, 0x0, false, false, 0x4002001C⟩,
   ⟨0x4002001C, 0x20, 16, 0x0, 1, 2, 2, .ro, .any, 0x0, false, false, 0x4002001C⟩,
   ⟨0x40020200, 0x0, 1, 0x0, 1, 15, 0, .rw, .any, 0x0, false, false, 0x40020200⟩,
   ⟨0x40020210, 0x4, 2, 0x0, 1, 31, 16, .ro, .any, 0x0, false, false, 0x40020210⟩,
   ⟨0x40020210, 0x4, 2, 0x0, 1, 13, 0, .rw, (.range 50 10000), 0x3E8, false, false, 0x40020210⟩,
   ⟨0x40020220, 0x4, 2, 0x0, 1, 31, 24, .ro, .any, 0x0, true, true, 0x40020220⟩,
   ⟨0x40020220, 0x4, 2, 0x0, 1, 23, 16, .ro, .any, 0x0, false, false, 0x40020220⟩,
   ⟨0x40020220, 0x4, 2, 0x0, 1, 15, 8, .ro, .any, 0x0, false, false, 0x40020220⟩,
   ⟨0x40020220, 0x4, 2, 0x0, 1, 3, 3, .ro, .any, 0x0, false, false, 0x40020220⟩,
   ⟨0x40020220, 0x4, 2, 0x0, 1, 2, 2, .ro, .any, 0x0, true, true, 0x40020220⟩,
   ⟨0x40020220, 0x4, 2, 0x0, 1, 1, 1, .ro, .any, 0x0, false, false, 0x40020220⟩,
   ⟨0x40020220, 0x4, 2, 0x0, 1, 0, 0, .ro, .any, 0x0, false, false, 0x40020220⟩,
   ⟨0x40021000, 0x100, 16, 0x8, 32, 31, 0, .rw, (.real 0x00000000 0x41D1B646), 0x0, false, false, 0x40021000⟩,
   ⟨0x40021004, 0x100, 16, 0x8, 32, 31, 0, .rw, (.real 0xCE6E6B28 0x4E6E6B28), 0x0, false, false, 0x40021004⟩]

/-- Fields of the Encoder block. -/
def mapEncoder : List FieldSpec :=
  [⟨0x40030000, 0x10, 4, 0x0, 1, 31, 24, .rw, (.range 10 150), 0x64, false, false, 0x40030000⟩,
   ⟨0x40030000, 0x10, 4, 0x0, 1, 23, 16, .rw, (.range 10 60), 0x14, false, false, 0x40030000⟩,
   ⟨0x40030000, 0x10, 4, 0x0, 1, 13, 8, .rw, (.range 10 32), 0x19, false, false, 0x40030000⟩,
   ⟨0x40030000, 0x10, 4, 0x0, 1, 4, 4, .rw, .any, 0x0, false, false, 0x40030000⟩,
   ⟨0x40030000, 0x10, 4, 0x0, 1, 3, 3, .rw, .any, 0x0, false, false, 0x40030000⟩,
   ⟨0x40030000, 0x10, 4, 0x0, 1, 1, 0, .rw, (.enum 2 0), 0x0, false, false, 0x40030000⟩,
   ⟨0x40030004, 0x10, 4, 0x0, 1, 31, 0, .ro, .any, 0x0, false, false, 0x40030004⟩,
   ⟨0x40030008, 0x10, 4, 0x0, 1, 31, 24, .ro, .any, 0x0, false, false, 0x40030008⟩,
   ⟨0x40030008, 0x10, 4, 0x0, 1, 23, 16, .ro, .any, 0x0, false, false, 0x40030008⟩,
   ⟨0x40030008, 0x10, 4, 0x0, 1, 3, 3, .ro, .any, 0x0, false, false, 0x40030008⟩,
   ⟨0x40030008, 0x10, 4, 0x0, 1, 2, 2, .ro, .any, 0x0, false, false, 0x40030008⟩,
   ⟨0x40030008, 0x10, 4, 0x0, 1, 1, 1, .ro, .any, 0x0, false, false, 0x40030008⟩,
   ⟨0x4003000C, 0x10, 4, 0x0, 1, 31, 0, .wo, .any, 0x0, false, false, 0x4003000C⟩,
   ⟨0x40030040, 0x0, 1, 0x0, 1, 17, 17, .ro, .any, 0x0, true, true, 0x40030040⟩,
   ⟨0x40030040, 0x0, 1, 0x0, 1, 16, 16, .ro, .any, 0x0, true, true, 0x40030040⟩,
   ⟨0x40030040, 0x0, 1, 0x0, 1, 15, 0, .ro, .any, 0x0, true, true, 0x40030040⟩]

/-- Fields of the Can block. -/
def mapCan : List FieldSpec :=
  [⟨0x40040000, 0x4000, 2, 0x0, 1, 2, 2, .rw, .any, 0x1, false, false, 0x40040000⟩,
   ⟨0x40040000, 0x4000, 2, 0x0, 1, 1, 1, .rw, .any, 0x0, false, false, 0x40040000⟩,
   ⟨0x40040000, 0x4000, 2, 0x0, 1, 0, 0, .rw, .any, 0x0, false, false, 0x40040000⟩,
   ⟨0x40040004, 0x4000, 2, 0x0, 1, 30, 24, .rw, (.range 1 64), 0x10, false, false, 0x40040004⟩,
   ⟨0x40040004, 0x4000, 2, 0x0, 1, 22, 16, .rw, (.range 1 64), 0x10, false, false, 0x40040004⟩,
   ⟨0x40040004, 0x4000, 2, 0x0, 1, 14, 8, .rw, (.range 2 127), 0x3F, false, false, 0x40040004⟩,
   ⟨0x40040004, 0x4000, 2, 0x0, 1, 5, 0, .rw, (.range 1 32), 0x1, false, false, 0x40040004⟩,
   ⟨0x40040008, 0x4000, 2, 0x0, 1, 28, 24, .rw, (.range 1 16), 0x5, false, false, 0x40040008⟩,
   ⟨0x40040008, 0x4000, 2, 0x0, 1, 20, 16, .rw, (.range 1 16), 0x5, false, false, 0x40040008⟩,
   ⟨0x40040008, 0x4000, 2, 0x0, 1, 12, 8, .rw, (.range 1 31), 0xE, false, false, 0x40040008⟩,
   ⟨0x40040008, 0x4000, 2, 0x0, 1, 5, 0, .rw, (.range 1 32), 0x1, false, false, 0x40040008⟩,
   ⟨0x4004000C, 0x4000, 2, 0x0, 1, 31, 0, .ro, .any, 0x0, false, false, 0x4004000C⟩,
   ⟨0x40040010, 0x4000, 2, 0x0, 1, 31, 0, .ro, .any, 0x0, false, false, 0x40040010⟩,
   ⟨0x40040014, 0x4000, 2, 0x0, 1, 31, 24, .ro, .any, 0x0, false, false, 0x40040014⟩,
   ⟨0x40040014, 0x4000, 2, 0x0, 1, 23, 16, .ro, .any, 0x0, false, false, 0x40040014⟩,
   ⟨0x40040014, 0x4000, 2, 0x0, 1, 2, 2, .ro, .any, 0x1, false, false, 0x40040014⟩,
   ⟨0x40040014, 0x4000, 2, 0x0, 1, 1, 0, .ro, .any, 0x3, false, false, 0x40040014⟩,
   ⟨0x40040018, 0x4000, 2, 0x0, 1, 3, 3, .w1c, .any, 0x0, false, false, 0x40040018⟩,
   ⟨0x40040018, 0x4000, 2, 0x0, 1, 2, 2, .w1c, .any, 0x0, false, false, 0x40040018⟩,
   ⟨0x40040018, 0x4000, 2, 0x0, 1, 1, 1, .w1c, .any, 0x0, false, false, 0x40040018⟩,
   ⟨0x40040018, 0x4000, 2, 0x0, 1, 0, 0, .w1c, .any, 0x0, false, false, 0x40040018⟩,
   ⟨0x4004001C, 0x4000, 2, 0x0, 1, 31, 16, .ro, .any, 0x0, false, false, 0x4004001C⟩,
   ⟨0x4004001C, 0x4000, 2, 0x0, 1, 15, 0, .ro, .any, 0x0, false, false, 0x4004001C⟩,
   ⟨0x40040020, 0x4000, 2, 0x0, 1, 31, 16, .ro, .any, 0x0, false, false, 0x40040020⟩,
   ⟨0x40040020, 0x4000, 2, 0x0, 1, 15, 0, .ro, .any, 0x0, false, false, 0x40040020⟩,
   ⟨0x40040024, 0x4000, 2, 0x0, 1, 31, 24, .ro, .any, 0x0, false, false, 0x40040024⟩,
   ⟨0x40040024, 0x4000, 2, 0x0, 1, 23, 16, .ro, .any, 0x0, false, false, 0x40040024⟩,
   ⟨0x40040024, 0x4000, 2, 0x0, 1, 15, 8, .ro, .any, 0x0, false, false, 0x40040024⟩,
   ⟨0x40040024, 0x4000, 2, 0x0, 1, 7, 0, .ro, .any, 0x0, false, false, 0x40040024⟩,
   ⟨0x40040028, 0x4000, 2, 0x0, 1, 31, 0, .ro, .any, 0x0, false, false, 0x40040028⟩,
   ⟨0x4004002C, 0x4000, 2, 0x0, 1, 31, 0, .wo, .any, 0x0, false, false, 0x4004002C⟩,
   ⟨0x40040030, 0x4000, 2, 0x0, 1, 0, 0, .wo, .any, 0x0, false, false, 0x40040030⟩,
   ⟨0x40040034, 0x4000, 2, 0x0, 1, 22, 16, .ro, .any, 0x0, false, false, 0x40040034⟩,
   ⟨0x40040034, 0x4000, 2, 0x0, 1, 6, 0, .ro, .any, 0x0, false, false, 0x40040034⟩,
   ⟨0x40040040, 0x4000, 2, 0x4, 4, 31, 0, .ro, .any, 0x0, false, false, 0x40040040⟩,
   ⟨0x40040100, 0x4000, 2, 0x10, 64, 29, 29, .rw, .any, 0x0, false, false, 0x40040100⟩,
   ⟨0x40040100, 0x4000, 2, 0x10, 64, 28, 0, .rw, .any, 0x0, false, false, 0x40040100⟩,
   ⟨0x40040104, 0x4000, 2, 0x10, 64, 28, 0, .rw, .any, 0x0, false, false, 0x40040104⟩,
   ⟨0x40040108, 0x4000, 2, 0x10, 64, 13, 12, .rw, (.enum 2 0), 0x0, false, false, 0x40040108⟩,
   ⟨0x40040108, 0x4000, 2, 0x10, 64, 11, 11, .rw, .any, 0x0, false, false, 0x40040108⟩] ++
  [⟨0x40040108, 0x4000, 2, 0x10, 64, 10, 8, .rw, (.enum 4 0), 0x0, false, false, 0x40040108⟩,
   ⟨0x40040108, 0x4000, 2, 0x10, 64, 6, 0, .rw, .any, 0x0, false, false, 0x40040108⟩]

/-- Fields of the Rio block. -/
def mapRio : List FieldSpec :=
  [⟨0x40050000, 0x0, 1, 0x0, 1, 31, 16, .ro, .any, 0x0, false, false, 0x40050000⟩,
   ⟨0x40050000, 0x0, 1, 0x0, 1, 15, 8, .ro, .any, 0x0, false, false, 0x40050000⟩,
   ⟨0x40050000, 0x0, 1, 0x0, 1, 1, 0, .ro, .any, 0x0, false, false, 0x40050000⟩,
   ⟨0x40050004, 0x0, 1, 0x0, 1, 31, 16, .ro, .any, 0x0, false, false, 0x40050004⟩,
   ⟨0x40050004, 0x0, 1, 0x0, 1, 15, 0, .ro, .any, 0x0, false, false, 0x40050004⟩,
   ⟨0x40050008, 0x0, 1, 0x0, 1, 15, 0, .ro, .any, 0x0, false, false, 0x40050008⟩,
   ⟨0x40050100, 0x10, 64, 0x0, 1, 31, 31, .ro, .any, 0x0, true, true, 0x40050100⟩,
   ⟨0x40050100, 0x10, 64, 0x0, 1, 25, 16, .ro, .any, 0x0, true, true, 0x40050100⟩,
   ⟨0x40050100, 0x10, 64, 0x0, 1, 14, 8, .ro, .any, 0x0, true, true, 0x40050100⟩,
   ⟨0x40050100, 0x10, 64, 0x0, 1, 6, 0, .rw, (.range 3 100), 0xA, false, false, 0x40050100⟩,
   ⟨0x40050104, 0x10, 64, 0x0, 1, 31, 16, .ro, .any, 0x0, false, false, 0x40050104⟩,
   ⟨0x40050104, 0x10, 64, 0x0, 1, 8, 8, .ro, .any, 0x0, true, true, 0x40050104⟩,
   ⟨0x40050104, 0x10, 64, 0x0, 1, 7, 7, .ro, .any, 0x0, false, false, 0x40050104⟩,
   ⟨0x40050104, 0x10, 64, 0x0, 1, 6, 6, .ro, .any, 0x0, false, false, 0x40050104⟩,
   ⟨0x40050104, 0x10, 64, 0x0, 1, 5, 5, .ro, .any, 0x0, false, false, 0x40050104⟩,
   ⟨0x40050104, 0x10, 64, 0x0, 1, 2, 0, .ro, .any, 0x0, false, false, 0x40050104⟩,
   ⟨0x40050108, 0x10, 64, 0x0, 1, 31, 16, .ro, .any, 0x0, false, false, 0x40050108⟩,
   ⟨0x40050108, 0x10, 64, 0x0, 1, 15, 0, .ro, .any, 0x0, false, false, 0x40050108⟩,
   ⟨0x40051000, 0x20, 1024, 0x0, 1, 31, 26, .ro, .any, 0x0, true, true, 0x40051000⟩,
   ⟨0x40051000, 0x20, 1024, 0x0, 1, 25, 20, .ro, .any, 0x0, true, true, 0x40051000⟩,
   ⟨0x40051000, 0x20, 1024, 0x0, 1, 19, 13, .ro, .any, 0x0, true, true, 0x40051000⟩,
   ⟨0x40051000, 0x20, 1024, 0x0, 1, 12, 6, .ro, .any, 0x0, true, true, 0x40051000⟩,
   ⟨0x40051000, 0x20, 1024, 0x0, 1, 5, 4, .rw, (.enum 2 2), 0x2, false, false, 0x40051000⟩,
   ⟨0x40051000, 0x20, 1024, 0x0, 1, 3, 2, .rw, (.enum 2 2), 0x2, false, false, 0x40051000⟩,
   ⟨0x40051000, 0x20, 1024, 0x0, 1, 1, 1, .rw, .any, 0x0, false, false, 0x40051000⟩,
   ⟨0x40051004, 0x20, 1024, 0x0, 1, 31, 0, .ro, .any, 0x0, true, true, 0x40051004⟩,
   ⟨0x40051008, 0x20, 1024, 0x0, 1, 31, 0, .ro, .any, 0x0, true, true, 0x40051008⟩,
   ⟨0x4005100C, 0x20, 1024, 0x0, 1, 31, 0, .ro, .any, 0x0, true, true, 0x4005100C⟩,
   ⟨0x40051010, 0x20, 1024, 0x0, 1, 31, 16, .ro, .any, 0x0, false, false, 0x40051010⟩,
   ⟨0x40051010, 0x20, 1024, 0x0, 1, 4, 4, .ro, .any, 0x0, false, false, 0x40051010⟩,
   ⟨0x40051010, 0x20, 1024, 0x0, 1, 3, 3, .ro, .any, 0x0, false, false, 0x40051010⟩,
   ⟨0x40051010, 0x20, 1024, 0x0, 1, 2, 2, .ro, .any, 0x0, false, false, 0x40051010⟩,
   ⟨0x40051010, 0x20, 1024, 0x0, 1, 1, 1, .ro, .any, 0x0, true, true, 0x40051010⟩,
   ⟨0x40051010, 0x20, 1024, 0x0, 1, 0, 0, .ro, .any, 0x0, true, true, 0x40051010⟩]

/-- Fields of the Net block. -/
def mapNet : List FieldSpec :=
  [⟨0x40060000, 0x4, 2, 0x0, 1, 31, 0, .rw, .ip, 0x0, false, false, 0x40060000⟩,
   ⟨0x4006000C, 0x0, 1, 0x0, 1, 31, 0, .rw, .ip, 0x0, false, false, 0x4006000C⟩,
   ⟨0x40060008, 0x0, 1, 0x0, 1, 5, 0, .rw, (.range 8 30), 0x18, false, false, 0x40060008⟩,
   ⟨0x40060010, 0x0, 1, 0x0, 1, 31, 0, .ro, .any, 0x0, true, true, 0x40060010⟩,
   ⟨0x40060014, 0x0, 1, 0x0, 1, 31, 0, .ro, .any, 0x0, true, true, 0x40060014⟩,
   ⟨0x40060018, 0x0, 1, 0x0, 1, 31, 16, .ro, .any, 0x0, false, false, 0x40060018⟩,
   ⟨0x40060018, 0x0, 1, 0x0, 1, 2, 2, .ro, .any, 0x0, true, true, 0x40060018⟩,
   ⟨0x40060018, 0x0, 1, 0x0, 1, 0, 0, .ro, .any, 0x0, true, true, 0x40060018⟩,
   ⟨0x40060020, 0x0, 1, 0x0, 1, 12, 1, .rw, (.range 10 3600), 0x3C, false, false, 0x40060020⟩,
   ⟨0x40060020, 0x0, 1, 0x0, 1, 0, 0, .rw, .any, 0x0, false, false, 0x40060020⟩,
   ⟨0x40060024, 0x0, 1, 0x0, 1, 31, 28, .ro, .any, 0x0, false, false, 0x40060024⟩,
   ⟨0x40060024, 0x0, 1, 0x0, 1, 27, 16, .ro, .any, 0x0, false, false, 0x40060024⟩,
   ⟨0x40060024, 0x0, 1, 0x0, 1, 15, 0, .ro, .any, 0x0, false, false, 0x40060024⟩,
   ⟨0x40060030, 0x0, 1, 0x0, 1, 15, 12, .rw, (.srange (-4) 4), 0x0, false, false, 0x40060030⟩,
   ⟨0x40060030, 0x0, 1, 0x0, 1, 7, 1, .rw, .any, 0x0, false, false, 0x40060030⟩,
   ⟨0x40060030, 0x0, 1, 0x0, 1, 0, 0, .rw, .any, 0x0, false, false, 0x40060030⟩,
   ⟨0x40060034, 0x0, 1, 0x0, 1, 3, 3, .ro, .any, 0x0, false, false, 0x40060034⟩,
   ⟨0x40060034, 0x0, 1, 0x0, 1, 2, 0, .ro, .any, 0x0, false, false, 0x40060034⟩,
   ⟨0x40060038, 0x0, 1, 0x0, 1, 31, 0, .ro, .any, 0x0, false, false, 0x40060038⟩,
   ⟨0x40060040, 0x0, 1, 0x0, 1, 31, 0, .ro, .any, 0x0, true, true, 0x40060040⟩,
   ⟨0x40060044, 0x0, 1, 0x0, 1, 31, 0, .ro, .any, 0x0, true, true, 0x40060044⟩,
   ⟨0x40060048, 0x0, 1, 0x0, 1, 7, 0, .ro, .any, 0x0, true, true, 0x40060048⟩,
   ⟨0x40060050, 0x0, 1, 0x0, 1, 8, 8, .ro, .any, 0x0, true, true, 0x40060050⟩,
   ⟨0x40060050, 0x0, 1, 0x0, 1, 2, 0, .ro, .any, 0x0, false, false, 0x40060050⟩]

/-- Fields of the Red block. -/
def mapRed : List FieldSpec :=
  [⟨0x40070000, 0x0, 1, 0x0, 1, 13, 13, .rw, .any, 0x1, false, false, 0x40070000⟩,
   ⟨0x40070000, 0x0, 1, 0x0, 1, 12, 12, .rw, .any, 0x1, false, false, 0x40070000⟩,
   ⟨0x40070000, 0x0, 1, 0x0, 1, 6, 0, .rw, (.range 2 64), 0x4, false, false, 0x40070000⟩,
   ⟨0x40070004, 0x0, 1, 0x0, 1, 23, 20, .ro, .any, 0x0, false, false, 0x40070004⟩,
   ⟨0x40070004, 0x0, 1, 0x0, 1, 19, 19, .ro, .any, 0x0, false, false, 0x40070004⟩,
   ⟨0x40070004, 0x0, 1, 0x0, 1, 18, 16, .ro, .any, 0x0, false, false, 0x40070004⟩,
   ⟨0x40070004, 0x0, 1, 0x0, 1, 11, 10, .ro, .any, 0x0, true, true, 0x40070004⟩,
   ⟨0x40070004, 0x0, 1, 0x0, 1, 9, 8, .ro, .any, 0x0, true, true, 0x40070004⟩,
   ⟨0x40070004, 0x0, 1, 0x0, 1, 5, 5, .ro, .any, 0x0, false, false, 0x40070004⟩,
   ⟨0x40070004, 0x0, 1, 0x0, 1, 4, 4, .ro, .any, 0x0, false, false, 0x40070004⟩,
   ⟨0x40070004, 0x0, 1, 0x0, 1, 3, 3, .ro, .any, 0x0, false, false, 0x40070004⟩,
   ⟨0x40070004, 0x0, 1, 0x0, 1, 2, 0, .ro, .any, 0x0, false, false, 0x40070004⟩,
   ⟨0x40070008, 0x0, 1, 0x0, 1, 31, 16, .ro, .any, 0x0, true, true, 0x40070008⟩,
   ⟨0x40070008, 0x0, 1, 0x0, 1, 15, 0, .ro, .any, 0x0, true, true, 0x40070008⟩,
   ⟨0x4007000C, 0x0, 1, 0x0, 1, 31, 16, .ro, .any, 0x0, false, false, 0x4007000C⟩,
   ⟨0x4007000C, 0x0, 1, 0x0, 1, 15, 8, .ro, .any, 0x0, false, false, 0x4007000C⟩,
   ⟨0x4007000C, 0x0, 1, 0x0, 1, 2, 0, .ro, .any, 0x0, false, false, 0x4007000C⟩,
   ⟨0x40070010, 0x0, 1, 0x0, 1, 15, 0, .ro, .any, 0x0, false, false, 0x40070010⟩,
   ⟨0x40070014, 0x0, 1, 0x0, 1, 31, 24, .ro, .any, 0x0, false, false, 0x40070014⟩,
   ⟨0x40070014, 0x0, 1, 0x0, 1, 23, 16, .ro, .any, 0x0, false, false, 0x40070014⟩,
   ⟨0x40070014, 0x0, 1, 0x0, 1, 15, 8, .ro, .any, 0x0, false, false, 0x40070014⟩,
   ⟨0x40070014, 0x0, 1, 0x0, 1, 7, 0, .ro, .any, 0x0, false, false, 0x40070014⟩,
   ⟨0x40070018, 0x0, 1, 0x0, 1, 31, 16, .ro, .any, 0x0, false, false, 0x40070018⟩,
   ⟨0x40070018, 0x0, 1, 0x0, 1, 15, 0, .ro, .any, 0x0, false, false, 0x40070018⟩]

/-- Fields of the Log block. -/
def mapLog : List FieldSpec :=
  [⟨0x40080000, 0x0, 1, 0x0, 1, 31, 31, .ro, .any, 0x0, true, true, 0x40080000⟩,
   ⟨0x40080000, 0x0, 1, 0x0, 1, 16, 0, .ro, .any, 0x0, true, true, 0x40080000⟩,
   ⟨0x40080004, 0x0, 1, 0x0, 1, 31, 0, .ro, .any, 0x0, true, true, 0x40080004⟩,
   ⟨0x40080008, 0x0, 1, 0x0, 1, 31, 0, .ro, .any, 0x0, true, true, 0x40080008⟩,
   ⟨0x4008000C, 0x0, 1, 0x0, 1, 31, 0, .ro, .any, 0x0, true, true, 0x4008000C⟩,
   ⟨0x40080010, 0x0, 1, 0x0, 1, 10, 0, .ro, .any, 0x0, false, false, 0x40080010⟩]

/-- Fields of the Cvu block. -/
def mapCvu : List FieldSpec :=
  [⟨0x40090000, 0x0, 1, 0x0, 1, 31, 16, .ro, .any, 0x0, false, false, 0x40090000⟩,
   ⟨0x40090000, 0x0, 1, 0x0, 1, 15, 0, .ro, .any, 0x0, false, false, 0x40090000⟩,
   ⟨0x40090004, 0x0, 1, 0x0, 1, 31, 0, .ro, .any, 0x0, false, false, 0x40090004⟩]

/-- Fields of the Hart block. -/
def mapHart : List FieldSpec :=
  [⟨0x400A0000, 0x10, 16, 0x0, 1, 20, 16, .rw, (.range 5 20), 0x5, false, false, 0x400A0000⟩,
   ⟨0x400A0000, 0x10, 16, 0x0, 1, 11, 11, .rw, .any, 0x1, false, false, 0x400A0000⟩,
   ⟨0x400A0000, 0x10, 16, 0x0, 1, 10, 8, .rw, (.range 0 5), 0x2, false, false, 0x400A0000⟩,
   ⟨0x400A0000, 0x10, 16, 0x0, 1, 7, 2, .rw, .any, 0x0, false, false, 0x400A0000⟩,
   ⟨0x400A0000, 0x10, 16, 0x0, 1, 1, 1, .rw, .any, 0x0, false, false, 0x400A0000⟩,
   ⟨0x400A0000, 0x10, 16, 0x0, 1, 0, 0, .rw, .any, 0x0, false, false, 0x400A0000⟩,
   ⟨0x400A0004, 0x10, 16, 0x0, 1, 31, 24, .ro, .any, 0x0, false, false, 0x400A0004⟩,
   ⟨0x400A0004, 0x10, 16, 0x0, 1, 23, 16, .ro, .any, 0x0, false, false, 0x400A0004⟩,
   ⟨0x400A0004, 0x10, 16, 0x0, 1, 15, 8, .ro, .any, 0x0, false, false, 0x400A0004⟩,
   ⟨0x400A0004, 0x10, 16, 0x0, 1, 3, 3, .ro, .any, 0x0, false, false, 0x400A0004⟩,
   ⟨0x400A0004, 0x10, 16, 0x0, 1, 2, 2, .ro, .any, 0x0, false, false, 0x400A0004⟩,
   ⟨0x400A0004, 0x10, 16, 0x0, 1, 1, 0, .ro, .any, 0x0, false, false, 0x400A0004⟩,
   ⟨0x400A0008, 0x10, 16, 0x0, 1, 31, 0, .ro, .any, 0x0, false, false, 0x400A0008⟩,
   ⟨0x400A000C, 0x10, 16, 0x0, 1, 31, 0, .ro, .any, 0x0, false, false, 0x400A000C⟩,
   ⟨0x400A1000, 0x200, 16, 0x0, 1, 31, 16, .ro, .any, 0x0, false, false, 0x400A1000⟩,
   ⟨0x400A1000, 0x200, 16, 0x0, 1, 15, 8, .ro, .any, 0x0, false, false, 0x400A1000⟩,
   ⟨0x400A1000, 0x200, 16, 0x0, 1, 7, 0, .ro, .any, 0x0, false, false, 0x400A1000⟩,
   ⟨0x400A1004, 0x200, 16, 0x0, 1, 8, 8, .ro, .any, 0x0, false, false, 0x400A1004⟩,
   ⟨0x400A1004, 0x200, 16, 0x0, 1, 7, 0, .ro, .any, 0x0, false, false, 0x400A1004⟩,
   ⟨0x400A1008, 0x200, 16, 0x0, 1, 15, 0, .ro, .any, 0x0, false, false, 0x400A1008⟩,
   ⟨0x400A100C, 0x200, 16, 0x0, 1, 31, 16, .ro, .any, 0x0, false, false, 0x400A100C⟩,
   ⟨0x400A100C, 0x200, 16, 0x0, 1, 15, 0, .ro, .any, 0x0, false, false, 0x400A100C⟩,
   ⟨0x400A1010, 0x200, 16, 0x4, 64, 31, 0, .ro, .any, 0x0, false, false, 0x400A1010⟩]

/-- Fields of the Sec block. -/
def mapSec : List FieldSpec :=
  [⟨0x400B0000, 0x0, 1, 0x0, 1, 31, 24, .ro, .any, 0x0, true, true, 0x400B0000⟩,
   ⟨0x400B0000, 0x0, 1, 0x0, 1, 23, 16, .ro, .any, 0x0, true, true, 0x400B0000⟩,
   ⟨0x400B0000, 0x0, 1, 0x0, 1, 15, 8, .ro, .any, 0x0, true, true, 0x400B0000⟩,
   ⟨0x400B0000, 0x0, 1, 0x0, 1, 1, 1, .ro, .any, 0x0, true, true, 0x400B0000⟩,
   ⟨0x400B0000, 0x0, 1, 0x0, 1, 0, 0, .ro, .any, 0x0, true, true, 0x400B0000⟩,
   ⟨0x400B0010, 0x10, 2, 0x0, 1, 31, 31, .ro, .any, 0x0, true, true, 0x400B0010⟩,
   ⟨0x400B0010, 0x10, 2, 0x0, 1, 30, 30, .ro, .any, 0x0, true, true, 0x400B0010⟩,
   ⟨0x400B0010, 0x10, 2, 0x0, 1, 20, 16, .ro, .any, 0x0, true, true, 0x400B0010⟩,
   ⟨0x400B0010, 0x10, 2, 0x0, 1, 2, 0, .ro, .any, 0x0, true, true, 0x400B0010⟩,
   ⟨0x400B0014, 0x10, 2, 0x0, 1, 31, 0, .ro, .any, 0x0, true, true, 0x400B0014⟩,
   ⟨0x400B0018, 0x10, 2, 0x0, 1, 31, 16, .ro, .any, 0x0, true, true, 0x400B0018⟩,
   ⟨0x400B0018, 0x10, 2, 0x0, 1, 15, 0, .ro, .any, 0x0, true, true, 0x400B0018⟩,
   ⟨0x400B0030, 0x0, 1, 0x0, 1, 31, 0, .ro, .any, 0x0, true, true, 0x400B0030⟩,
   ⟨0x400B0034, 0x0, 1, 0x0, 1, 15, 0, .ro, .any, 0x0, false, false, 0x400B0034⟩,
   ⟨0x400B0100, 0x4, 8, 0x0, 1, 31, 0, .ro, .any, 0x0, true, true, 0x400B0100⟩,
   ⟨0x400B0120, 0x4, 8, 0x0, 1, 31, 0, .ro, .any, 0x0, true, true, 0x400B0120⟩]

/-- Fields of the Loop block. -/
def mapLoop : List FieldSpec :=
  [⟨0x50000000, 0x100, 1024, 0x0, 1, 15, 8, .rw, (.mask 0x3F), 0x3, false, false, 0x50000000⟩,
   ⟨0x50000000, 0x100, 1024, 0x0, 1, 5, 4, .rw, (.enum 2 0), 0x0, false, false, 0x50000000⟩,
   ⟨0x50000000, 0x100, 1024, 0x0, 1, 3, 3, .rw, .any, 0x0, false, false, 0x50000000⟩,
   ⟨0x50000000, 0x100, 1024, 0x0, 1, 2, 2, .rw, .any, 0x0, false, false, 0x50000000⟩,
   ⟨0x50000000, 0x100, 1024, 0x0, 1, 1, 1, .rw, .any, 0x0, false, false, 0x50000000⟩,
   ⟨0x50000000, 0x100, 1024, 0x0, 1, 0, 0, .rw, .any, 0x1, false, false, 0x50000000⟩,
   ⟨0x50000004, 0x100, 1024, 0x0, 1, 31, 16, .ro, .any, 0x0, true, true, 0x50000004⟩,
   ⟨0x50000004, 0x100, 1024, 0x0, 1, 15, 0, .ro, .any, 0x0, true, true, 0x50000004⟩,
   ⟨0x50000008, 0x100, 1024, 0x0, 1, 31, 31, .ro, .any, 0x0, true, true, 0x50000008⟩,
   ⟨0x50000008, 0x100, 1024, 0x0, 1, 30, 30, .ro, .any, 0x0, true, true, 0x50000008⟩,
   ⟨0x50000008, 0x100, 1024, 0x0, 1, 29, 29, .ro, .any, 0x0, true, true, 0x50000008⟩,
   ⟨0x50000008, 0x100, 1024, 0x0, 1, 28, 28, .ro, .any, 0x0, true, true, 0x50000008⟩,
   ⟨0x50000008, 0x100, 1024, 0x0, 1, 27, 18, .ro, .any, 0x0, true, true, 0x50000008⟩,
   ⟨0x50000008, 0x100, 1024, 0x0, 1, 17, 17, .ro, .any, 0x0, true, true, 0x50000008⟩,
   ⟨0x50000008, 0x100, 1024, 0x0, 1, 16, 14, .ro, .any, 0x0, true, true, 0x50000008⟩,
   ⟨0x50000008, 0x100, 1024, 0x0, 1, 13, 9, .ro, .any, 0x0, true, true, 0x50000008⟩,
   ⟨0x50000008, 0x100, 1024, 0x0, 1, 8, 8, .ro, .any, 0x0, true, true, 0x50000008⟩,
   ⟨0x50000008, 0x100, 1024, 0x0, 1, 7, 0, .ro, .any, 0x0, true, true, 0x50000008⟩,
   ⟨0x5000000C, 0x100, 1024, 0x0, 1, 31, 0, .ro, .any, 0x0, true, true, 0x5000000C⟩,
   ⟨0x50000010, 0x100, 1024, 0x0, 1, 31, 0, .ro, .any, 0x0, true, true, 0x50000010⟩,
   ⟨0x50000014, 0x100, 1024, 0x0, 1, 31, 0, .ro, .any, 0x0, true, true, 0x50000014⟩,
   ⟨0x50000018, 0x100, 1024, 0x0, 1, 31, 0, .ro, .any, 0x0, true, true, 0x50000018⟩,
   ⟨0x50000020, 0x100, 1024, 0x0, 1, 31, 0, .rw, (.real 0xC9742400 0x49742400), 0x3F800000, false, false, 0x50000020⟩,
   ⟨0x50000024, 0x100, 1024, 0x0, 1, 31, 0, .rw, (.real 0x00000000 0x49742400), 0x0, false, false, 0x50000024⟩,
   ⟨0x50000028, 0x100, 1024, 0x0, 1, 31, 0, .rw, (.real 0x00000000 0x47C35000), 0x0, false, false, 0x50000028⟩,
   ⟨0x5000002C, 0x100, 1024, 0x0, 1, 31, 0, .rw, (.real 0x3F800000 0x447A0000), 0x41200000, false, false, 0x5000002C⟩,
   ⟨0x50000030, 0x100, 1024, 0x0, 1, 31, 0, .rw, (.real 0x00000000 0x3F800000), 0x3F800000, false, false, 0x50000030⟩,
   ⟨0x50000034, 0x100, 1024, 0x0, 1, 31, 0, .rw, (.real 0x00000000 0x3F800000), 0x0, false, false, 0x50000034⟩,
   ⟨0x50000038, 0x100, 1024, 0x0, 1, 31, 0, .rw, (.real 0xC9742400 0x49742400), 0x0, false, false, 0x50000038⟩,
   ⟨0x5000003C, 0x100, 1024, 0x0, 1, 31, 0, .rw, (.real 0xCE6E6B28 0x4E6E6B28), 0x0, false, false, 0x5000003C⟩,
   ⟨0x50000040, 0x100, 1024, 0x0, 1, 31, 0, .rw, (.real 0xCE6E6B28 0x4E6E6B28), 0x0, false, false, 0x50000040⟩,
   ⟨0x50000044, 0x100, 1024, 0x0, 1, 31, 0, .rw, (.real 0xCE6E6B28 0x4E6E6B28), 0x42C80000, false, false, 0x50000044⟩,
   ⟨0x50000048, 0x100, 1024, 0x0, 1, 31, 0, .rw, (.real 0x00000000 0x4E6E6B28), 0x0, false, false, 0x50000048⟩,
   ⟨0x5000004C, 0x100, 1024, 0x0, 1, 31, 0, .rw, (.real 0xCE6E6B28 0x4E6E6B28), 0xCE6E6B28, false, false, 0x5000004C⟩,
   ⟨0x50000050, 0x100, 1024, 0x0, 1, 31, 0, .rw, (.real 0xCE6E6B28 0x4E6E6B28), 0x4E6E6B28, false, false, 0x50000050⟩,
   ⟨0x50000054, 0x100, 1024, 0x0, 1, 31, 0, .rw, (.real 0x00000000 0x4E6E6B28), 0x0, false, false, 0x50000054⟩,
   ⟨0x50000058, 0x100, 1024, 0x0, 1, 31, 0, .rw, (.real 0xCE6E6B28 0x4E6E6B28), 0x0, false, false, 0x50000058⟩,
   ⟨0x5000005C, 0x100, 1024, 0x0, 1, 31, 0, .rw, (.real 0xCE6E6B28 0x4E6E6B28), 0x0, false, false, 0x5000005C⟩,
   ⟨0x50000060, 0x100, 1024, 0x0, 1, 31, 0, .rw, (.real 0xCE6E6B28 0x4E6E6B28), 0x0, false, true, 0x50000060⟩,
   ⟨0x50000064, 0x100, 1024, 0x0, 1, 31, 0, .rw, (.real 0xCE6E6B28 0x4E6E6B28), 0x0, false, true, 0x50000064⟩] ++
  [⟨0x50000080, 0x100, 1024, 0x0, 1, 31, 0, .ro, .any, 0x0, false, false, 0x50000080⟩,
   ⟨0x50000084, 0x100, 1024, 0x0, 1, 31, 0, .ro, .any, 0x0, false, false, 0x50000084⟩,
   ⟨0x50000088, 0x100, 1024, 0x0, 1, 31, 0, .ro, .any, 0x0, false, false, 0x50000088⟩,
   ⟨0x5000008C, 0x100, 1024, 0x0, 1, 31, 0, .ro, .any, 0x0, false, false, 0x5000008C⟩,
   ⟨0x50000090, 0x100, 1024, 0x0, 1, 31, 0, .ro, .any, 0x0, true, true, 0x50000090⟩,
   ⟨0x50000098, 0x100, 1024, 0x0, 1, 31, 0, .ro, .any, 0x0, false, false, 0x50000098⟩,
   ⟨0x500000A4, 0x100, 1024, 0x0, 1, 31, 0, .ro, .any, 0x0, false, false, 0x500000A4⟩,
   ⟨0x500000A8, 0x100, 1024, 0x0, 1, 31, 0, .ro, .any, 0x0, false, false, 0x500000A8⟩,
   ⟨0x500000AC, 0x100, 1024, 0x0, 1, 31, 0, .ro, .any, 0x0, false, false, 0x500000AC⟩,
   ⟨0x500000B0, 0x100, 1024, 0x0, 1, 31, 0, .ro, .any, 0x0, false, false, 0x500000B0⟩,
   ⟨0x500000B4, 0x100, 1024, 0x0, 1, 31, 0, .ro, .any, 0x0, false, true, 0x500000B4⟩,
   ⟨0x500000B8, 0x100, 1024, 0x0, 1, 31, 0, .ro, .any, 0x0, false, false, 0x500000B8⟩,
   ⟨0x500000BC, 0x100, 1024, 0x0, 1, 31, 0, .ro, .any, 0x0, false, false, 0x500000BC⟩,
   ⟨0x500000C0, 0x100, 1024, 0x0, 1, 31, 0, .ro, .any, 0x0, false, false, 0x500000C0⟩,
   ⟨0x500000C4, 0x100, 1024, 0x0, 1, 31, 0, .ro, .any, 0x0, false, false, 0x500000C4⟩,
   ⟨0x500000C8, 0x100, 1024, 0x0, 1, 31, 0, .ro, .any, 0x0, false, true, 0x500000C8⟩,
   ⟨0x500000CC, 0x100, 1024, 0x0, 1, 31, 0, .ro, .any, 0x0, false, false, 0x500000CC⟩,
   ⟨0x500000D0, 0x100, 1024, 0x0, 1, 31, 0, .rw, (.real 0x00000000 0x4E6E6B28), 0x0, false, false, 0x500000D0⟩,
   ⟨0x500000D4, 0x100, 1024, 0x0, 1, 31, 0, .rw, (.real 0x00000000 0x4E6E6B28), 0x0, false, false, 0x500000D4⟩,
   ⟨0x500000D8, 0x100, 1024, 0x0, 1, 31, 0, .rw, (.real 0xCE6E6B28 0x4E6E6B28), 0x0, false, false, 0x500000D8⟩,
   ⟨0x500000DC, 0x100, 1024, 0x0, 1, 31, 0, .rw, (.range 1 3600), 0x258, false, false, 0x500000DC⟩,
   ⟨0x500000E0, 0x100, 1024, 0x0, 1, 31, 0, .ro, .any, 0x0, false, false, 0x500000E0⟩,
   ⟨0x500000E4, 0x100, 1024, 0x0, 1, 31, 0, .ro, .any, 0x0, false, false, 0x500000E4⟩,
   ⟨0x500000E8, 0x100, 1024, 0x0, 1, 31, 0, .ro, .any, 0x0, false, false, 0x500000E8⟩,
   ⟨0x500000F4, 0x100, 1024, 0x0, 1, 31, 0, .rw, (.real 0xCE6E6B28 0x4E6E6B28), 0x0, false, false, 0x500000F4⟩,
   ⟨0x500000A0, 0x100, 1024, 0x0, 1, 21, 20, .ro, .any, 0x0, false, true, 0x500000A0⟩,
   ⟨0x500000A0, 0x100, 1024, 0x0, 1, 19, 19, .ro, .any, 0x0, false, false, 0x500000A0⟩,
   ⟨0x500000A0, 0x100, 1024, 0x0, 1, 18, 18, .ro, .any, 0x0, false, false, 0x500000A0⟩,
   ⟨0x500000A0, 0x100, 1024, 0x0, 1, 17, 17, .ro, .any, 0x0, false, false, 0x500000A0⟩,
   ⟨0x500000A0, 0x100, 1024, 0x0, 1, 16, 16, .ro, .any, 0x0, false, false, 0x500000A0⟩,
   ⟨0x500000A0, 0x100, 1024, 0x0, 1, 15, 15, .ro, .any, 0x0, false, false, 0x500000A0⟩,
   ⟨0x500000A0, 0x100, 1024, 0x0, 1, 14, 14, .ro, .any, 0x0, false, false, 0x500000A0⟩,
   ⟨0x500000A0, 0x100, 1024, 0x0, 1, 13, 13, .ro, .any, 0x0, false, false, 0x500000A0⟩,
   ⟨0x500000A0, 0x100, 1024, 0x0, 1, 12, 12, .ro, .any, 0x0, false, false, 0x500000A0⟩,
   ⟨0x500000A0, 0x100, 1024, 0x0, 1, 11, 11, .ro, .any, 0x0, false, false, 0x500000A0⟩,
   ⟨0x500000A0, 0x100, 1024, 0x0, 1, 10, 10, .ro, .any, 0x0, false, false, 0x500000A0⟩,
   ⟨0x500000A0, 0x100, 1024, 0x0, 1, 9, 9, .ro, .any, 0x0, false, false, 0x500000A0⟩,
   ⟨0x500000A0, 0x100, 1024, 0x0, 1, 8, 8, .ro, .any, 0x0, false, false, 0x500000A0⟩,
   ⟨0x500000A0, 0x100, 1024, 0x0, 1, 7, 7, .ro, .any, 0x0, false, false, 0x500000A0⟩,
   ⟨0x500000A0, 0x100, 1024, 0x0, 1, 6, 6, .ro, .any, 0x0, false, false, 0x500000A0⟩] ++
  [⟨0x500000A0, 0x100, 1024, 0x0, 1, 5, 5, .ro, .any, 0x0, false, false, 0x500000A0⟩,
   ⟨0x500000A0, 0x100, 1024, 0x0, 1, 4, 4, .ro, .any, 0x0, false, false, 0x500000A0⟩,
   ⟨0x500000A0, 0x100, 1024, 0x0, 1, 3, 3, .ro, .any, 0x0, false, false, 0x500000A0⟩,
   ⟨0x500000A0, 0x100, 1024, 0x0, 1, 2, 2, .ro, .any, 0x0, false, false, 0x500000A0⟩,
   ⟨0x500000A0, 0x100, 1024, 0x0, 1, 1, 0, .ro, .any, 0x0, false, true, 0x500000A0⟩,
   ⟨0x500000EC, 0x100, 1024, 0x0, 1, 23, 16, .ro, .any, 0x0, false, false, 0x500000EC⟩,
   ⟨0x500000EC, 0x100, 1024, 0x0, 1, 15, 8, .ro, .any, 0x0, false, false, 0x500000EC⟩,
   ⟨0x500000EC, 0x100, 1024, 0x0, 1, 2, 0, .ro, .any, 0x0, false, false, 0x500000EC⟩,
   ⟨0x500000F0, 0x100, 1024, 0x0, 1, 15, 8, .rw, (.range 1 255), 0x1, false, false, 0x500000F0⟩,
   ⟨0x500000F0, 0x100, 1024, 0x0, 1, 1, 1, .rw, .any, 0x0, false, false, 0x500000F0⟩,
   ⟨0x500000F0, 0x100, 1024, 0x0, 1, 0, 0, .rw, .any, 0x0, false, false, 0x500000F0⟩,
   ⟨0x500000F8, 0x100, 1024, 0x0, 1, 31, 16, .ro, .any, 0x0, false, false, 0x500000F8⟩,
   ⟨0x500000F8, 0x100, 1024, 0x0, 1, 1, 0, .ro, .any, 0x0, false, false, 0x500000F8⟩,
   ⟨0x50000094, 0x100, 1024, 0x0, 1, 9, 9, .ro, .any, 0x0, false, false, 0x50000094⟩,
   ⟨0x50000094, 0x100, 1024, 0x0, 1, 8, 8, .ro, .any, 0x0, false, false, 0x50000094⟩,
   ⟨0x50000094, 0x100, 1024, 0x0, 1, 2, 0, .ro, .any, 0x0, false, false, 0x50000094⟩]

/-! ### Names of the fields: keys in the register file -/

/-- ID_STRAPS.STRAP_CHANGED [14:14]. -/
def F.idStrapsStrapChanged : Nat := fieldKey 0x40000040 14
/-- ID_STRAPS.AG1_ALM [13:13]. -/
def F.idStrapsAg1Alm : Nat := fieldKey 0x40000040 13
/-- ID_STRAPS.AG0_ALM [12:12]. -/
def F.idStrapsAg0Alm : Nat := fieldKey 0x40000040 12
/-- ID_STRAPS.SAFE_B [11:11]. -/
def F.idStrapsSafeB : Nat := fieldKey 0x40000040 11
/-- ID_STRAPS.SAFE_A [10:10]. -/
def F.idStrapsSafeA : Nat := fieldKey 0x40000040 10
/-- ID_STRAPS.BUCKET_LINE [9:9]. -/
def F.idStrapsBucketLine : Nat := fieldKey 0x40000040 9
/-- ID_STRAPS.PARTNER_PRESENT [8:8]. -/
def F.idStrapsPartnerPresent : Nat := fieldKey 0x40000040 8
/-- ID_STRAPS.DBG_EN [7:7]. -/
def F.idStrapsDbgEn : Nat := fieldKey 0x40000040 7
/-- ID_STRAPS.SLOT [6:6]. -/
def F.idStrapsSlot : Nat := fieldKey 0x40000040 6
/-- ID_STRAPS.STATION_ADDR [5:0]. -/
def F.idStrapsStationAddr : Nat := fieldKey 0x40000040 0
/-- ID_IMG_SLOT.ACTIVE [31:31]. -/
def F.idImgSlotActive (n : Nat) : Nat := fieldKey (0x40000080 + 0x10 * n) 31
/-- ID_IMG_SLOT.NEXT [30:30]. -/
def F.idImgSlotNext (n : Nat) : Nat := fieldKey (0x40000080 + 0x10 * n) 30
/-- ID_IMG_SLOT.CHANGE_BLOCK [29:27]. -/
def F.idImgSlotChangeBlock (n : Nat) : Nat := fieldKey (0x40000080 + 0x10 * n) 27
/-- ID_IMG_SLOT.VERDICT [20:16]. -/
def F.idImgSlotVerdict (n : Nat) : Nat := fieldKey (0x40000080 + 0x10 * n) 16
/-- ID_IMG_SLOT.STATE [2:0]. -/
def F.idImgSlotState (n : Nat) : Nat := fieldKey (0x40000080 + 0x10 * n) 0
/-- ID_IMG_ID_LO [31:0]. -/
def F.idImgIdLo (n : Nat) : Nat := fieldKey (0x40000084 + 0x10 * n) 0
/-- ID_IMG_ID_HI [31:0]. -/
def F.idImgIdHi (n : Nat) : Nat := fieldKey (0x40000088 + 0x10 * n) 0
/-- ID_IMG_BUILD [31:0]. -/
def F.idImgBuild (n : Nat) : Nat := fieldKey (0x4000008C + 0x10 * n) 0
/-- ID_IMG_CHANGE.PENDING [31:31]. -/
def F.idImgChangePending : Nat := fieldKey 0x400000A0 31
/-- ID_IMG_CHANGE.TARGET [30:30]. -/
def F.idImgChangeTarget : Nat := fieldKey 0x400000A0 30
/-- ID_IMG_CHANGE.STATUS [23:16]. -/
def F.idImgChangeStatus : Nat := fieldKey 0x400000A0 16
/-- ID_IMG_CHANGE.STROKES_LEFT [3:0]. -/
def F.idImgChangeStrokesLeft : Nat := fieldKey 0x400000A0 0
/-- ID_PRODUCT.PRODUCT [31:16]. -/
def F.idProductProduct : Nat := fieldKey 0x40000000 16
/-- ID_PRODUCT.VARIANT [15:8]. -/
def F.idProductVariant : Nat := fieldKey 0x40000000 8
/-- ID_PRODUCT.HW_REV [7:0]. -/
def F.idProductHwRev : Nat := fieldKey 0x40000000 0
/-- ID_FW_VERSION [31:0]. -/
def F.idFwVersion : Nat := fieldKey 0x40000004 0
/-- ID_SERIAL_LO [31:0]. -/
def F.idSerialLo : Nat := fieldKey 0x40000008 0
/-- ID_SERIAL_HI [31:0]. -/
def F.idSerialHi : Nat := fieldKey 0x4000000C 0
/-- MOD_STATUS.SAFE_LATCHED [24:24]. -/
def F.modStatusSafeLatched : Nat := fieldKey 0x40001000 24
/-- MOD_STATUS.COLD_REASON [23:20]. -/
def F.modStatusColdReason : Nat := fieldKey 0x40001000 20
/-- MOD_STATUS.LAST_START [16:16]. -/
def F.modStatusLastStart : Nat := fieldKey 0x40001000 16
/-- MOD_STATUS.START_FAULT [15:12]. -/
def F.modStatusStartFault : Nat := fieldKey 0x40001000 12
/-- MOD_STATUS.SAFE_CAUSE [11:8]. -/
def F.modStatusSafeCause : Nat := fieldKey 0x40001000 8
/-- MOD_STATUS.MODE [2:0]. -/
def F.modStatusMode : Nat := fieldKey 0x40001000 0
/-- MOD_POLICY.WARM_POLICY [2:1]. -/
def F.modPolicyWarmPolicy : Nat := fieldKey 0x40001004 1
/-- MOD_POLICY.COLD_POLICY [0:0]. -/
def F.modPolicyColdPolicy : Nat := fieldKey 0x40001004 0
/-- MOD_START.PRIMING_MS [31:16]. -/
def F.modStartPrimingMs : Nat := fieldKey 0x40001008 16
/-- MOD_START.FAILED_COLD [3:2]. -/
def F.modStartFailedCold : Nat := fieldKey 0x40001008 2
/-- MOD_START.FAILED_WARM [1:0]. -/
def F.modStartFailedWarm : Nat := fieldKey 0x40001008 0
/-- MOD_PREV.PREV_MODE [2:0]. -/
def F.modPrevPrevMode : Nat := fieldKey 0x4000100C 0
/-- MOD_REQUEST.REQ [1:0]. -/
def F.modRequestReq : Nat := fieldKey 0x40001010 0
/-- MOD_HOLD.BP_VALID [8:8]. -/
def F.modHoldBpValid : Nat := fieldKey 0x40001014 8
/-- MOD_HOLD.BP_INDEX [2:0]. -/
def F.modHoldBpIndex : Nat := fieldKey 0x40001014 0
/-- MOD_HOLD_STROKE_LO [31:0]. -/
def F.modHoldStrokeLo : Nat := fieldKey 0x40001018 0
/-- MOD_HOLD_STROKE_HI [31:0]. -/
def F.modHoldStrokeHi : Nat := fieldKey 0x4000101C 0
/-- STK_PERIOD.W_US [31:16]. -/
def F.stkPeriodWUs : Nat := fieldKey 0x40002000 16
/-- STK_PERIOD.TB_US [15:0]. -/
def F.stkPeriodTbUs : Nat := fieldKey 0x40002000 0
/-- STK_COUNT_LO [31:0]. -/
def F.stkCountLo : Nat := fieldKey 0x40002004 0
/-- STK_COUNT_HI [31:0]. -/
def F.stkCountHi : Nat := fieldKey 0x40002008 0
/-- STK_TIMEBASE.FREQ_ADJ [31:16]. -/
def F.stkTimebaseFreqAdj : Nat := fieldKey 0x4000200C 16
/-- STK_TIMEBASE.LOCK_STATE [9:8]. -/
def F.stkTimebaseLockState : Nat := fieldKey 0x4000200C 8
/-- STK_TIMEBASE.PHASE_ALIGN [2:2]. -/
def F.stkTimebasePhaseAlign : Nat := fieldKey 0x4000200C 2
/-- STK_TIMEBASE.LOCK_SRC [1:0]. -/
def F.stkTimebaseLockSrc : Nat := fieldKey 0x4000200C 0
/-- STK_PACE.MIN_MARGIN [31:16]. -/
def F.stkPaceMinMargin : Nat := fieldKey 0x40002010 16
/-- STK_PACE.MARGIN [15:0]. -/
def F.stkPaceMargin : Nat := fieldKey 0x40002010 0
/-- STK_PACE_CFG.LOW_THR [15:0]. -/
def F.stkPaceCfgLowThr : Nat := fieldKey 0x40002014 0
/-- STK_DEFER.HART_DEFERRED [31:16]. -/
def F.stkDeferHartDeferred : Nat := fieldKey 0x40002018 16
/-- STK_DEFER.MODBUS_DEFERRED [15:0]. -/
def F.stkDeferModbusDeferred : Nat := fieldKey 0x40002018 0
/-- STK_MANIFEST.PEAK [31:16]. -/
def F.stkManifestPeak : Nat := fieldKey 0x4000201C 16
/-- STK_MANIFEST.BOUND [15:0]. -/
def F.stkManifestBound : Nat := fieldKey 0x4000201C 0
/-- STK_DIGEST_LO [31:0]. -/
def F.stkDigestLo : Nat := fieldKey 0x40002020 0
/-- STK_DIGEST_HI [31:0]. -/
def F.stkDigestHi : Nat := fieldKey 0x40002024 0
/-- STK_LATE.DIGEST_MISSING [31:16]. -/
def F.stkLateDigestMissing : Nat := fieldKey 0x40002028 16
/-- STK_LATE.MANIFEST_LATE [15:0]. -/
def F.stkLateManifestLate : Nat := fieldKey 0x40002028 0
/-- STK_ENG_BUDGET.BU [22:0]. -/
def F.stkEngBudgetBu (n : Nat) : Nat := fieldKey (0x40002030 + 0x8 * n) 0
/-- STK_ENG_CHARGE.BU [22:0]. -/
def F.stkEngChargeBu (n : Nat) : Nat := fieldKey (0x40002034 + 0x8 * n) 0
/-- STK_TASK_CFG.PRESENT [31:31]. -/
def F.stkTaskCfgPresent (n : Nat) : Nat := fieldKey (0x40002100 + 0x10 * n) 31
/-- STK_TASK_CFG.ENABLE [30:30]. -/
def F.stkTaskCfgEnable (n : Nat) : Nat := fieldKey (0x40002100 + 0x10 * n) 30
/-- STK_TASK_CFG.SLICED [29:29]. -/
def F.stkTaskCfgSliced (n : Nat) : Nat := fieldKey (0x40002100 + 0x10 * n) 29
/-- STK_TASK_CFG.ENGINE [25:24]. -/
def F.stkTaskCfgEngine (n : Nat) : Nat := fieldKey (0x40002100 + 0x10 * n) 24
/-- STK_TASK_CFG.PERIOD_N [15:0]. -/
def F.stkTaskCfgPeriodN (n : Nat) : Nat := fieldKey (0x40002100 + 0x10 * n) 0
/-- STK_TASK_PHASE.PHASE [15:0]. -/
def F.stkTaskPhasePhase (n : Nat) : Nat := fieldKey (0x40002104 + 0x10 * n) 0
/-- STK_TASK_COST.COST_BU [22:0]. -/
def F.stkTaskCostCostBu (n : Nat) : Nat := fieldKey (0x40002108 + 0x10 * n) 0
/-- STK_TASK_RUNS [31:0]. -/
def F.stkTaskRuns (n : Nat) : Nat := fieldKey (0x4000210C + 0x10 * n) 0
/-- MEM_ECC.MRAM_CORRECTED [31:16]. -/
def F.memEccMramCorrected : Nat := fieldKey 0x40003800 16
/-- MEM_ECC.SRAM_CORRECTED [15:0]. -/
def F.memEccSramCorrected : Nat := fieldKey 0x40003800 0
/-- MEM_ECC_LAST.WORD_ADDR [23:3]. -/
def F.memEccLastWordAddr : Nat := fieldKey 0x40003804 3
/-- MEM_SCRUB [31:0]. -/
def F.memScrub : Nat := fieldKey 0x40003808 0
/-- MEM_CKPT_CFG.CKPT_NOW [12:12]. -/
def F.memCkptCfgCkptNow : Nat := fieldKey 0x4000380C 12
/-- MEM_CKPT_CFG.INTERVAL_S [11:0]. -/
def F.memCkptCfgIntervalS : Nat := fieldKey 0x4000380C 0
/-- MEM_CKPT_STATUS.IN_PROGRESS [31:31]. -/
def F.memCkptStatusInProgress : Nat := fieldKey 0x40003810 31
/-- MEM_CKPT_STATUS.NEWER_AREA [30:30]. -/
def F.memCkptStatusNewerArea : Nat := fieldKey 0x40003810 30
/-- MEM_CKPT_STATUS.AREA1_VALID [29:29]. -/
def F.memCkptStatusArea1Valid : Nat := fieldKey 0x40003810 29
/-- MEM_CKPT_STATUS.AREA0_VALID [28:28]. -/
def F.memCkptStatusArea0Valid : Nat := fieldKey 0x40003810 28
/-- MEM_CKPT_STATUS.SKIPPED [15:0]. -/
def F.memCkptStatusSkipped : Nat := fieldKey 0x40003810 0
/-- MEM_CKPT_STROKE_LO [31:0]. -/
def F.memCkptStrokeLo : Nat := fieldKey 0x40003814 0
/-- MEM_CKPT_STROKE_HI [31:0]. -/
def F.memCkptStrokeHi : Nat := fieldKey 0x40003818 0
/-- MEM_SAVE_SEQ [31:0]. -/
def F.memSaveSeq : Nat := fieldKey 0x4000381C 0
/-- HLT_SUMMARY.FAILED_COUNT [31:24]. -/
def F.hltSummaryFailedCount : Nat := fieldKey 0x40003000 24
/-- HLT_SUMMARY.DEGRADED_COUNT [23:16]. -/
def F.hltSummaryDegradedCount : Nat := fieldKey 0x40003000 16
/-- HLT_SUMMARY.HEALTHY [9:9]. -/
def F.hltSummaryHealthy : Nat := fieldKey 0x40003000 9
/-- HLT_SUMMARY.FAULT_PRESENT [8:8]. -/
def F.hltSummaryFaultPresent : Nat := fieldKey 0x40003000 8
/-- HLT_SUMMARY.WORST [1:0]. -/
def F.hltSummaryWorst : Nat := fieldKey 0x40003000 0
/-- HLT_STATE [31:0]. -/
def F.hltState (n : Nat) : Nat := fieldKey (0x40003004 + 0x4 * n) 0
/-- HLT_CFG.PROOF_DAYS [24:16]. -/
def F.hltCfgProofDays : Nat := fieldKey 0x40003014 16
/-- HLT_CFG.AUTO_RESTART [4:0]. -/
def F.hltCfgAutoRestart : Nat := fieldKey 0x40003014 0
/-- HLT_HEALTHY_MASK_LO [31:0]. -/
def F.hltHealthyMaskLo : Nat := fieldKey 0x40003018 0
/-- HLT_HEALTHY_MASK_HI [31:0]. -/
def F.hltHealthyMaskHi : Nat := fieldKey 0x4000301C 0
/-- HLT_APP.APP_OK [16:16]. -/
def F.hltAppAppOk : Nat := fieldKey 0x40003020 16
/-- HLT_APP.APP_STATE [15:0]. -/
def F.hltAppAppState : Nat := fieldKey 0x40003020 0
/-- HLT_LAST_F3.SOURCE [31:16]. -/
def F.hltLastF3Source : Nat := fieldKey 0x40003024 16
/-- HLT_LAST_F3.CODE [15:0]. -/
def F.hltLastF3Code : Nat := fieldKey 0x40003024 0
/-- HLT_LAST_F3_STROKE_LO [31:0]. -/
def F.hltLastF3StrokeLo : Nat := fieldKey 0x40003028 0
/-- HLT_LAST_F3_STROKE_HI [31:0]. -/
def F.hltLastF3StrokeHi : Nat := fieldKey 0x4000302C 0
/-- HLT_RESTARTS.EXHAUSTED [24:20]. -/
def F.hltRestartsExhausted : Nat := fieldKey 0x40003030 20
/-- HLT_RESTARTS.COUNT [19:0]. -/
def F.hltRestartsCount : Nat := fieldKey 0x40003030 0
/-- HLT_DIO_TESTED_ON [31:0]. -/
def F.hltDioTestedOn : Nat := fieldKey 0x40003034 0
/-- HLT_DIO_TESTED_OFF [31:0]. -/
def F.hltDioTestedOff : Nat := fieldKey 0x40003038 0
/-- HLT_SAFE.B_SEEN [3:3]. -/
def F.hltSafeBSeen : Nat := fieldKey 0x4000303C 3
/-- HLT_SAFE.A_SEEN [2:2]. -/
def F.hltSafeASeen : Nat := fieldKey 0x4000303C 2
/-- HLT_SAFE.B_DISAGREE [1:1]. -/
def F.hltSafeBDisagree : Nat := fieldKey 0x4000303C 1
/-- HLT_SAFE.A_DISAGREE [0:0]. -/
def F.hltSafeADisagree : Nat := fieldKey 0x4000303C 0
/-- HLT_ITEM_STAT.COUNT [31:16]. -/
def F.hltItemStatCount (n : Nat) : Nat := fieldKey (0x40003100 + 0x10 * n) 16
/-- HLT_ITEM_STAT.STATE [1:0]. -/
def F.hltItemStatState (n : Nat) : Nat := fieldKey (0x40003100 + 0x10 * n) 0
/-- HLT_ITEM_CAUSE [31:0]. -/
def F.hltItemCause (n : Nat) : Nat := fieldKey (0x40003104 + 0x10 * n) 0
/-- HLT_ITEM_STROKE_LO [31:0]. -/
def F.hltItemStrokeLo (n : Nat) : Nat := fieldKey (0x40003108 + 0x10 * n) 0
/-- HLT_ITEM_STROKE_HI [31:0]. -/
def F.hltItemStrokeHi (n : Nat) : Nat := fieldKey (0x4000310C + 0x10 * n) 0
/-- PWR_FEED.STANDPIPE_PCT [23:16]. -/
def F.pwrFeedStandpipePct : Nat := fieldKey 0x40004000 16
/-- PWR_FEED.STANDPIPE_READY [9:9]. -/
def F.pwrFeedStandpipeReady : Nat := fieldKey 0x40004000 9
/-- PWR_FEED.DIP_ACTIVE [8:8]. -/
def F.pwrFeedDipActive : Nat := fieldKey 0x40004000 8
/-- PWR_FEED.FEED_B [3:2]. -/
def F.pwrFeedFeedB : Nat := fieldKey 0x40004000 2
/-- PWR_FEED.FEED_A [1:0]. -/
def F.pwrFeedFeedA : Nat := fieldKey 0x40004000 0
/-- PWR_VOLT.FEED_B_V [31:16]. -/
def F.pwrVoltFeedBV : Nat := fieldKey 0x40004004 16
/-- PWR_VOLT.FEED_A_V [15:0]. -/
def F.pwrVoltFeedAV : Nat := fieldKey 0x40004004 0
/-- PWR_DIP.LONGEST_DIP [31:16]. -/
def F.pwrDipLongestDip : Nat := fieldKey 0x40004008 16
/-- PWR_DIP.DIP_COUNT [15:0]. -/
def F.pwrDipDipCount : Nat := fieldKey 0x40004008 0
/-- PWR_DOMAIN.RESTARTING [20:16]. -/
def F.pwrDomainRestarting : Nat := fieldKey 0x4000400C 16
/-- PWR_DOMAIN.ON [8:0]. -/
def F.pwrDomainOn : Nat := fieldKey 0x4000400C 0
/-- PWR_CTRL.AW1_REPAIRABLE [10:10]. -/
def F.pwrCtrlAw1Repairable : Nat := fieldKey 0x40004010 10
/-- PWR_CTRL.AW0_REPAIRABLE [9:9]. -/
def F.pwrCtrlAw0Repairable : Nat := fieldKey 0x40004010 9
/-- PWR_CTRL.DW_REPAIRABLE [8:8]. -/
def F.pwrCtrlDwRepairable : Nat := fieldKey 0x40004010 8
/-- PWR_CTRL.AW1_EN [3:3]. -/
def F.pwrCtrlAw1En : Nat := fieldKey 0x40004010 3
/-- PWR_CTRL.AW0_EN [2:2]. -/
def F.pwrCtrlAw0En : Nat := fieldKey 0x40004010 2
/-- PWR_CTRL.DW_EN [1:1]. -/
def F.pwrCtrlDwEn : Nat := fieldKey 0x40004010 1
/-- PWR_CTRL.ROPE_EN [0:0]. -/
def F.pwrCtrlRopeEn : Nat := fieldKey 0x40004010 0
/-- PWR_RESTART.TARGET [2:0]. -/
def F.pwrRestartTarget : Nat := fieldKey 0x40004014 0
/-- PWR_RESTART_STATUS.IN_PROGRESS [16:16]. -/
def F.pwrRestartStatusInProgress : Nat := fieldKey 0x40004018 16
/-- PWR_RESTART_STATUS.STATUS [15:8]. -/
def F.pwrRestartStatusStatus : Nat := fieldKey 0x40004018 8
/-- PWR_RESTART_STATUS.TARGET [2:0]. -/
def F.pwrRestartStatusTarget : Nat := fieldKey 0x40004018 0
/-- DIO_CFG.SAFE_VAL [13:13]. -/
def F.dioCfgSafeVal (n : Nat) : Nat := fieldKey (0x40010000 + 0x4 * n) 13
/-- DIO_CFG.SAFE_ACT [12:11]. -/
def F.dioCfgSafeAct (n : Nat) : Nat := fieldKey (0x40010000 + 0x4 * n) 11
/-- DIO_CFG.STOP_VAL [10:10]. -/
def F.dioCfgStopVal (n : Nat) : Nat := fieldKey (0x40010000 + 0x4 * n) 10
/-- DIO_CFG.STOP_ACT [9:8]. -/
def F.dioCfgStopAct (n : Nat) : Nat := fieldKey (0x40010000 + 0x4 * n) 8
/-- DIO_CFG.PARALLELED [7:7]. -/
def F.dioCfgParalleled (n : Nat) : Nat := fieldKey (0x40010000 + 0x4 * n) 7
/-- DIO_CFG.WB_EN [6:6]. -/
def F.dioCfgWbEn (n : Nat) : Nat := fieldKey (0x40010000 + 0x4 * n) 6
/-- DIO_CFG.FILTER [4:2]. -/
def F.dioCfgFilter (n : Nat) : Nat := fieldKey (0x40010000 + 0x4 * n) 2
/-- DIO_CFG.TYPE [1:1]. -/
def F.dioCfgType (n : Nat) : Nat := fieldKey (0x40010000 + 0x4 * n) 1
/-- DIO_CFG.DIR [0:0]. -/
def F.dioCfgDir (n : Nat) : Nat := fieldKey (0x40010000 + 0x4 * n) 0
/-- DIO_OUT [31:0]. -/
def F.dioOut : Nat := fieldKey 0x40010080 0
/-- DIO_IN [31:0]. -/
def F.dioIn : Nat := fieldKey 0x4001008C 0
/-- DIO_BAD [31:0]. -/
def F.dioBad : Nat := fieldKey 0x40010090 0
/-- DIO_UNLATCH [31:0]. -/
def F.dioUnlatch : Nat := fieldKey 0x40010094 0
/-- DIO_GRP_CTRL.ACK [7:4]. -/
def F.dioGrpCtrlAck : Nat := fieldKey 0x40010098 4
/-- DIO_GRP_CTRL.AUTO_RESTORE [3:0]. -/
def F.dioGrpCtrlAutoRestore : Nat := fieldKey 0x40010098 0
/-- DIO_LINK.WDOG_US [13:0]. -/
def F.dioLinkWdogUs : Nat := fieldKey 0x4001009C 0
/-- DIO_LINK_STAT.SKIPS [31:16]. -/
def F.dioLinkStatSkips : Nat := fieldKey 0x400100A0 16
/-- DIO_LINK_STAT.EXPIRIES [15:8]. -/
def F.dioLinkStatExpiries : Nat := fieldKey 0x400100A0 8
/-- DIO_LINK_STAT.DISCARDS [7:0]. -/
def F.dioLinkStatDiscards : Nat := fieldKey 0x400100A0 0
/-- DIO_GRP.L_PLUS [31:16]. -/
def F.dioGrpLPlus (n : Nat) : Nat := fieldKey (0x400100B0 + 0x4 * n) 16
/-- DIO_GRP.CURRENT [15:8]. -/
def F.dioGrpCurrent (n : Nat) : Nat := fieldKey (0x400100B0 + 0x4 * n) 8
/-- DIO_GRP.STATE [1:0]. -/
def F.dioGrpState (n : Nat) : Nat := fieldKey (0x400100B0 + 0x4 * n) 0
/-- DIO_STAT.SHUTDOWNS [31:24]. -/
def F.dioStatShutdowns (n : Nat) : Nat := fieldKey (0x40010100 + 0x4 * n) 24
/-- DIO_STAT.READBACK_MISMATCH [7:7]. -/
def F.dioStatReadbackMismatch (n : Nat) : Nat := fieldKey (0x40010100 + 0x4 * n) 7
/-- DIO_STAT.SWITCH_FAULT [6:6]. -/
def F.dioStatSwitchFault (n : Nat) : Nat := fieldKey (0x40010100 + 0x4 * n) 6
/-- DIO_STAT.EXTERNAL_DRIVE [5:5]. -/
def F.dioStatExternalDrive (n : Nat) : Nat := fieldKey (0x40010100 + 0x4 * n) 5
/-- DIO_STAT.LATCHED_OFF [4:4]. -/
def F.dioStatLatchedOff (n : Nat) : Nat := fieldKey (0x40010100 + 0x4 * n) 4
/-- DIO_STAT.THERMAL [3:3]. -/
def F.dioStatThermal (n : Nat) : Nat := fieldKey (0x40010100 + 0x4 * n) 3
/-- DIO_STAT.CURRENT_LIMIT [2:2]. -/
def F.dioStatCurrentLimit (n : Nat) : Nat := fieldKey (0x40010100 + 0x4 * n) 2
/-- DIO_STAT.WIRE_BREAK [1:1]. -/
def F.dioStatWireBreak (n : Nat) : Nat := fieldKey (0x40010100 + 0x4 * n) 1
/-- AIO_CFG.SAFE_ACT [15:14]. -/
def F.aioCfgSafeAct (n : Nat) : Nat := fieldKey (0x40020000 + 0x20 * n) 14
/-- AIO_CFG.STOP_ACT [13:12]. -/
def F.aioCfgStopAct (n : Nat) : Nat := fieldKey (0x40020000 + 0x20 * n) 12
/-- AIO_CFG.VERIFY [11:10]. -/
def F.aioCfgVerify (n : Nat) : Nat := fieldKey (0x40020000 + 0x20 * n) 10
/-- AIO_CFG.ALM_DIR [9:9]. -/
def F.aioCfgAlmDir (n : Nat) : Nat := fieldKey (0x40020000 + 0x20 * n) 9
/-- AIO_CFG.OUT_LIMIT [8:8]. -/
def F.aioCfgOutLimit (n : Nat) : Nat := fieldKey (0x40020000 + 0x20 * n) 8
/-- AIO_CFG.NE43_EN [7:7]. -/
def F.aioCfgNe43En (n : Nat) : Nat := fieldKey (0x40020000 + 0x20 * n) 7
/-- AIO_CFG.CHAR [6:5]. -/
def F.aioCfgChar (n : Nat) : Nat := fieldKey (0x40020000 + 0x20 * n) 5
/-- AIO_CFG.FILTER [4:2]. -/
def F.aioCfgFilter (n : Nat) : Nat := fieldKey (0x40020000 + 0x20 * n) 2
/-- AIO_CFG.FUNC [1:0]. -/
def F.aioCfgFunc (n : Nat) : Nat := fieldKey (0x40020000 + 0x20 * n) 0
/-- AIO_CHAR.NE43_MS [31:16]. -/
def F.aioCharNe43Ms (n : Nat) : Nat := fieldKey (0x40020004 + 0x20 * n) 16
/-- AIO_CHAR.TAB_COUNT [13:8]. -/
def F.aioCharTabCount (n : Nat) : Nat := fieldKey (0x40020004 + 0x20 * n) 8
/-- AIO_CHAR.CUTOFF_PERMIL [7:0]. -/
def F.aioCharCutoffPermil (n : Nat) : Nat := fieldKey (0x40020004 + 0x20 * n) 0
/-- AIO_EU_LO [31:0]. -/
def F.aioEuLo (n : Nat) : Nat := fieldKey (0x40020008 + 0x20 * n) 0
/-- AIO_EU_HI [31:0]. -/
def F.aioEuHi (n : Nat) : Nat := fieldKey (0x4002000C + 0x20 * n) 0
/-- AIO_STOP_VAL [31:0]. -/
def F.aioStopVal (n : Nat) : Nat := fieldKey (0x40020010 + 0x20 * n) 0
/-- AIO_SAFE_VAL [31:0]. -/
def F.aioSafeVal (n : Nat) : Nat := fieldKey (0x40020014 + 0x20 * n) 0
/-- AIO_OUT [31:0]. -/
def F.aioOut (n : Nat) : Nat := fieldKey (0x40020018 + 0x20 * n) 0
/-- AIO_STAT.CURRENT_UA [31:16]. -/
def F.aioStatCurrentUa (n : Nat) : Nat := fieldKey (0x4002001C + 0x20 * n) 16
/-- AIO_STAT.ALARM_ACTIVE [10:10]. -/
def F.aioStatAlarmActive (n : Nat) : Nat := fieldKey (0x4002001C + 0x20 * n) 10
/-- AIO_STAT.SUPPLY_SHORT [9:9]. -/
def F.aioStatSupplyShort (n : Nat) : Nat := fieldKey (0x4002001C + 0x20 * n) 9
/-- AIO_STAT.NE43_HIGH [8:8]. -/
def F.aioStatNe43High (n : Nat) : Nat := fieldKey (0x4002001C + 0x20 * n) 8
/-- AIO_STAT.NE43_LOW [7:7]. -/
def F.aioStatNe43Low (n : Nat) : Nat := fieldKey (0x4002001C + 0x20 * n) 7
/-- AIO_STAT.LIMIT [6:6]. -/
def F.aioStatLimit (n : Nat) : Nat := fieldKey (0x4002001C + 0x20 * n) 6
/-- AIO_STAT.READBACK_FAULT [5:5]. -/
def F.aioStatReadbackFault (n : Nat) : Nat := fieldKey (0x4002001C + 0x20 * n) 5
/-- AIO_STAT.OPEN_LOOP [4:4]. -/
def F.aioStatOpenLoop (n : Nat) : Nat := fieldKey (0x4002001C + 0x20 * n) 4
/-- AIO_STAT.COMPLIANCE_SHORT [3:3]. -/
def F.aioStatComplianceShort (n : Nat) : Nat := fieldKey (0x4002001C + 0x20 * n) 3
/-- AIO_STAT.BAD [2:2]. -/
def F.aioStatBad (n : Nat) : Nat := fieldKey (0x4002001C + 0x20 * n) 2
/-- AIO_ALARM.ALARM [15:0]. -/
def F.aioAlarmAlarm : Nat := fieldKey 0x40020200 0
/-- AW_LINK.SKIPS [31:16]. -/
def F.awLinkSkips (n : Nat) : Nat := fieldKey (0x40020210 + 0x4 * n) 16
/-- AW_LINK.WDOG_US [13:0]. -/
def F.awLinkWdogUs (n : Nat) : Nat := fieldKey (0x40020210 + 0x4 * n) 0
/-- AW_STAT.RESERVOIR_PCT [31:24]. -/
def F.awStatReservoirPct (n : Nat) : Nat := fieldKey (0x40020220 + 0x4 * n) 24
/-- AW_STAT.EXPIRIES [23:16]. -/
def F.awStatExpiries (n : Nat) : Nat := fieldKey (0x40020220 + 0x4 * n) 16
/-- AW_STAT.DISCARDS [15:8]. -/
def F.awStatDiscards (n : Nat) : Nat := fieldKey (0x40020220 + 0x4 * n) 8
/-- AW_STAT.REF_FAULT [3:3]. -/
def F.awStatRefFault (n : Nat) : Nat := fieldKey (0x40020220 + 0x4 * n) 3
/-- AW_STAT.ALM_STRAP [2:2]. -/
def F.awStatAlmStrap (n : Nat) : Nat := fieldKey (0x40020220 + 0x4 * n) 2
/-- AW_STAT.RES_LOW [1:1]. -/
def F.awStatResLow (n : Nat) : Nat := fieldKey (0x40020220 + 0x4 * n) 1
/-- AW_STAT.CAL_REUSED [0:0]. -/
def F.awStatCalReused (n : Nat) : Nat := fieldKey (0x40020220 + 0x4 * n) 0
/-- AIO_TAB_X [31:0]. -/
def F.aioTabX (n p : Nat) : Nat := fieldKey (0x40021000 + 0x100 * n + 0x8 * p) 0
/-- AIO_TAB_Y [31:0]. -/
def F.aioTabY (n p : Nat) : Nat := fieldKey (0x40021004 + 0x100 * n + 0x8 * p) 0
/-- ENC_CFG.SSI_CLK [31:24]. -/
def F.encCfgSsiClk (n : Nat) : Nat := fieldKey (0x40030000 + 0x10 * n) 24
/-- ENC_CFG.SSI_TM [23:16]. -/
def F.encCfgSsiTm (n : Nat) : Nat := fieldKey (0x40030000 + 0x10 * n) 16
/-- ENC_CFG.SSI_BITS [13:8]. -/
def F.encCfgSsiBits (n : Nat) : Nat := fieldKey (0x40030000 + 0x10 * n) 8
/-- ENC_CFG.GRAY [4:4]. -/
def F.encCfgGray (n : Nat) : Nat := fieldKey (0x40030000 + 0x10 * n) 4
/-- ENC_CFG.REVERSE [3:3]. -/
def F.encCfgReverse (n : Nat) : Nat := fieldKey (0x40030000 + 0x10 * n) 3
/-- ENC_CFG.MODE [1:0]. -/
def F.encCfgMode (n : Nat) : Nat := fieldKey (0x40030000 + 0x10 * n) 0
/-- ENC_VALUE [31:0]. -/
def F.encValue (n : Nat) : Nat := fieldKey (0x40030004 + 0x10 * n) 0
/-- ENC_STAT.SSI_CLK_USED [31:24]. -/
def F.encStatSsiClkUsed (n : Nat) : Nat := fieldKey (0x40030008 + 0x10 * n) 24
/-- ENC_STAT.ILLEGAL_COUNT [23:16]. -/
def F.encStatIllegalCount (n : Nat) : Nat := fieldKey (0x40030008 + 0x10 * n) 16
/-- ENC_STAT.SSI_FAULT [3:3]. -/
def F.encStatSsiFault (n : Nat) : Nat := fieldKey (0x40030008 + 0x10 * n) 3
/-- ENC_STAT.LINE_FAULT [2:2]. -/
def F.encStatLineFault (n : Nat) : Nat := fieldKey (0x40030008 + 0x10 * n) 2
/-- ENC_STAT.ILLEGAL [1:1]. -/
def F.encStatIllegal (n : Nat) : Nat := fieldKey (0x40030008 + 0x10 * n) 1
/-- ENC_LOAD [31:0]. -/
def F.encLoad (n : Nat) : Nat := fieldKey (0x4003000C + 0x10 * n) 0
/-- ENC_SUPPLY.ON [17:17]. -/
def F.encSupplyOn : Nat := fieldKey 0x40030040 17
/-- ENC_SUPPLY.OVERLOAD [16:16]. -/
def F.encSupplyOverload : Nat := fieldKey 0x40030040 16
/-- ENC_SUPPLY.CURRENT_MA [15:0]. -/
def F.encSupplyCurrentMa : Nat := fieldKey 0x40030040 0
/-- CAN_CTRL.AUTO_RECOVER [2:2]. -/
def F.canCtrlAutoRecover (n : Nat) : Nat := fieldKey (0x40040000 + 0x4000 * n) 2
/-- CAN_CTRL.LISTEN_ONLY [1:1]. -/
def F.canCtrlListenOnly (n : Nat) : Nat := fieldKey (0x40040000 + 0x4000 * n) 1
/-- CAN_CTRL.ENABLE [0:0]. -/
def F.canCtrlEnable (n : Nat) : Nat := fieldKey (0x40040000 + 0x4000 * n) 0
/-- CAN_NBT.NSJW [30:24]. -/
def F.canNbtNsjw (n : Nat) : Nat := fieldKey (0x40040004 + 0x4000 * n) 24
/-- CAN_NBT.NTSEG2 [22:16]. -/
def F.canNbtNtseg2 (n : Nat) : Nat := fieldKey (0x40040004 + 0x4000 * n) 16
/-- CAN_NBT.NTSEG1 [14:8]. -/
def F.canNbtNtseg1 (n : Nat) : Nat := fieldKey (0x40040004 + 0x4000 * n) 8
/-- CAN_NBT.NBRP [5:0]. -/
def F.canNbtNbrp (n : Nat) : Nat := fieldKey (0x40040004 + 0x4000 * n) 0
/-- CAN_DBT.DSJW [28:24]. -/
def F.canDbtDsjw (n : Nat) : Nat := fieldKey (0x40040008 + 0x4000 * n) 24
/-- CAN_DBT.DTSEG2 [20:16]. -/
def F.canDbtDtseg2 (n : Nat) : Nat := fieldKey (0x40040008 + 0x4000 * n) 16
/-- CAN_DBT.DTSEG1 [12:8]. -/
def F.canDbtDtseg1 (n : Nat) : Nat := fieldKey (0x40040008 + 0x4000 * n) 8
/-- CAN_DBT.DBRP [5:0]. -/
def F.canDbtDbrp (n : Nat) : Nat := fieldKey (0x40040008 + 0x4000 * n) 0
/-- CAN_RATE_NOM [31:0]. -/
def F.canRateNom (n : Nat) : Nat := fieldKey (0x4004000C + 0x4000 * n) 0
/-- CAN_RATE_DATA [31:0]. -/
def F.canRateData (n : Nat) : Nat := fieldKey (0x40040010 + 0x4000 * n) 0
/-- CAN_STAT.TEC [31:24]. -/
def F.canStatTec (n : Nat) : Nat := fieldKey (0x40040014 + 0x4000 * n) 24
/-- CAN_STAT.REC [23:16]. -/
def F.canStatRec (n : Nat) : Nat := fieldKey (0x40040014 + 0x4000 * n) 16
/-- CAN_STAT.LISTEN_ACTIVE [2:2]. -/
def F.canStatListenActive (n : Nat) : Nat := fieldKey (0x40040014 + 0x4000 * n) 2
/-- CAN_STAT.STATE [1:0]. -/
def F.canStatState (n : Nat) : Nat := fieldKey (0x40040014 + 0x4000 * n) 0
/-- CAN_FLAGS.FIFO1_OVERFLOW [3:3]. -/
def F.canFlagsFifo1Overflow (n : Nat) : Nat := fieldKey (0x40040018 + 0x4000 * n) 3
/-- CAN_FLAGS.FIFO0_OVERFLOW [2:2]. -/
def F.canFlagsFifo0Overflow (n : Nat) : Nat := fieldKey (0x40040018 + 0x4000 * n) 2
/-- CAN_FLAGS.BUS_OFF_SEEN [1:1]. -/
def F.canFlagsBusOffSeen (n : Nat) : Nat := fieldKey (0x40040018 + 0x4000 * n) 1
/-- CAN_FLAGS.ID_COLLISION [0:0]. -/
def F.canFlagsIdCollision (n : Nat) : Nat := fieldKey (0x40040018 + 0x4000 * n) 0
/-- CAN_CNT_TX.TX_REPLACED [31:16]. -/
def F.canCntTxTxReplaced (n : Nat) : Nat := fieldKey (0x4004001C + 0x4000 * n) 16
/-- CAN_CNT_TX.TX_DISCARDED [15:0]. -/
def F.canCntTxTxDiscarded (n : Nat) : Nat := fieldKey (0x4004001C + 0x4000 * n) 0
/-- CAN_CNT_RX.FIFO_OVERFLOWS [31:16]. -/
def F.canCntRxFifoOverflows (n : Nat) : Nat := fieldKey (0x40040020 + 0x4000 * n) 16
/-- CAN_CNT_RX.UNMATCHED [15:0]. -/
def F.canCntRxUnmatched (n : Nat) : Nat := fieldKey (0x40040020 + 0x4000 * n) 0
/-- CAN_CNT_ERR.BUS_OFFS [31:24]. -/
def F.canCntErrBusOffs (n : Nat) : Nat := fieldKey (0x40040024 + 0x4000 * n) 24
/-- CAN_CNT_ERR.COLLISIONS [23:16]. -/
def F.canCntErrCollisions (n : Nat) : Nat := fieldKey (0x40040024 + 0x4000 * n) 16
/-- CAN_CNT_ERR.PROTOCOL_EXCEPTIONS [15:8]. -/
def F.canCntErrProtocolExceptions (n : Nat) : Nat := fieldKey (0x40040024 + 0x4000 * n) 8
/-- CAN_CNT_ERR.REMOTE_FRAMES [7:0]. -/
def F.canCntErrRemoteFrames (n : Nat) : Nat := fieldKey (0x40040024 + 0x4000 * n) 0
/-- CAN_TX_PEND [31:0]. -/
def F.canTxPend (n : Nat) : Nat := fieldKey (0x40040028 + 0x4000 * n) 0
/-- CAN_TX_ABORT [31:0]. -/
def F.canTxAbort (n : Nat) : Nat := fieldKey (0x4004002C + 0x4000 * n) 0
/-- CAN_CMD.RECOVER [0:0]. -/
def F.canCmdRecover (n : Nat) : Nat := fieldKey (0x40040030 + 0x4000 * n) 0
/-- CAN_FIFO_STAT.FIFO1_COUNT [22:16]. -/
def F.canFifoStatFifo1Count (n : Nat) : Nat := fieldKey (0x40040034 + 0x4000 * n) 16
/-- CAN_FIFO_STAT.FIFO0_COUNT [6:0]. -/
def F.canFifoStatFifo0Count (n : Nat) : Nat := fieldKey (0x40040034 + 0x4000 * n) 0
/-- CAN_MB_NEW [31:0]. -/
def F.canMbNew (n p : Nat) : Nat := fieldKey (0x40040040 + 0x4000 * n + 0x4 * p) 0
/-- CAN_FLT_MATCH.IDE [29:29]. -/
def F.canFltMatchIde (n p : Nat) : Nat := fieldKey (0x40040100 + 0x4000 * n + 0x10 * p) 29
/-- CAN_FLT_MATCH.MATCH [28:0]. -/
def F.canFltMatchMatch (n p : Nat) : Nat := fieldKey (0x40040100 + 0x4000 * n + 0x10 * p) 0
/-- CAN_FLT_MASK.MASK [28:0]. -/
def F.canFltMaskMask (n p : Nat) : Nat := fieldKey (0x40040104 + 0x4000 * n + 0x10 * p) 0
/-- CAN_FLT_CFG.FRAME [13:12]. -/
def F.canFltCfgFrame (n p : Nat) : Nat := fieldKey (0x40040108 + 0x4000 * n + 0x10 * p) 12
/-- CAN_FLT_CFG.OWNED [11:11]. -/
def F.canFltCfgOwned (n p : Nat) : Nat := fieldKey (0x40040108 + 0x4000 * n + 0x10 * p) 11
/-- CAN_FLT_CFG.ROUTE [10:8]. -/
def F.canFltCfgRoute (n p : Nat) : Nat := fieldKey (0x40040108 + 0x4000 * n + 0x10 * p) 8
/-- CAN_FLT_CFG.MAILBOX [6:0]. -/
def F.canFltCfgMailbox (n p : Nat) : Nat := fieldKey (0x40040108 + 0x4000 * n + 0x10 * p) 0
/-- RIO_STAT.UNKNOWN_FRAMES [31:16]. -/
def F.rioStatUnknownFrames : Nat := fieldKey 0x40050000 16
/-- RIO_STAT.RUNNING [15:8]. -/
def F.rioStatRunning : Nat := fieldKey 0x40050000 8
/-- RIO_STAT.RING_STATE [1:0]. -/
def F.rioStatRingState : Nat := fieldKey 0x40050000 0
/-- RIO_CNT.RECORD_CRC_FAILS [31:16]. -/
def F.rioCntRecordCrcFails : Nat := fieldKey 0x40050004 16
/-- RIO_CNT.DUPLICATES [15:0]. -/
def F.rioCntDuplicates : Nat := fieldKey 0x40050004 0
/-- RIO_OUT_DEFER.OUT_DEFERRED [15:0]. -/
def F.rioOutDeferOutDeferred : Nat := fieldKey 0x40050008 0
/-- RIO_STN_CFG.PRESENT [31:31]. -/
def F.rioStnCfgPresent (n : Nat) : Nat := fieldKey (0x40050100 + 0x10 * n) 31
/-- RIO_STN_CFG.FIRST_MODULE [25:16]. -/
def F.rioStnCfgFirstModule (n : Nat) : Nat := fieldKey (0x40050100 + 0x10 * n) 16
/-- RIO_STN_CFG.MODULES [14:8]. -/
def F.rioStnCfgModules (n : Nat) : Nat := fieldKey (0x40050100 + 0x10 * n) 8
/-- RIO_STN_CFG.TIMEOUT_MS [6:0]. -/
def F.rioStnCfgTimeoutMs (n : Nat) : Nat := fieldKey (0x40050100 + 0x10 * n) 0
/-- RIO_STN_STAT.OUT_VERSION [31:16]. -/
def F.rioStnStatOutVersion (n : Nat) : Nat := fieldKey (0x40050104 + 0x10 * n) 16
/-- RIO_STN_STAT.ALL_STALE [8:8]. -/
def F.rioStnStatAllStale (n : Nat) : Nat := fieldKey (0x40050104 + 0x10 * n) 8
/-- RIO_STN_STAT.LINK_B [7:7]. -/
def F.rioStnStatLinkB (n : Nat) : Nat := fieldKey (0x40050104 + 0x10 * n) 7
/-- RIO_STN_STAT.LINK_A [6:6]. -/
def F.rioStnStatLinkA (n : Nat) : Nat := fieldKey (0x40050104 + 0x10 * n) 6
/-- RIO_STN_STAT.ACKED [5:5]. -/
def F.rioStnStatAcked (n : Nat) : Nat := fieldKey (0x40050104 + 0x10 * n) 5
/-- RIO_STN_STAT.STATE [2:0]. -/
def F.rioStnStatState (n : Nat) : Nat := fieldKey (0x40050104 + 0x10 * n) 0
/-- RIO_STN_CNT.TIMEOUTS [31:16]. -/
def F.rioStnCntTimeouts (n : Nat) : Nat := fieldKey (0x40050108 + 0x10 * n) 16
/-- RIO_STN_CNT.RESTARTS [15:0]. -/
def F.rioStnCntRestarts (n : Nat) : Nat := fieldKey (0x40050108 + 0x10 * n) 0
/-- RIO_MOD_CFG.STATION [31:26]. -/
def F.rioModCfgStation (n : Nat) : Nat := fieldKey (0x40051000 + 0x20 * n) 26
/-- RIO_MOD_CFG.SLOT [25:20]. -/
def F.rioModCfgSlot (n : Nat) : Nat := fieldKey (0x40051000 + 0x20 * n) 20
/-- RIO_MOD_CFG.IN_WORDS [19:13]. -/
def F.rioModCfgInWords (n : Nat) : Nat := fieldKey (0x40051000 + 0x20 * n) 13
/-- RIO_MOD_CFG.OUT_WORDS [12:6]. -/
def F.rioModCfgOutWords (n : Nat) : Nat := fieldKey (0x40051000 + 0x20 * n) 6
/-- RIO_MOD_CFG.SAFE_ACT [5:4]. -/
def F.rioModCfgSafeAct (n : Nat) : Nat := fieldKey (0x40051000 + 0x20 * n) 4
/-- RIO_MOD_CFG.STOP_ACT [3:2]. -/
def F.rioModCfgStopAct (n : Nat) : Nat := fieldKey (0x40051000 + 0x20 * n) 2
/-- RIO_MOD_CFG.SUBST_REQ [1:1]. -/
def F.rioModCfgSubstReq (n : Nat) : Nat := fieldKey (0x40051000 + 0x20 * n) 1
/-- RIO_MOD_TYPE [31:0]. -/
def F.rioModType (n : Nat) : Nat := fieldKey (0x40051004 + 0x20 * n) 0
/-- RIO_MOD_IN_ADDR [31:0]. -/
def F.rioModInAddr (n : Nat) : Nat := fieldKey (0x40051008 + 0x20 * n) 0
/-- RIO_MOD_OUT_ADDR [31:0]. -/
def F.rioModOutAddr (n : Nat) : Nat := fieldKey (0x4005100C + 0x20 * n) 0
/-- RIO_MOD_STAT.AGE [31:16]. -/
def F.rioModStatAge (n : Nat) : Nat := fieldKey (0x40051010 + 0x20 * n) 16
/-- RIO_MOD_STAT.MISMATCH [4:4]. -/
def F.rioModStatMismatch (n : Nat) : Nat := fieldKey (0x40051010 + 0x20 * n) 4
/-- RIO_MOD_STAT.SUBSTITUTE [3:3]. -/
def F.rioModStatSubstitute (n : Nat) : Nat := fieldKey (0x40051010 + 0x20 * n) 3
/-- RIO_MOD_STAT.FAULT [2:2]. -/
def F.rioModStatFault (n : Nat) : Nat := fieldKey (0x40051010 + 0x20 * n) 2
/-- RIO_MOD_STAT.BAD [1:1]. -/
def F.rioModStatBad (n : Nat) : Nat := fieldKey (0x40051010 + 0x20 * n) 1
/-- RIO_MOD_STAT.STALE [0:0]. -/
def F.rioModStatStale (n : Nat) : Nat := fieldKey (0x40051010 + 0x20 * n) 0
/-- NET_IP [31:0]. -/
def F.netIp (n : Nat) : Nat := fieldKey (0x40060000 + 0x4 * n) 0
/-- NET_GW [31:0]. -/
def F.netGw : Nat := fieldKey 0x4006000C 0
/-- NET_MASK.PREFIX [5:0]. -/
def F.netMaskPrefix : Nat := fieldKey 0x40060008 0
/-- NET_MAC_LO [31:0]. -/
def F.netMacLo : Nat := fieldKey 0x40060010 0
/-- NET_MAC_HI [31:0]. -/
def F.netMacHi : Nat := fieldKey 0x40060014 0
/-- NET_P3_STAT.DROPPED [31:16]. -/
def F.netP3StatDropped : Nat := fieldKey 0x40060018 16
/-- NET_P3_STAT.SPEED_1G [2:2]. -/
def F.netP3StatSpeed1g : Nat := fieldKey 0x40060018 2
/-- NET_P3_STAT.LINK [0:0]. -/
def F.netP3StatLink : Nat := fieldKey 0x40060018 0
/-- MB_CFG.IDLE_S [12:1]. -/
def F.mbCfgIdleS : Nat := fieldKey 0x40060020 1
/-- MB_CFG.ENABLE [0:0]. -/
def F.mbCfgEnable : Nat := fieldKey 0x40060020 0
/-- MB_STAT.CONNECTIONS [31:28]. -/
def F.mbStatConnections : Nat := fieldKey 0x40060024 28
/-- MB_STAT.EXCEPTIONS [27:16]. -/
def F.mbStatExceptions : Nat := fieldKey 0x40060024 16
/-- MB_STAT.REQUESTS [15:0]. -/
def F.mbStatRequests : Nat := fieldKey 0x40060024 0
/-- PTP_CFG.LOG_DELAY [15:12]. -/
def F.ptpCfgLogDelay : Nat := fieldKey 0x40060030 12
/-- PTP_CFG.DOMAIN [7:1]. -/
def F.ptpCfgDomain : Nat := fieldKey 0x40060030 1
/-- PTP_CFG.PTP_EN [0:0]. -/
def F.ptpCfgPtpEn : Nat := fieldKey 0x40060030 0
/-- PTP_STAT.SYNCED [3:3]. -/
def F.ptpStatSynced : Nat := fieldKey 0x40060034 3
/-- PTP_STAT.PORT_STATE [2:0]. -/
def F.ptpStatPortState : Nat := fieldKey 0x40060034 0
/-- PTP_OFFSET [31:0]. -/
def F.ptpOffset : Nat := fieldKey 0x40060038 0
/-- WALL_LO [31:0]. -/
def F.wallLo : Nat := fieldKey 0x40060040 0
/-- WALL_HI [31:0]. -/
def F.wallHi : Nat := fieldKey 0x40060044 0
/-- WALL_QUAL.QUALITY [7:0]. -/
def F.wallQualQuality : Nat := fieldKey 0x40060048 0
/-- ENG_STAT.USB_ATTACHED [8:8]. -/
def F.engStatUsbAttached : Nat := fieldKey 0x40060050 8
/-- ENG_STAT.SESSIONS [2:0]. -/
def F.engStatSessions : Nat := fieldKey 0x40060050 0
/-- RED_CFG.AUTO_JOIN [13:13]. -/
def F.redCfgAutoJoin : Nat := fieldKey 0x40070000 13
/-- RED_CFG.JOIN_EN [12:12]. -/
def F.redCfgJoinEn : Nat := fieldKey 0x40070000 12
/-- RED_CFG.LEASE_STROKES [6:0]. -/
def F.redCfgLeaseStrokes : Nat := fieldKey 0x40070000 0
/-- RED_STATUS.LAST_CAUSE [23:20]. -/
def F.redStatusLastCause : Nat := fieldKey 0x40070004 20
/-- RED_STATUS.PARTNER_HOLDS [19:19]. -/
def F.redStatusPartnerHolds : Nat := fieldKey 0x40070004 19
/-- RED_STATUS.PARTNER_ROLE [18:16]. -/
def F.redStatusPartnerRole : Nat := fieldKey 0x40070004 16
/-- RED_STATUS.LANES [11:10]. -/
def F.redStatusLanes : Nat := fieldKey 0x40070004 10
/-- RED_STATUS.ROPE [9:8]. -/
def F.redStatusRope : Nat := fieldKey 0x40070004 8
/-- RED_STATUS.ARMED [5:5]. -/
def F.redStatusArmed : Nat := fieldKey 0x40070004 5
/-- RED_STATUS.SAFE_DRIVER [4:4]. -/
def F.redStatusSafeDriver : Nat := fieldKey 0x40070004 4
/-- RED_STATUS.HOLDER [3:3]. -/
def F.redStatusHolder : Nat := fieldKey 0x40070004 3
/-- RED_STATUS.ROLE [2:0]. -/
def F.redStatusRole : Nat := fieldKey 0x40070004 0
/-- RED_LEASE.GUARD_10US [31:16]. -/
def F.redLeaseGuard10us : Nat := fieldKey 0x40070008 16
/-- RED_LEASE.LEASE_10US [15:0]. -/
def F.redLeaseLease10us : Nat := fieldKey 0x40070008 0
/-- RED_JOIN.PAGES_DIRTY [31:16]. -/
def F.redJoinPagesDirty : Nat := fieldKey 0x4007000C 16
/-- RED_JOIN.ABORT_CAUSE [15:8]. -/
def F.redJoinAbortCause : Nat := fieldKey 0x4007000C 8
/-- RED_JOIN.STATE [2:0]. -/
def F.redJoinState : Nat := fieldKey 0x4007000C 0
/-- RED_JOIN_TIME.LAST_MS [15:0]. -/
def F.redJoinTimeLastMs : Nat := fieldKey 0x40070010 0
/-- RED_CNT.SWITCHOVERS [31:24]. -/
def F.redCntSwitchovers : Nat := fieldKey 0x40070014 24
/-- RED_CNT.DIVERGENCES [23:16]. -/
def F.redCntDivergences : Nat := fieldKey 0x40070014 16
/-- RED_CNT.ROPE_LOSSES [15:8]. -/
def F.redCntRopeLosses : Nat := fieldKey 0x40070014 8
/-- RED_CNT.JOIN_ABORTS [7:0]. -/
def F.redCntJoinAborts : Nat := fieldKey 0x40070014 0
/-- RED_ROPE.CRC_ERRORS [31:16]. -/
def F.redRopeCrcErrors : Nat := fieldKey 0x40070018 16
/-- RED_ROPE.FRAMES_LOST [15:0]. -/
def F.redRopeFramesLost : Nat := fieldKey 0x40070018 0
/-- LOG_STAT.FULL [31:31]. -/
def F.logStatFull : Nat := fieldKey 0x40080000 31
/-- LOG_STAT.COUNT [16:0]. -/
def F.logStatCount : Nat := fieldKey 0x40080000 0
/-- LOG_LOST [31:0]. -/
def F.logLost : Nat := fieldKey 0x40080004 0
/-- LOG_NEXT_SEQ [31:0]. -/
def F.logNextSeq : Nat := fieldKey 0x40080008 0
/-- LOG_BASE_SEQ [31:0]. -/
def F.logBaseSeq : Nat := fieldKey 0x4008000C 0
/-- LOG_QUEUE.PEAK [10:0]. -/
def F.logQueuePeak : Nat := fieldKey 0x40080010 0
/-- CVU_STAT.CHECK_FAILS [31:16]. -/
def F.cvuStatCheckFails : Nat := fieldKey 0x40090000 16
/-- CVU_STAT.CHECK_GAPS [15:0]. -/
def F.cvuStatCheckGaps : Nat := fieldKey 0x40090000 0
/-- CVU_COUNT [31:0]. -/
def F.cvuCount : Nat := fieldKey 0x40090004 0
/-- HART_CFG.PREAMBLES [20:16]. -/
def F.hartCfgPreambles (n : Nat) : Nat := fieldKey (0x400A0000 + 0x10 * n) 16
/-- HART_CFG.BURST_EN [11:11]. -/
def F.hartCfgBurstEn (n : Nat) : Nat := fieldKey (0x400A0000 + 0x10 * n) 11
/-- HART_CFG.RETRIES [10:8]. -/
def F.hartCfgRetries (n : Nat) : Nat := fieldKey (0x400A0000 + 0x10 * n) 8
/-- HART_CFG.POLL_ADDR [7:2]. -/
def F.hartCfgPollAddr (n : Nat) : Nat := fieldKey (0x400A0000 + 0x10 * n) 2
/-- HART_CFG.MASTER [1:1]. -/
def F.hartCfgMaster (n : Nat) : Nat := fieldKey (0x400A0000 + 0x10 * n) 1
/-- HART_CFG.HART_EN [0:0]. -/
def F.hartCfgHartEn (n : Nat) : Nat := fieldKey (0x400A0000 + 0x10 * n) 0
/-- HART_STAT.COMM_ERRORS [31:24]. -/
def F.hartStatCommErrors (n : Nat) : Nat := fieldKey (0x400A0004 + 0x10 * n) 24
/-- HART_STAT.NO_RESPONSE [23:16]. -/
def F.hartStatNoResponse (n : Nat) : Nat := fieldKey (0x400A0004 + 0x10 * n) 16
/-- HART_STAT.DEV_STATUS [15:8]. -/
def F.hartStatDevStatus (n : Nat) : Nat := fieldKey (0x400A0004 + 0x10 * n) 8
/-- HART_STAT.RESULT_READY [3:3]. -/
def F.hartStatResultReady (n : Nat) : Nat := fieldKey (0x400A0004 + 0x10 * n) 3
/-- HART_STAT.OUTSTANDING [2:2]. -/
def F.hartStatOutstanding (n : Nat) : Nat := fieldKey (0x400A0004 + 0x10 * n) 2
/-- HART_STAT.DEVICE [1:0]. -/
def F.hartStatDevice (n : Nat) : Nat := fieldKey (0x400A0004 + 0x10 * n) 0
/-- HART_UID_LO [31:0]. -/
def F.hartUidLo (n : Nat) : Nat := fieldKey (0x400A0008 + 0x10 * n) 0
/-- HART_UID_HI [31:0]. -/
def F.hartUidHi (n : Nat) : Nat := fieldKey (0x400A000C + 0x10 * n) 0
/-- HART_BURST0.CMD [31:16]. -/
def F.hartBurst0Cmd (n : Nat) : Nat := fieldKey (0x400A1000 + 0x200 * n) 16
/-- HART_BURST0.LENGTH [15:8]. -/
def F.hartBurst0Length (n : Nat) : Nat := fieldKey (0x400A1000 + 0x200 * n) 8
/-- HART_BURST0.RESP_CODE [7:0]. -/
def F.hartBurst0RespCode (n : Nat) : Nat := fieldKey (0x400A1000 + 0x200 * n) 0
/-- HART_BURST1.VALID [8:8]. -/
def F.hartBurst1Valid (n : Nat) : Nat := fieldKey (0x400A1004 + 0x200 * n) 8
/-- HART_BURST1.DEV_STATUS [7:0]. -/
def F.hartBurst1DevStatus (n : Nat) : Nat := fieldKey (0x400A1004 + 0x200 * n) 0
/-- HART_BURST2.AGE [15:0]. -/
def F.hartBurst2Age (n : Nat) : Nat := fieldKey (0x400A1008 + 0x200 * n) 0
/-- HART_BURST3.LOST [31:16]. -/
def F.hartBurst3Lost (n : Nat) : Nat := fieldKey (0x400A100C + 0x200 * n) 16
/-- HART_BURST3.TAKEN [15:0]. -/
def F.hartBurst3Taken (n : Nat) : Nat := fieldKey (0x400A100C + 0x200 * n) 0
/-- HART_BURST_DATA [31:0]. -/
def F.hartBurstData (n p : Nat) : Nat := fieldKey (0x400A1010 + 0x200 * n + 0x4 * p) 0
/-- SEC_STATUS.DENY_COUNT [31:24]. -/
def F.secStatusDenyCount : Nat := fieldKey 0x400B0000 24
/-- SEC_STATUS.IMAGE_ANCHORS [23:16]. -/
def F.secStatusImageAnchors : Nat := fieldKey 0x400B0000 16
/-- SEC_STATUS.CLIENT_ANCHORS [15:8]. -/
def F.secStatusClientAnchors : Nat := fieldKey 0x400B0000 8
/-- SEC_STATUS.SECURE_FAULT [1:1]. -/
def F.secStatusSecureFault : Nat := fieldKey 0x400B0000 1
/-- SEC_STATUS.CLAIMED [0:0]. -/
def F.secStatusClaimed : Nat := fieldKey 0x400B0000 0
/-- SEC_FW_SLOT.ACTIVE [31:31]. -/
def F.secFwSlotActive (n : Nat) : Nat := fieldKey (0x400B0010 + 0x10 * n) 31
/-- SEC_FW_SLOT.NEXT [30:30]. -/
def F.secFwSlotNext (n : Nat) : Nat := fieldKey (0x400B0010 + 0x10 * n) 30
/-- SEC_FW_SLOT.VERDICT [20:16]. -/
def F.secFwSlotVerdict (n : Nat) : Nat := fieldKey (0x400B0010 + 0x10 * n) 16
/-- SEC_FW_SLOT.STATE [2:0]. -/
def F.secFwSlotState (n : Nat) : Nat := fieldKey (0x400B0010 + 0x10 * n) 0
/-- SEC_FW_VERSION [31:0]. -/
def F.secFwVersion (n : Nat) : Nat := fieldKey (0x400B0014 + 0x10 * n) 0
/-- SEC_FW_LEVELS.ROPE_VERSION [31:16]. -/
def F.secFwLevelsRopeVersion (n : Nat) : Nat := fieldKey (0x400B0018 + 0x10 * n) 16
/-- SEC_FW_LEVELS.ROLLBACK [15:0]. -/
def F.secFwLevelsRollback (n : Nat) : Nat := fieldKey (0x400B0018 + 0x10 * n) 0
/-- SEC_ROLLBACK [31:0]. -/
def F.secRollback : Nat := fieldKey 0x400B0030 0
/-- SEC_AUTH.FAILURES [15:0]. -/
def F.secAuthFailures : Nat := fieldKey 0x400B0034 0
/-- SEC_IMG_ANCHOR [31:0]. -/
def F.secImgAnchor (n : Nat) : Nat := fieldKey (0x400B0100 + 0x4 * n) 0
/-- SEC_CLI_ANCHOR [31:0]. -/
def F.secCliAnchor (n : Nat) : Nat := fieldKey (0x400B0120 + 0x4 * n) 0
/-- LOOP_CFG.QMASK [15:8]. -/
def F.loopCfgQmask (n : Nat) : Nat := fieldKey (0x50000000 + 0x100 * n) 8
/-- LOOP_CFG.PV_ACTION [5:4]. -/
def F.loopCfgPvAction (n : Nat) : Nat := fieldKey (0x50000000 + 0x100 * n) 4
/-- LOOP_CFG.GROUP_OVERRIDE [3:3]. -/
def F.loopCfgGroupOverride (n : Nat) : Nat := fieldKey (0x50000000 + 0x100 * n) 3
/-- LOOP_CFG.FREEZE [2:2]. -/
def F.loopCfgFreeze (n : Nat) : Nat := fieldKey (0x50000000 + 0x100 * n) 2
/-- LOOP_CFG.RAMP_ALWAYS [1:1]. -/
def F.loopCfgRampAlways (n : Nat) : Nat := fieldKey (0x50000000 + 0x100 * n) 1
/-- LOOP_CFG.ENABLE [0:0]. -/
def F.loopCfgEnable (n : Nat) : Nat := fieldKey (0x50000000 + 0x100 * n) 0
/-- LOOP_PERIOD.PHASE [31:16]. -/
def F.loopPeriodPhase (n : Nat) : Nat := fieldKey (0x50000004 + 0x100 * n) 16
/-- LOOP_PERIOD.K_L [15:0]. -/
def F.loopPeriodKL (n : Nat) : Nat := fieldKey (0x50000004 + 0x100 * n) 0
/-- LOOP_LINK.OUT_EN [31:31]. -/
def F.loopLinkOutEn (n : Nat) : Nat := fieldKey (0x50000008 + 0x100 * n) 31
/-- LOOP_LINK.SATW_EN [30:30]. -/
def F.loopLinkSatwEn (n : Nat) : Nat := fieldKey (0x50000008 + 0x100 * n) 30
/-- LOOP_LINK.FF_EN [29:29]. -/
def F.loopLinkFfEn (n : Nat) : Nat := fieldKey (0x50000008 + 0x100 * n) 29
/-- LOOP_LINK.CASC_EN [28:28]. -/
def F.loopLinkCascEn (n : Nat) : Nat := fieldKey (0x50000008 + 0x100 * n) 28
/-- LOOP_LINK.MASTER [27:18]. -/
def F.loopLinkMaster (n : Nat) : Nat := fieldKey (0x50000008 + 0x100 * n) 18
/-- LOOP_LINK.GROUP_EN [17:17]. -/
def F.loopLinkGroupEn (n : Nat) : Nat := fieldKey (0x50000008 + 0x100 * n) 17
/-- LOOP_LINK.MEMBER [16:14]. -/
def F.loopLinkMember (n : Nat) : Nat := fieldKey (0x50000008 + 0x100 * n) 14
/-- LOOP_LINK.GROUP [13:9]. -/
def F.loopLinkGroup (n : Nat) : Nat := fieldKey (0x50000008 + 0x100 * n) 9
/-- LOOP_LINK.SCHED_EN [8:8]. -/
def F.loopLinkSchedEn (n : Nat) : Nat := fieldKey (0x50000008 + 0x100 * n) 8
/-- LOOP_LINK.SCHED [7:0]. -/
def F.loopLinkSched (n : Nat) : Nat := fieldKey (0x50000008 + 0x100 * n) 0
/-- LOOP_PV_ADDR [31:0]. -/
def F.loopPvAddr (n : Nat) : Nat := fieldKey (0x5000000C + 0x100 * n) 0
/-- LOOP_FF_ADDR [31:0]. -/
def F.loopFfAddr (n : Nat) : Nat := fieldKey (0x50000010 + 0x100 * n) 0
/-- LOOP_OUT_ADDR [31:0]. -/
def F.loopOutAddr (n : Nat) : Nat := fieldKey (0x50000014 + 0x100 * n) 0
/-- LOOP_SATW_ADDR [31:0]. -/
def F.loopSatwAddr (n : Nat) : Nat := fieldKey (0x50000018 + 0x100 * n) 0
/-- LOOP_KP [31:0]. -/
def F.loopKp (n : Nat) : Nat := fieldKey (0x50000020 + 0x100 * n) 0
/-- LOOP_TI [31:0]. -/
def F.loopTi (n : Nat) : Nat := fieldKey (0x50000024 + 0x100 * n) 0
/-- LOOP_TD [31:0]. -/
def F.loopTd (n : Nat) : Nat := fieldKey (0x50000028 + 0x100 * n) 0
/-- LOOP_N [31:0]. -/
def F.loopN (n : Nat) : Nat := fieldKey (0x5000002C + 0x100 * n) 0
/-- LOOP_B [31:0]. -/
def F.loopB (n : Nat) : Nat := fieldKey (0x50000030 + 0x100 * n) 0
/-- LOOP_C [31:0]. -/
def F.loopC (n : Nat) : Nat := fieldKey (0x50000034 + 0x100 * n) 0
/-- LOOP_KFF [31:0]. -/
def F.loopKff (n : Nat) : Nat := fieldKey (0x50000038 + 0x100 * n) 0
/-- LOOP_BIAS [31:0]. -/
def F.loopBias (n : Nat) : Nat := fieldKey (0x5000003C + 0x100 * n) 0
/-- LOOP_UMIN [31:0]. -/
def F.loopUmin (n : Nat) : Nat := fieldKey (0x50000040 + 0x100 * n) 0
/-- LOOP_UMAX [31:0]. -/
def F.loopUmax (n : Nat) : Nat := fieldKey (0x50000044 + 0x100 * n) 0
/-- LOOP_RMAX [31:0]. -/
def F.loopRmax (n : Nat) : Nat := fieldKey (0x50000048 + 0x100 * n) 0
/-- LOOP_SP_LO [31:0]. -/
def F.loopSpLo (n : Nat) : Nat := fieldKey (0x5000004C + 0x100 * n) 0
/-- LOOP_SP_HI [31:0]. -/
def F.loopSpHi (n : Nat) : Nat := fieldKey (0x50000050 + 0x100 * n) 0
/-- LOOP_SP_RAMP [31:0]. -/
def F.loopSpRamp (n : Nat) : Nat := fieldKey (0x50000054 + 0x100 * n) 0
/-- LOOP_FAIL_VALUE [31:0]. -/
def F.loopFailValue (n : Nat) : Nat := fieldKey (0x50000058 + 0x100 * n) 0
/-- LOOP_INIT_OUT [31:0]. -/
def F.loopInitOut (n : Nat) : Nat := fieldKey (0x5000005C + 0x100 * n) 0
/-- LOOP_SP [31:0]. -/
def F.loopSp (n : Nat) : Nat := fieldKey (0x50000060 + 0x100 * n) 0
/-- LOOP_U_MAN [31:0]. -/
def F.loopUMan (n : Nat) : Nat := fieldKey (0x50000064 + 0x100 * n) 0
/-- LOOP_KP_ACT [31:0]. -/
def F.loopKpAct (n : Nat) : Nat := fieldKey (0x50000080 + 0x100 * n) 0
/-- LOOP_TI_ACT [31:0]. -/
def F.loopTiAct (n : Nat) : Nat := fieldKey (0x50000084 + 0x100 * n) 0
/-- LOOP_TD_ACT [31:0]. -/
def F.loopTdAct (n : Nat) : Nat := fieldKey (0x50000088 + 0x100 * n) 0
/-- LOOP_KFF_ACT [31:0]. -/
def F.loopKffAct (n : Nat) : Nat := fieldKey (0x5000008C + 0x100 * n) 0
/-- LOOP_H [31:0]. -/
def F.loopH (n : Nat) : Nat := fieldKey (0x50000090 + 0x100 * n) 0
/-- LOOP_VFF [31:0]. -/
def F.loopVff (n : Nat) : Nat := fieldKey (0x50000098 + 0x100 * n) 0
/-- LOOP_R_EFF [31:0]. -/
def F.loopREff (n : Nat) : Nat := fieldKey (0x500000A4 + 0x100 * n) 0
/-- LOOP_Y [31:0]. -/
def F.loopY (n : Nat) : Nat := fieldKey (0x500000A8 + 0x100 * n) 0
/-- LOOP_E [31:0]. -/
def F.loopE (n : Nat) : Nat := fieldKey (0x500000AC + 0x100 * n) 0
/-- LOOP_P [31:0]. -/
def F.loopP (n : Nat) : Nat := fieldKey (0x500000B0 + 0x100 * n) 0
/-- LOOP_I [31:0]. -/
def F.loopI (n : Nat) : Nat := fieldKey (0x500000B4 + 0x100 * n) 0
/-- LOOP_D [31:0]. -/
def F.loopD (n : Nat) : Nat := fieldKey (0x500000B8 + 0x100 * n) 0
/-- LOOP_ED_PREV [31:0]. -/
def F.loopEdPrev (n : Nat) : Nat := fieldKey (0x500000BC + 0x100 * n) 0
/-- LOOP_FF [31:0]. -/
def F.loopFf (n : Nat) : Nat := fieldKey (0x500000C0 + 0x100 * n) 0
/-- LOOP_U_UNC [31:0]. -/
def F.loopUUnc (n : Nat) : Nat := fieldKey (0x500000C4 + 0x100 * n) 0
/-- LOOP_U [31:0]. -/
def F.loopU (n : Nat) : Nat := fieldKey (0x500000C8 + 0x100 * n) 0
/-- LOOP_EVALS [31:0]. -/
def F.loopEvals (n : Nat) : Nat := fieldKey (0x500000CC + 0x100 * n) 0
/-- LOOP_TUNE_D [31:0]. -/
def F.loopTuneD (n : Nat) : Nat := fieldKey (0x500000D0 + 0x100 * n) 0
/-- LOOP_TUNE_EPS [31:0]. -/
def F.loopTuneEps (n : Nat) : Nat := fieldKey (0x500000D4 + 0x100 * n) 0
/-- LOOP_TUNE_BIAS [31:0]. -/
def F.loopTuneBias (n : Nat) : Nat := fieldKey (0x500000D8 + 0x100 * n) 0
/-- LOOP_TUNE_LIMIT_S [31:0]. -/
def F.loopTuneLimitS (n : Nat) : Nat := fieldKey (0x500000DC + 0x100 * n) 0
/-- LOOP_CAND_KP [31:0]. -/
def F.loopCandKp (n : Nat) : Nat := fieldKey (0x500000E0 + 0x100 * n) 0
/-- LOOP_CAND_TI [31:0]. -/
def F.loopCandTi (n : Nat) : Nat := fieldKey (0x500000E4 + 0x100 * n) 0
/-- LOOP_CAND_TD [31:0]. -/
def F.loopCandTd (n : Nat) : Nat := fieldKey (0x500000E8 + 0x100 * n) 0
/-- LOOP_INJ_AMP [31:0]. -/
def F.loopInjAmp (n : Nat) : Nat := fieldKey (0x500000F4 + 0x100 * n) 0
/-- LOOP_STATUS.LATCH [21:20]. -/
def F.loopStatusLatch (n : Nat) : Nat := fieldKey (0x500000A0 + 0x100 * n) 20
/-- LOOP_STATUS.FRESH [19:19]. -/
def F.loopStatusFresh (n : Nat) : Nat := fieldKey (0x500000A0 + 0x100 * n) 19
/-- LOOP_STATUS.FROZEN [18:18]. -/
def F.loopStatusFrozen (n : Nat) : Nat := fieldKey (0x500000A0 + 0x100 * n) 18
/-- LOOP_STATUS.INJECTING [17:17]. -/
def F.loopStatusInjecting (n : Nat) : Nat := fieldKey (0x500000A0 + 0x100 * n) 17
/-- LOOP_STATUS.TUNING [16:16]. -/
def F.loopStatusTuning (n : Nat) : Nat := fieldKey (0x500000A0 + 0x100 * n) 16
/-- LOOP_STATUS.GROUP_LOSER [15:15]. -/
def F.loopStatusGroupLoser (n : Nat) : Nat := fieldKey (0x500000A0 + 0x100 * n) 15
/-- LOOP_STATUS.TRACKING [14:14]. -/
def F.loopStatusTracking (n : Nat) : Nat := fieldKey (0x500000A0 + 0x100 * n) 14
/-- LOOP_STATUS.SP_BLOCK_DN [13:13]. -/
def F.loopStatusSpBlockDn (n : Nat) : Nat := fieldKey (0x500000A0 + 0x100 * n) 13
/-- LOOP_STATUS.SP_BLOCK_UP [12:12]. -/
def F.loopStatusSpBlockUp (n : Nat) : Nat := fieldKey (0x500000A0 + 0x100 * n) 12
/-- LOOP_STATUS.INT_INHIBIT [11:11]. -/
def F.loopStatusIntInhibit (n : Nat) : Nat := fieldKey (0x500000A0 + 0x100 * n) 11
/-- LOOP_STATUS.EXT_SAT_LO [10:10]. -/
def F.loopStatusExtSatLo (n : Nat) : Nat := fieldKey (0x500000A0 + 0x100 * n) 10
/-- LOOP_STATUS.EXT_SAT_HI [9:9]. -/
def F.loopStatusExtSatHi (n : Nat) : Nat := fieldKey (0x500000A0 + 0x100 * n) 9
/-- LOOP_STATUS.RATE_LIM [8:8]. -/
def F.loopStatusRateLim (n : Nat) : Nat := fieldKey (0x500000A0 + 0x100 * n) 8
/-- LOOP_STATUS.LIM_LO [7:7]. -/
def F.loopStatusLimLo (n : Nat) : Nat := fieldKey (0x500000A0 + 0x100 * n) 7
/-- LOOP_STATUS.LIM_HI [6:6]. -/
def F.loopStatusLimHi (n : Nat) : Nat := fieldKey (0x500000A0 + 0x100 * n) 6
/-- LOOP_STATUS.FF_HELD [5:5]. -/
def F.loopStatusFfHeld (n : Nat) : Nat := fieldKey (0x500000A0 + 0x100 * n) 5
/-- LOOP_STATUS.PV_BAD [4:4]. -/
def F.loopStatusPvBad (n : Nat) : Nat := fieldKey (0x500000A0 + 0x100 * n) 4
/-- LOOP_STATUS.PV_HELD [3:3]. -/
def F.loopStatusPvHeld (n : Nat) : Nat := fieldKey (0x500000A0 + 0x100 * n) 3
/-- LOOP_STATUS.RAMPING [2:2]. -/
def F.loopStatusRamping (n : Nat) : Nat := fieldKey (0x500000A0 + 0x100 * n) 2
/-- LOOP_STATUS.MODE [1:0]. -/
def F.loopStatusMode (n : Nat) : Nat := fieldKey (0x500000A0 + 0x100 * n) 0
/-- LOOP_TUNE_STATUS.ABORT_CODE [23:16]. -/
def F.loopTuneStatusAbortCode (n : Nat) : Nat := fieldKey (0x500000EC + 0x100 * n) 16
/-- LOOP_TUNE_STATUS.CYCLES [15:8]. -/
def F.loopTuneStatusCycles (n : Nat) : Nat := fieldKey (0x500000EC + 0x100 * n) 8
/-- LOOP_TUNE_STATUS.STATE [2:0]. -/
def F.loopTuneStatusState (n : Nat) : Nat := fieldKey (0x500000EC + 0x100 * n) 0
/-- LOOP_INJ_CFG.BIT_EVALS [15:8]. -/
def F.loopInjCfgBitEvals (n : Nat) : Nat := fieldKey (0x500000F0 + 0x100 * n) 8
/-- LOOP_INJ_CFG.POINT [1:1]. -/
def F.loopInjCfgPoint (n : Nat) : Nat := fieldKey (0x500000F0 + 0x100 * n) 1
/-- LOOP_INJ_CFG.SHAPE [0:0]. -/
def F.loopInjCfgShape (n : Nat) : Nat := fieldKey (0x500000F0 + 0x100 * n) 0
/-- LOOP_INJ_STATUS.SAMPLES [31:16]. -/
def F.loopInjStatusSamples (n : Nat) : Nat := fieldKey (0x500000F8 + 0x100 * n) 16
/-- LOOP_INJ_STATUS.STATE [1:0]. -/
def F.loopInjStatusState (n : Nat) : Nat := fieldKey (0x500000F8 + 0x100 * n) 0
/-- LOOP_SCHED.ACT_VALID [9:9]. -/
def F.loopSchedActValid (n : Nat) : Nat := fieldKey (0x50000094 + 0x100 * n) 9
/-- LOOP_SCHED.SV_HELD [8:8]. -/
def F.loopSchedSvHeld (n : Nat) : Nat := fieldKey (0x50000094 + 0x100 * n) 8
/-- LOOP_SCHED.REGION [2:0]. -/
def F.loopSchedRegion (n : Nat) : Nat := fieldKey (0x50000094 + 0x100 * n) 0

end Sys2Proof.Machine
end

