-- ==== Sys2Proof/Machine/SysRead.lean ====
section
/-! DEFINITION. Reading and writing registers: the register file holds one value per field; a register word is composed of its
fields when it is read and taken apart when it is written (R8, R9, R11). -/

namespace Sys2Proof.Machine

/-- The fields whose Cold column is not 0 (R10): base, strides and counts of the indices, lowest bit, value. -/
def coldTable : List (Nat × Nat × Nat × Nat × Nat × Nat × Nat) :=
  [(0x40001000, 0x0, 1, 0x0, 1, 0, 0x1),
   (0x40002014, 0x0, 1, 0x0, 1, 0, 0x32),
   (0x4000380C, 0x0, 1, 0x0, 1, 0, 0xA),
   (0x40003014, 0x0, 1, 0x0, 1, 0, 0x3),
   (0x40003018, 0x0, 1, 0x0, 1, 0, 0x1FFF),
   (0x40003020, 0x0, 1, 0x0, 1, 16, 0x1),
   (0x40003020, 0x0, 1, 0x0, 1, 0, 0xFFFF),
   (0x40004010, 0x0, 1, 0x0, 1, 3, 0x1),
   (0x40004010, 0x0, 1, 0x0, 1, 2, 0x1),
   (0x40004010, 0x0, 1, 0x0, 1, 1, 0x1),
   (0x40004010, 0x0, 1, 0x0, 1, 0, 0x1),
   (0x40010000, 0x4, 32, 0x0, 1, 2, 0x4),
   (0x4001009C, 0x0, 1, 0x0, 1, 0, 0x3E8),
   (0x40020000, 0x20, 16, 0x0, 1, 8, 0x1),
   (0x40020000, 0x20, 16, 0x0, 1, 7, 0x1),
   (0x40020004, 0x20, 16, 0x0, 1, 16, 0x3E8),
   (0x40020004, 0x20, 16, 0x0, 1, 8, 0x2),
   (0x40020004, 0x20, 16, 0x0, 1, 0, 0xA),
   (0x4002000C, 0x20, 16, 0x0, 1, 0, 0x42C80000),
   (0x40020010, 0x20, 16, 0x0, 1, 0, 0x40800000),
   (0x40020014, 0x20, 16, 0x0, 1, 0, 0x40800000),
   (0x40020210, 0x4, 2, 0x0, 1, 0, 0x3E8),
   (0x40030000, 0x10, 4, 0x0, 1, 24, 0x64),
   (0x40030000, 0x10, 4, 0x0, 1, 16, 0x14),
   (0x40030000, 0x10, 4, 0x0, 1, 8, 0x19),
   (0x40040000, 0x4000, 2, 0x0, 1, 2, 0x1),
   (0x40040004, 0x4000, 2, 0x0, 1, 24, 0x10),
   (0x40040004, 0x4000, 2, 0x0, 1, 16, 0x10),
   (0x40040004, 0x4000, 2, 0x0, 1, 8, 0x3F),
   (0x40040004, 0x4000, 2, 0x0, 1, 0, 0x1),
   (0x40040008, 0x4000, 2, 0x0, 1, 24, 0x5),
   (0x40040008, 0x4000, 2, 0x0, 1, 16, 0x5),
   (0x40040008, 0x4000, 2, 0x0, 1, 8, 0xE),
   (0x40040008, 0x4000, 2, 0x0, 1, 0, 0x1),
   (0x40040014, 0x4000, 2, 0x0, 1, 2, 0x1),
   (0x40040014, 0x4000, 2, 0x0, 1, 0, 0x3),
   (0x40050100, 0x10, 64, 0x0, 1, 0, 0xA),
   (0x40051000, 0x20, 1024, 0x0, 1, 4, 0x2),
   (0x40051000, 0x20, 1024, 0x0, 1, 2, 0x2),
   (0x40060008, 0x0, 1, 0x0, 1, 0, 0x18),
   (0x40060020, 0x0, 1, 0x0, 1, 1, 0x3C),
   (0x40070000, 0x0, 1, 0x0, 1, 13, 0x1),
   (0x40070000, 0x0, 1, 0x0, 1, 12, 0x1),
   (0x40070000, 0x0, 1, 0x0, 1, 0, 0x4),
   (0x400A0000, 0x10, 16, 0x0, 1, 16, 0x5),
   (0x400A0000, 0x10, 16, 0x0, 1, 11, 0x1),
   (0x400A0000, 0x10, 16, 0x0, 1, 8, 0x2),
   (0x50000000, 0x100, 1024, 0x0, 1, 8, 0x3),
   (0x50000000, 0x100, 1024, 0x0, 1, 0, 0x1),
   (0x50000020, 0x100, 1024, 0x0, 1, 0, 0x3F800000),
   (0x5000002C, 0x100, 1024, 0x0, 1, 0, 0x41200000),
   (0x50000030, 0x100, 1024, 0x0, 1, 0, 0x3F800000),
   (0x50000044, 0x100, 1024, 0x0, 1, 0, 0x42C80000),
   (0x5000004C, 0x100, 1024, 0x0, 1, 0, 0xCE6E6B28),
   (0x50000050, 0x100, 1024, 0x0, 1, 0, 0x4E6E6B28),
   (0x500000DC, 0x100, 1024, 0x0, 1, 0, 0x258),
   (0x500000F0, 0x100, 1024, 0x0, 1, 8, 0x1)]

/-- Whether `addr` is an element of the register array at `base` with strides `s1`, `s2` and counts `c1`, `c2`. -/
def isElement (base s1 c1 s2 c2 addr : Nat) : Bool :=
  if addr < base then false
  else
    let o := addr - base
    let i := if s1 = 0 then 0 else min (o / s1) (c1 - 1)
    let r := o - s1 * i
    let j := if s2 = 0 then 0 else min (r / s2) (c2 - 1)
    r == s2 * j

/-- What a field that the register file does not list reads as: its Cold column (R10). -/
def coldOf (key : Nat) : Word :=
  let addr := key / 32
  let lo := key % 32
  match coldTable.find? fun e => e.2.2.2.2.2.1 == lo && isElement e.1 e.2.1 e.2.2.1 e.2.2.2.1 e.2.2.2.2.1 addr with
  | some e => word e.2.2.2.2.2.2
  | none => 0#32

/-- The value of a field. -/
def getField (t : Tab Word) (key : Nat) : Word := t.get (coldOf key) key

/-- The register file with a field set. -/
def setField (t : Tab Word) (key : Nat) (v : Word) : Tab Word := t.set (coldOf key) key v

/-- The field table of the block an address lies in (R419, R117). -/
def mapAt (addr : Nat) : List FieldSpec :=
  if addr < 0x40000000 then []
  else if addr < 0x40001000 then mapIdentity
  else if addr < 0x40002000 then mapMode
  else if addr < 0x40003000 then mapStroke
  else if addr < 0x40004000 then mapHealth
  else if addr < 0x40010000 then mapPower
  else if addr < 0x40020000 then mapDigital
  else if addr < 0x40030000 then mapAnalog
  else if addr < 0x40040000 then mapEncoder
  else if addr < 0x40050000 then mapCan
  else if addr < 0x40060000 then mapRio
  else if addr < 0x40070000 then mapNet
  else if addr < 0x40080000 then mapRed
  else if addr < 0x40090000 then mapLog
  else if addr < 0x400A0000 then mapCvu
  else if addr < 0x400B0000 then mapHart
  else if addr < 0x400C0000 then mapSec
  else if addr < 0x50000000 then []
  else if addr < 0x50040000 then mapLoop
  else []

/-- Whether a field belongs to the register at `addr`. -/
def FieldSpec.covers (f : FieldSpec) (addr : Nat) : Bool := isElement f.base f.s1 f.c1 f.s2 f.c2 addr

/-- The fields of the register at `addr`; none at a reserved address (R9). -/
def fieldsAt (addr : Nat) : List FieldSpec := (mapAt addr).filter fun f => f.covers addr

/-- The key under which a field of the register at `addr` is stored. -/
def FieldSpec.keyAt (f : FieldSpec) (addr : Nat) : Nat := fieldKey (addr - f.base + f.home) f.lo

/-- Width of a field in bits. -/
def FieldSpec.width (f : FieldSpec) : Nat := f.hi + 1 - f.lo

/-- Whether `addr` lies in a loop block that the running image does not declare: LOOP_PERIOD.K_L is 0 there alone (R183, R186). -/
def blockAbsent (t : Tab Word) (addr : Nat) : Bool :=
  decide (0x50000000 ≤ addr) && decide (addr < 0x50040000) && getField t (fieldKey (addr / 256 * 256 + 4) 0) == 0#32

/-- The register word at `addr`: every field at its bits, reserved bits 0, a WO field 0 (R8, R9); 0 in a loop block that is not declared (R183). -/
def readReg (t : Tab Word) (addr : Nat) : Word :=
  if blockAbsent t addr then 0#32 else
  (fieldsAt addr).foldl (init := 0#32) fun w f =>
    match f.acc with
    | .wo => w
    | _ => w ||| word (((getField t (f.keyAt addr)).toNat % 2 ^ f.width) <<< f.lo)

/-- A REAL32 word limited to `lo .. hi`, by the order of sign and magnitude; a NaN is read as 0.0 first, an infinity as the
maximum, a subnormal as zero (R11, R141). DESIGN CHOICE (log entry 80): −0.0 lies below a lower limit of 0.0, and is stored as +0.0; R11 orders the two
zeros nowhere. -/
def clampReal (lo hi w : Word) : Word := realClamp lo hi w

/-- The value stored for the bits `v` written to a field `width` bits wide (R11). -/
def FieldClamp.apply (c : FieldClamp) (width v : Nat) : Nat :=
  match c with
  | .any => v
  | .range lo hi => clampNat lo hi v
  | .srange lo hi =>
    let i : Int := if v ≥ 2 ^ (width - 1) then (v : Int) - (2 ^ width : Nat) else v
    let j := clampInt lo hi i
    (if j < 0 then j + (2 ^ width : Nat) else j).toNat
  | .enum top fb => if v > top then fb else v
  | .real lo hi => (clampReal (word lo) (word hi) (word v)).toNat
  | .mask m => v &&& m
  | .ip =>
    let a := v >>> 24
    if a = 0 ∨ a = 127 ∨ a ≥ 224 then 0 else v

/-- The bits of a written word that a field takes (R11). -/
def FieldSpec.bitsOf (f : FieldSpec) (w : Word) : Nat := w.bits f.hi f.lo

/-- Legal values that depend on other fields of the register file or on the image: STK_TASK_CFG.ENABLE is ignored where the task is
not present (R107), and HART_EN is 0 where A_HART is below 264 bytes (`hartOk`, R94, R281). DESIGN CHOICE (log entry 89): HART_EN "ignored while FUNC is 0" is
read as the like words of ENABLE are: a store then leaves the field, and a HART_EN of 1 whose FUNC is set to 0 keeps its value without effect (R280). -/
def boundByOthers (hartOk : Bool) (t : Tab Word) (addr lo : Nat) (old v : Word) : Word :=
  if 0x40002100 ≤ addr ∧ addr < 0x40002200 ∧ addr % 16 = 0 ∧ lo = 30 then
    (if getField t (fieldKey addr 31) = 0#32 then old else v)
  else if 0x400A0000 ≤ addr ∧ addr < 0x400A0100 ∧ addr % 16 = 0 ∧ lo = 0 then
    (if !hartOk then 0#32 else if getField t (F.aioCfgFunc ((addr - 0x400A0000) / 16)) = 0#32 then old else v)
  else v

/-- The register file after a write of `w` to the register at `addr`: RW fields take their clamped bits, W1S fields gain and W1C
fields lose the bits written 1, RO, RC and WO fields are unchanged (R8, R11). The actions of WO fields are the commit's. A loop block that is not declared
ignores stores (R183). -/
def writeReg (hartOk : Bool) (t : Tab Word) (addr : Nat) (w : Word) : Tab Word :=
  if blockAbsent t addr then t else
  (fieldsAt addr).reverse.foldl (init := t) fun t f =>
    let k := f.keyAt addr
    match f.acc with
    | .rw => setField t k (boundByOthers hartOk t addr f.lo (getField t k) (word (f.clamp.apply f.width (f.bitsOf w))))
    | .w1s => setField t k (getField t k ||| word (f.bitsOf w))
    | .w1c => setField t k (getField t k &&& ~~~ word (f.bitsOf w))
    | _ => t

/-- A counter field increased by `n`, saturating at `top`. -/
def bumpField (t : Tab Word) (key top n : Nat) : Tab Word :=
  setField t key (word (min top ((getField t key).toNat + n)))

/-- A 64-bit value of a LO and a HI register. -/
def getField64 (t : Tab Word) (lo hi : Nat) : DWord := dword (getField t hi) (getField t lo)

/-- A 64-bit value put into its LO and HI registers. -/
def setField64 (t : Tab Word) (lo hi : Nat) (v : DWord) : Tab Word := setField (setField t lo v.lo) hi v.hi

end Sys2Proof.Machine
end

