-- ==== Sys2Proof/Machine/FytricOps.lean ====
section
/-! DEFINITION. Shared operations of the Fytric instructions: registers (R138), memory as an activation sees it (R90, R117, R146),
the end of an instruction with its cost and the end of a LOOP body (R139, R148), events and refusals (R12, R152, R418). -/

namespace Sys2Proof.Machine

/-! ### Memory bytes and words -/

/-- The byte of data memory at `a`; a byte that nothing has written reads as 0 (R78). -/
def memByte (m : List Host.Cell) (a : Nat) : Byte := Tab.get m 0#8 a

/-- Memory with a byte written. -/
def memPut (m : List Host.Cell) (a : Nat) (b : Byte) : List Host.Cell := Tab.set m 0#8 a b

/-- The word at `a`, the byte at the lowest address least significant (R4). -/
def memWord (m : List Host.Cell) (a : Nat) : Word := memByte m (a + 3) ++ memByte m (a + 2) ++ memByte m (a + 1) ++ memByte m a

/-- Memory with a word written at `a` (R4). -/
def memPutWord (m : List Host.Cell) (a : Nat) (w : Word) : List Host.Cell :=
  memPut (memPut (memPut (memPut m a (w.extractLsb' 0 8)) (a + 1) (w.extractLsb' 8 8)) (a + 2) (w.extractLsb' 16 8)) (a + 3)
    (w.extractLsb' 24 8)

/-! ### The address map (R117) -/

/-- Data SRAM, the cistern included. -/
def inSram (a : Nat) : Bool := a < 0x01000000

/-- The bit-set alias. -/
def inSetAlias (a : Nat) : Bool := 0x04000000 ≤ a && a < 0x05000000

/-- The bit-clear alias. -/
def inClrAlias (a : Nat) : Bool := 0x08000000 ≤ a && a < 0x09000000

/-- The code store window. -/
def inCodeWindow (a : Nat) : Bool := 0x10000000 ≤ a && a < 0x10C00000

/-- SYS space. -/
def inSys (a : Nat) : Bool := 0x40000000 ≤ a && a < 0x400C0000

/-- Loop block space. -/
def inLoop (a : Nat) : Bool := 0x50000000 ≤ a && a < 0x50040000

/-- The data SRAM word that an alias address names. -/
def aliasTarget (a : Nat) : Nat := a % 0x01000000

/-! ### Registers (R138) -/

/-- The value of a register; g0 reads as zero. -/
def Act.reg (a : Act) (r : RegNo) : Word := if r = 0#7 then 0#32 else a.regs.get 0#32 r.toNat

/-- A register written; a write to g0 is discarded. -/
def Act.setReg (a : Act) (r : RegNo) (w : Word) : Act := if r = 0#7 then a else { a with regs := a.regs.set 0#32 r.toNat w }

/-- An INT64 register pair, gn low and gn+1 high; 0 names the zero pair (R119, R144). -/
def Act.pair (a : Act) (r : RegNo) : DWord := if r = 0#7 then 0#64 else dword (a.reg (r + 1)) (a.reg r)

/-- A register pair written. -/
def Act.setPair (a : Act) (r : RegNo) (d : DWord) : Act := if r = 0#7 then a else (a.setReg r d.lo).setReg (r + 1) d.hi

/-- The value of source B (R135). -/
def Act.src (a : Act) : Src → Word
  | .reg r => a.reg r
  | .lit w => w

/-! ### The end of an instruction (R139, R148) -/

/-- Ends of LOOP bodies reached by falling through: the next pass of the innermost loop, or its end with gd = passes; a loop that
ends where an enclosing body ends goes on there. -/
def settleLoops (a : Act) : List LoopFrame → Act
  | [] => { a with loops := [] }
  | f :: r =>
    if a.pc = f.stop ∧ f.depth = a.calls.length then
      if f.pass + 1 < f.count then
        ({ a with pc := f.start, charge := a.charge + 1, loops := { f with pass := f.pass + 1 } :: r }).setReg f.reg (word (f.pass + 1))
      else settleLoops (({ a with loops := r }).setReg f.reg (word (f.pass + 1))) r
    else { a with loops := f :: r }

/-- The instruction of `len` words and cost `bu` is done; execution goes on behind it. -/
def Act.retire (a : Act) (len bu : Nat) : Act :=
  let a := { a with pc := a.pc + len, charge := a.charge + bu }
  settleLoops a a.loops

/-- Number of words of an instruction with source B: two where a literal takes its place (R135). -/
def srcWords : Src → Nat
  | .reg _ => 1
  | .lit _ => 2

/-! ### Memory as the activation sees it -/

/-- The last value the activation wrote to address `a`, if any. -/
def lastWrite (ws : List (Nat × Word)) (a : Nat) : Option Word :=
  ws.foldl (init := none) fun o e => if e.1 = a then some e.2 else o

/-- Bits of the register at `a` that read as 0 to Fytric code: the firmware version and serial number (R420), the health fields that are
own only (R377), the redundancy fields that are own only (R360), the ring fields that are ring only (R316), the network fields that are
port only (R334), and the recorder (R394) and security (R411) blocks. -/
def fytricHidden (a : Nat) : Word :=
  if a = 0x40000004 ∨ a = 0x40000008 ∨ a = 0x4000000C then 0xFFFFFFFF#32
  else if a = 0x40003000 then 0x00000200#32
  else if a = 0x40003034 ∨ a = 0x40003038 then 0xFFFFFFFF#32
  else if a = 0x4000303C then 0x00000003#32
  else if 0x40003100 ≤ a ∧ a < 0x40003500 then 0xFFFFFFFF#32
  else if a = 0x40050000 ∨ a = 0x40050004 ∨ a = 0x40050008 then 0xFFFFFFFF#32
  else if 0x40050100 ≤ a ∧ a < 0x40050500 then
    (if a % 16 = 4 then 0x000000E7#32 else if a % 16 = 8 then 0xFFFFFFFF#32 else 0#32)
  else if 0x40051000 ≤ a ∧ a < 0x40059000 then (if a % 32 = 16 then 0x00000010#32 else 0#32)
  else if a = 0x40060018 then 0xFFFF0000#32
  else if a = 0x40060024 ∨ a = 0x40060038 then 0xFFFFFFFF#32
  else if a = 0x40060050 then 0x00000107#32
  else if a = 0x40070004 then 0x000F0C00#32
  else if a = 0x4007000C then 0xFFFFFF00#32
  else if a = 0x40070010 ∨ a = 0x40070018 then 0xFFFFFFFF#32
  else if (0x40080000 ≤ a ∧ a < 0x40090000) ∨ (0x400B0000 ≤ a ∧ a < 0x400C0000) then 0xFFFFFFFF#32
  else 0#32

/-- The registers that show an address-map word as a data SRAM word: the word of the snapshot with the activation's own plain writes
over it (R90). Alias writes of the activation are seen only after their commit (R91). -/
def Act.sramWord (a : Act) (ad : Nat) : Word :=
  match (if a.priming then none else lastWrite a.writes ad) with
  | some w => w
  | none => memWord a.snap.mem ad

/-- The word of the code store window at `ad`: the active image, zero beyond its LENGTH (R117). -/
def Snap.codeWord (s : Snap) (ad : Nat) : Word :=
  let o := ad - 0x10000000
  let b (i : Nat) : Byte := if o + i < s.codeLen then s.code.get 0#8 (o + i) else 0#8
  b 3 ++ b 2 ++ b 1 ++ b 0

/-- The word a load returns (R90, R117, R146): own writes and the snapshot in data SRAM, the target word at an alias address,
snapshot values in SYS, committed values in loop block space, 0 outside every region. -/
def Act.load (a : Act) (ad : Nat) : Word :=
  if inSram ad then a.sramWord ad
  else if inSetAlias ad || inClrAlias ad then a.sramWord (aliasTarget ad)
  else if inCodeWindow ad then a.snap.codeWord ad
  else if inSys ad then readReg a.snap.fields ad &&& ~~~ fytricHidden ad
  else if inLoop ad then readReg a.snap.fields ad
  else 0#32

/-- A word of data SRAM after an alias write of `mask` (R91). -/
def aliasWord (set : Bool) (old mask : Word) : Word := if set then old ||| mask else old &&& ~~~ mask

/-- A word stored by the priming section: stored at once, clamped, and seen by its later loads (R116). -/
def Snap.storeNow (s : Snap) (ad : Nat) (w : Word) : Snap :=
  if inSram ad then { s with mem := memPutWord s.mem ad w }
  else if inSetAlias ad || inClrAlias ad then
    { s with mem := memPutWord s.mem (aliasTarget ad) (aliasWord (inSetAlias ad) (memWord s.mem (aliasTarget ad)) w) }
  else if inSys ad || inLoop ad then { s with fields := writeReg s.hartOk s.fields ad w }
  else s

/-- Whether a store to the register at `ad` starts an action at the next commit: a WO field, save MOD_REQUEST, whose writes by the
priming section are ignored (R82, R146). Used for the writes of the priming section alone, which are otherwise already stored. -/
def startsAction (ad : Nat) : Bool := inSys ad && (fieldsAt ad).any fun f => f.acc == .wo && f.base != 0x40001010

/-- Whether Fytric code may write a word of data SRAM: not in the system part of the cistern (R172). -/
def inOpenSram (a : Nat) : Bool := a < 0x00FF0000

/-- Whether a store to `ad` is kept: a writable region of the address map (R117, R172). -/
def writable (ad : Nat) : Bool := inOpenSram ad || ((inSetAlias ad || inClrAlias ad) && inOpenSram (aliasTarget ad)) || inSys ad || inLoop ad

/-- A word stored (R146): into the activation's working copies, to be published at the commit that ends it; in the priming section also
at once (R116). A store outside every writable region is ignored (R117). -/
def Act.store (a : Act) (ad : Nat) (w : Word) : Act :=
  if writable ad then
    { a with writes := a.writes ++ [(ad, w)], snap := if a.priming then a.snap.storeNow ad w else a.snap }
  else a

/-- One byte of a buffer in data SRAM as the activation sees it. -/
def Act.loadByte (a : Act) (ad : Nat) : Byte := (a.load (ad / 4 * 4)).extractLsb' (8 * (ad % 4)) 8

/-- `n` bytes from address `ad` on. -/
def Act.loadBytes (a : Act) (ad n : Nat) : List Byte := (List.range n).map fun i => a.loadByte (ad + i)

/-- A word with the byte at place `i` replaced. -/
def putByte (w : Word) (i : Nat) (b : Byte) : Word :=
  (w &&& ~~~ (0xFF#32 <<< (8 * i))) ||| (b.setWidth 32 <<< (8 * i))

/-- Bytes stored from `ad` on, one task store per word touched, in rising order of address. -/
def Act.storeBytes (a : Act) (ad : Nat) (bs : List Byte) : Act :=
  let first := ad / 4
  let n := if bs.isEmpty then 0 else (ad + bs.length - 1) / 4 + 1 - first
  (List.range n).foldl (init := a) fun a k =>
    let wa := 4 * (first + k)
    let w := (List.range 4).foldl (init := a.load wa) fun w i =>
      if ad ≤ wa + i ∧ wa + i < ad + bs.length then putByte w i (bs.getD (wa + i - ad) 0#8) else w
    a.store wa w

/-- Words stored one after another from `ad` on. -/
def Act.storeWords (a : Act) (ad : Nat) : List Word → Act
  | [] => a
  | w :: r => Act.storeWords (a.store ad w) (ad + 4) r

/-! ### Events and refusals -/

/-- The source of a stroke event of the activation: 0x0F00 + task, 0x0F10 for the priming section (R152). -/
def Act.source (a : Act) : Half := if a.priming then 0x0F10#16 else BitVec.ofNat 16 (0x0F00 + a.task)

/-- An effect recorded for the commit that ends the activation. -/
def Act.effect (a : Act) (e : Effect) : Act := { a with effects := a.effects ++ [e] }

/-- The stroke event INSTR_REFUSED (R12, R418): MAJOR, the FN or command code, the status, the object number. -/
def Act.refuse (a : Act) (major code status object : Nat) : Act :=
  a.effect (.event { source := a.source, code := 0x00F0#16, p0 := word major, p1 := word code, p2 := word status, p3 := word object })

/-- The mode frozen in the activation's snapshot; PRIMING in the priming section (R154). -/
def Act.mode (a : Act) : Nat := if a.priming then 1 else (getField a.snap.fields F.modStatusMode).toNat

/-! ### Fytric instructions on the engine state -/

/-- The activation of the engine state changed. -/
def Fy.upd (f : Fy) (g : Act → Act) : Fy := { f with act := g f.act }

/-- A result in register d, then the end of the instruction. -/
def Fy.result (f : Fy) (d : RegNo) (w : Word) (len bu : Nat) : Fy := f.upd fun a => (a.setReg d w).retire len bu

/-- A result in pair d, then the end of the instruction. -/
def Fy.result64 (f : Fy) (d : RegNo) (w : DWord) (len bu : Nat) : Fy := f.upd fun a => (a.setPair d w).retire len bu

end Sys2Proof.Machine
end

