-- ==== Sys2Proof/Machine/State.lean ====
section
/-! DEFINITION. The state of the machine: the module and the queue of commands that wait, the reasons a step could stop, and the
state after reset. -/

namespace Sys2Proof.Machine

/-- Reasons for a fault. No meaning of this model ends in one: a refusal of the hardware is a status, an event or both (R12), and what
cannot occur has no effect. -/
inductive Fault where
  /-- Raised by no command. Safe: a machine that stopped would do less than the hardware. -/
  | stopped
  deriving DecidableEq, Repr

/-- Reasons for refusing a command. -/
inductive Refusal where
  /-- Raised by the dispatch for a command without a meaning, by its mnemonic; no arm raises it. Safe: nothing can be proved of a
  command that is refused. -/
  | notModelled (mnemonic : String)
  deriving DecidableEq, Repr

/-- The machine: the module, and the commands waiting, first in, first out. -/
structure State where
  m : M
  pending : List Instr
  deriving DecidableEq, Repr

/-- The fields of the register file whose value at reset is not their Cold column: the product, what the factory sealed into the firmware
slots, the firmware that runs, and AON, which is powered. DESIGN CHOICE (log entry 2): a field whose Cold value is hw and for which nothing has been read yet holds 0: the serial
number and the MAC addresses (the spec gives none), the straps and lines of ID_STRAPS, the feed states (0 is GOOD) and voltages, and the standpipe. -/
def resetFields : List (Nat × Word) :=
  [(F.pwrDomainOn, 1#32), (F.idProductProduct, 480#32), (F.idProductVariant, 0x53#32), (F.idProductHwRev, 2#32), (F.idFwVersion, 0x00020000#32),
   (F.secFwSlotActive 0, 1#32), (F.secFwSlotNext 0, 1#32), (F.secFwSlotState 0, 3#32), (F.secFwSlotVerdict 0, 1#32),
   (F.secFwVersion 0, 0x00020000#32)]

/-- The machine right after reset: a factory module (R401) in RESET with AON just powered (R50), and no command waiting. -/
def State.reset : State :=
  { m := { M.factory with fields := resetFields.foldl (init := []) fun t e => setField t e.1 e.2 }, pending := [] }

end Sys2Proof.Machine
end

