-- ==== Sys2Proof/Machine/Run.lean ====
section
/-! DEFINITION. How a meaning acts on the machine: an instruction on the Fytric context of the module, every other command on the
module, in one indivisible step that leaves the queue alone. -/

namespace Sys2Proof.Machine

/-- A Fytric instruction: the context changes, nothing else (R90: what an activation does is published at a commit). -/
def runFy (f : Fy → Fy) (s : State) : Host.Outcome State Fault Refusal := .next { s with m := { s.m with fy := f s.m.fy } }

end Sys2Proof.Machine
end

