-- ==== Sys2Proof/Machine/CanInstr.lean ====
section
/-! DEFINITION. The CAN instructions, MAJOR 0x1C (R155, R156). -/

namespace Sys2Proof.Machine

/-- The data lengths that a DLC code gives (R155). -/
def dlcLengths : List Nat := [0, 1, 2, 3, 4, 5, 6, 7, 8, 12, 16, 20, 24, 32, 48, 64]

/-- The length sent for a length asked for (R155): above 8 without FDF clamped to 8; with FDF raised to the next length a DLC gives. -/
def txLength (fdf : Bool) (n : Nat) : Nat :=
  if fdf then (dlcLengths.find? fun l => n ≤ l).getD 64 else min 8 n

/-- The frame that a descriptor of 19 words asks to send (R155): added bytes are 0x00; with IDE 0 bits [28:11] are ignored. -/
def txFrame (a : Act) (base : Nat) : CanFrame :=
  let w0 := a.load base
  let n := (a.load (base + 4)).bits 6 0
  let ide := w0.bits 29 29 == 1
  let fdf := w0.bits 30 30 == 1
  let len := txLength fdf n
  { ide := ide
    ident := if ide then w0.bits 28 0 else w0.bits 10 0
    fdf := fdf
    brs := fdf && w0.bits 31 31 == 1
    esi := false
    data := (List.range len).map fun i => if i < n then a.loadByte (base + 12 + i) else 0#8
    stamp := 0#32 }

/-- The descriptor of a received frame (R155); bytes of the data field past the frame's length are not stated. -/
def rxDescriptor (f : CanFrame) (filter : Nat) (lost : Bool) : List Word :=
  let byte (i : Nat) : Byte := if i < f.data.length then f.data.getD i 0#8 else Config.padByte i
  [ word (f.ident + 2 ^ 29 * boolNat f.ide + 2 ^ 30 * boolNat f.fdf + 2 ^ 31 * boolNat (f.brs && f.fdf))
  , word (f.data.length + 128 * boolNat f.esi + 256 * boolNat lost + 2 ^ 16 * filter)
  , f.stamp ] ++
  (List.range 16).map fun i => byte (4 * i + 3) ++ byte (4 * i + 2) ++ byte (4 * i + 1) ++ byte (4 * i)

/-- Whether the port is enabled in the snapshot (R156): the enable that is applied, which CAN_RATE_NOM shows (R284, R298). -/
def Act.canOn (a : Act) (port : Nat) : Bool := getField a.snap.fields (F.canRateNom port) != 0#32

/-- Key of a FIFO of a port. -/
def fifoKey (port fifo : Nat) : Nat := 2 * port + fifo

/-- Key of a mailbox of a port. -/
def boxKey (port mailbox : Nat) : Nat := 128 * port + mailbox

/-- Whether the activation has already loaded the transmit buffer. -/
def Act.txLoaded (a : Act) (port buf : Nat) : Bool :=
  a.effects.any fun e => match e with
    | .canTx p b _ => p == port && b == buf
    | _ => false

/-- Frames the activation has already popped from the FIFO. -/
def Act.popped (a : Act) (port fifo : Nat) : Nat :=
  (a.effects.filter fun e => match e with
    | .canPop p q => p == port && q == fifo
    | _ => false).length

/-- CANTX (R156): reads the descriptor now; the frame enters its buffer at the next commit. WRONG_MODE (1) in PRIMING and HOLD,
NOT_CONFIGURED (11) for a disabled port, BUSY (3) where the activation has loaded the buffer already. -/
def fyCantx (d : RegNo) (port buf base : Nat) (f : Fy) : Fy :=
  f.upd fun a =>
    let st := if a.mode = 1 ∨ a.mode = 4 then 1 else if !a.canOn port then 11 else if a.txLoaded port buf then 3 else 0
    let a := if st = 0 then a.effect (.canTx port buf (txFrame a base)) else a.refuse 0x1C 0 st buf
    (a.setReg d (word st)).retire 2 12

/-- CANPOP (R156): the oldest frame of the FIFO in the snapshot view that the activation has not popped; EMPTY (32), NOT_CONFIGURED
(11). -/
def fyCanpop (d : RegNo) (port fifo base : Nat) (f : Fy) : Fy :=
  f.upd fun a =>
    if !a.canOn port then ((a.refuse 0x1C 1 11 fifo).setReg d (word 11)).retire 2 12
    else
      match (a.snap.fifos.get [] (fifoKey port fifo)).drop (a.popped port fifo) with
      | [] => (a.setReg d (word 32)).retire 2 12
      | e :: _ => (((a.storeWords base (rxDescriptor e.1 e.2 false)).effect (.canPop port fifo)).setReg d 0#32).retire 2 12

/-- CANMB (R156): the mailbox's latest frame; OK for a frame not read before, NOT_NEW (33), EMPTY (32), NOT_CONFIGURED (11). -/
def fyCanmb (d : RegNo) (port mailbox base : Nat) (f : Fy) : Fy :=
  f.upd fun a =>
    if !a.canOn port then ((a.refuse 0x1C 2 11 mailbox).setReg d (word 11)).retire 2 12
    else
      match a.snap.boxes.get none (boxKey port mailbox) with
      | none => (a.setReg d (word 32)).retire 2 12
      | some b =>
        (((a.storeWords base (rxDescriptor b.frame b.filter b.lost)).effect (.canMb port mailbox)).setReg d
          (word (if b.isRead then 33 else 0))).retire 2 12

/-! ### What the commands do -/

/-- CANTX (R156). -/
def execCantx (d : RegNo) (port buf base : Nat) (s : State) : Host.Outcome State Fault Refusal := runFy (fyCantx d port buf base) s

/-- CANPOP (R156). -/
def execCanpop (d : RegNo) (port fifo base : Nat) (s : State) : Host.Outcome State Fault Refusal := runFy (fyCanpop d port fifo base) s

/-- CANMB (R156). -/
def execCanmb (d : RegNo) (port mailbox base : Nat) (s : State) : Host.Outcome State Fault Refusal := runFy (fyCanmb d port mailbox base) s

end Sys2Proof.Machine
end

