-- ==== Sys2Proof/Machine/CheckUnit.lean ====
section
/-! DEFINITION. The check-value unit, MAJOR 0x1E (R158 to R161), and the CRC-32C of the digest and of records (R101, R379). -/

namespace Sys2Proof.Machine

/-- Width of a CRC in bytes (R158). -/
def CrcKind_bytes : CrcKind → Nat
  | .crc8 => 1
  | .crc16 => 2
  | .crc32 => 4
  | .crc32c => 4

/-- Eight steps of a CRC register that shifts left: width in bits, polynomial (R158, not reflected). -/
def crcLeft (width poly : Nat) : Nat → Nat → Nat
  | 0, r => r
  | n + 1, r =>
    crcLeft width poly n (if r >>> (width - 1) = 1 then ((r <<< 1) ^^^ poly) % 2 ^ width else (r <<< 1) % 2 ^ width)

/-- Eight steps of a CRC register that shifts right: reversed polynomial (R158, reflected). -/
def crcRight (poly : Nat) : Nat → Nat → Nat
  | 0, r => r
  | n + 1, r => crcRight poly n (if r % 2 = 1 then (r >>> 1) ^^^ poly else r >>> 1)

/-- The CRC register after one byte (R158). -/
def crcByte (k : CrcKind) (r : Nat) (b : Byte) : Nat :=
  match k with
  | .crc8 => crcLeft 8 0x2F 8 (r ^^^ b.toNat)
  | .crc16 => crcLeft 16 0x1021 8 (r ^^^ (b.toNat <<< 8))
  | .crc32 => crcRight 0xEDB88320 8 (r ^^^ b.toNat)
  | .crc32c => crcRight 0x82F63B78 8 (r ^^^ b.toNat)

/-- Initial value (R158). -/
def crcInit : CrcKind → Nat
  | .crc8 => 0xFF
  | .crc16 => 0xFFFF
  | .crc32 => 0xFFFFFFFF
  | .crc32c => 0xFFFFFFFF

/-- Final XOR (R158). -/
def crcXor : CrcKind → Nat
  | .crc8 => 0xFF
  | .crc16 => 0
  | .crc32 => 0xFFFFFFFF
  | .crc32c => 0xFFFFFFFF

/-- A CRC continued from register value `r` over bytes. -/
def crcFrom (k : CrcKind) (r : Nat) (bs : List Byte) : Nat := bs.foldl (crcByte k) r ^^^ crcXor k

/-- The CRC of bytes (R158). -/
def crcOf (k : CrcKind) (bs : List Byte) : Nat := crcFrom k (crcInit k) bs

/-- A number as `n` bytes, little-endian (R4). -/
def bytesLE (n v : Nat) : List Byte := (List.range n).map fun i => BitVec.ofNat 8 (v >>> (8 * i))

/-- Bytes as a number, little-endian (R4). -/
def ofBytesLE (bs : List Byte) : Nat := bs.foldr (fun b n => n * 256 + b.toNat) 0

/-- The CRC-32C of one write of the digest: the 4-byte address, then the 4-byte value (R101). -/
def writeCrc (ad : Nat) (w : Word) : Nat := crcOf .crc32c (bytesLE 4 ad ++ bytesLE 4 w.toNat)

/-- The digest of writes: the sum of their CRC-32C modulo 2^64 (R101). -/
def digestOf (ws : List (Nat × Word)) : DWord :=
  ws.foldl (init := 0#64) fun d e => d + BitVec.ofNat 64 (writeCrc e.1 e.2)

/-- The length L of a check-value instruction (R159): ga read as INT32 (DEDUCED, as the index of R145), at most the named array and 4096, and `low` at least. -/
def cvuLength (a : Act) (ra : RegNo) (arr : ArrRef) (low : Nat) : Nat :=
  max low (clampInt 0 (min arr.bytes 4096 : Nat) (a.reg ra).toInt).toNat

/-- The cost of a check-value instruction (R160): 6 + occ(l_max) + q_e. -/
def cvuCost (a : Act) (arr : ArrRef) (low : Nat) : Nat := 6 + (4 + (max low (min arr.bytes 4096) + 7) / 8) + a.waitBu

/-- CRC (R159): the CRC of bytes 0 to L − 1. -/
def fyCrc (d ra : RegNo) (k : CrcKind) (arr : ArrRef) (f : Fy) : Fy :=
  f.upd fun a =>
    let c := crcOf k (a.loadBytes arr.base (cvuLength a ra arr 0))
    ((a.effect (.cvu 1 0 0)).setReg d (word c)).retire 2 (cvuCost a arr 0)

/-- CRCC (R159): a CRC continued; the register starts at b XOR the final XOR. -/
def fyCrcc (d ra rb : RegNo) (k : CrcKind) (arr : ArrRef) (f : Fy) : Fy :=
  f.upd fun a =>
    let r := ((a.reg rb).toNat ^^^ crcXor k) % 2 ^ (8 * CrcKind_bytes k)
    let c := crcFrom k r (a.loadBytes arr.base (cvuLength a ra arr 0))
    ((a.effect (.cvu 1 0 0)).setReg d (word c)).retire 2 (cvuCost a arr 0)

/-- A stream slot after a reset (R161). -/
def freshStream : StreamSlot := { counter := 0, fresh := true }

/-- SEAL (R161): the alive counter, one up from the last, and the CRC over payload and counter, written at the end of the buffer. -/
def fySeal (d ra : RegNo) (k : CrcKind) (arr : ArrRef) (slot : Nat) (f : Fy) : Fy :=
  let a := f.act
  let w := CrcKind_bytes k
  let l := cvuLength a ra arr (w + 1)
  let s := f.slots.streams.get freshStream slot
  let c := (s.counter + 1) % 256
  let body := a.loadBytes arr.base (l - w - 1) ++ [BitVec.ofNat 8 c]
  let crc := crcOf k body
  let a := a.storeBytes (arr.base + (l - w - 1)) (BitVec.ofNat 8 c :: bytesLE w crc)
  { act := ((a.effect (.cvu 1 0 0)).setReg d 0#32).retire 2 (cvuCost f.act arr (w + 1))
    slots := { f.slots with streams := f.slots.streams.set freshStream slot { s with counter := c } } }

/-- CHECK (R161): CRC_FAIL (34), OK, REPEAT (35) or LOSS (36); CRC_FAIL and REPEAT leave the slot unchanged. -/
def fyCheck (d ra : RegNo) (k : CrcKind) (arr : ArrRef) (slot : Nat) (f : Fy) : Fy :=
  let a := f.act
  let w := CrcKind_bytes k
  let l := cvuLength a ra arr (w + 1)
  let s := f.slots.streams.get freshStream slot
  let c := (a.loadByte (arr.base + (l - w - 1))).toNat
  let good := crcOf k (a.loadBytes arr.base (l - w)) == ofBytesLE (a.loadBytes (arr.base + (l - w)) w)
  let gap := (c + 256 - s.counter) % 256
  let r : Nat × StreamSlot :=
    if !good then (34, s)
    else if s.fresh then (0, { counter := c, fresh := false })
    else if gap = 0 then (35, s)
    else if gap = 1 then (0, { s with counter := c })
    else (36, { s with counter := c })
  let a := a.effect (.cvu 1 (if r.1 = 34 then 1 else 0) (if r.1 = 35 ∨ r.1 = 36 then 1 else 0))
  { act := (a.setReg d (word r.1)).retire 2 (cvuCost f.act arr (w + 1))
    slots := { f.slots with streams := f.slots.streams.set freshStream slot r.2 } }

/-! ### What the commands do -/

/-- CRC (R159). -/
def execCrc (d ra : RegNo) (k : CrcKind) (arr : ArrRef) (s : State) : Host.Outcome State Fault Refusal := runFy (fyCrc d ra k arr) s

/-- CRCC (R159). -/
def execCrcc (d ra rb : RegNo) (k : CrcKind) (arr : ArrRef) (s : State) : Host.Outcome State Fault Refusal := runFy (fyCrcc d ra rb k arr) s

/-- SEAL (R161). -/
def execSeal (d ra : RegNo) (k : CrcKind) (arr : ArrRef) (slot : Nat) (s : State) : Host.Outcome State Fault Refusal := runFy (fySeal d ra k arr slot) s

/-- CHECK (R161). -/
def execCheck (d ra : RegNo) (k : CrcKind) (arr : ArrRef) (slot : Nat) (s : State) : Host.Outcome State Fault Refusal := runFy (fyCheck d ra k arr slot) s

end Sys2Proof.Machine
end

