-- ==== Sys2Proof/Machine/HealthItems.lean ====
section
/-! DEFINITION. Reading and writing the module's registers by field, and the states of the 64 health items (R369 to R371). -/

namespace Sys2Proof.Machine

/-! ### Fields of the module -/

/-- A register field. -/
def M.reg (s : M) (k : Nat) : Word := getField s.fields k

/-- A register field as a number. -/
def M.nat (s : M) (k : Nat) : Nat := (s.reg k).toNat

/-- A register field as a flag. -/
def M.on (s : M) (k : Nat) : Bool := s.reg k != 0#32

/-- A register field set. -/
def M.set (s : M) (k : Nat) (v : Word) : M := { s with fields := setField s.fields k v }

/-- A register field set to a number. -/
def M.setN (s : M) (k n : Nat) : M := s.set k (word n)

/-- A register flag set or cleared. -/
def M.setB (s : M) (k : Nat) (b : Bool) : M := s.set k (boolWord b)

/-- A counter field increased, saturating at `top`. -/
def M.bump (s : M) (k top n : Nat) : M := { s with fields := bumpField s.fields k top n }

/-- A counter field increased, wrapping in `width` bits. -/
def M.wrap (s : M) (k width n : Nat) : M := s.setN k ((s.nat k + n) % 2 ^ width)

/-- The mode (R62): 0 RESET, 1 PRIMING, 2 STOP, 3 RUN, 4 HOLD, 5 SAFE. RESET, which no register shows, is held as 0. -/
def M.mode (s : M) : Nat := s.nat F.modStatusMode

/-- The redundancy role (R335): 0 LONE, 1 LEAD, 2 SHADOW, 3 JOINING, 4 DETACHED. -/
def M.role (s : M) : Nat := s.nat F.redStatusRole

/-- Whether the module holds the bucket. -/
def M.holds (s : M) : Bool := s.on F.redStatusHolder

/-- Whether the module drives the field: the holder, or the safe driver (R335, R336). -/
def M.drives (s : M) : Bool := s.holds || s.on F.redStatusSafeDriver

/-- Whether a commit has been made since the last priming, with which settings take effect (R116). -/
def M.settled (s : M) : Bool := s.ctl.primed && decide (s.mode ≥ 2)

/-- A setting as the device follows it: its Cold value until the first commit (R116). -/
def M.cfg (s : M) (k : Nat) : Word := if s.settled then s.reg k else coldOf k

/-- A flag among the settings as the device follows it. -/
def M.cfgOn (s : M) (k : Nat) : Bool := s.cfg k != 0#32

/-- Whether a domain is powered (R61): 0 AON, 1 MEM, 2 ENG, 3 LOOP, 4 NET, 5 ROPE, 6 DW, 7 AW0, 8 AW1. -/
def M.domainOn (s : M) (d : Nat) : Bool := (s.reg F.pwrDomainOn).toNat / 2 ^ d % 2 == 1

/-- A domain switched on or off. -/
def M.setDomain (s : M) (d : Nat) (b : Bool) : M :=
  let w := s.reg F.pwrDomainOn
  s.set F.pwrDomainOn (if b then w ||| (1#32 <<< d) else w &&& ~~~ (1#32 <<< d))

/-- The running image's declarations: the body of the ACTIVE slot. -/
def M.body (s : M) : ImageBody :=
  if s.on (F.idImgSlotActive 0) then (s.store.slots.get ImgSlot.empty 0).body
  else if s.on (F.idImgSlotActive 1) then (s.store.slots.get ImgSlot.empty 1).body
  else ImageBody.empty

/-- The number of the stroke in progress (R86). -/
def M.stroke (s : M) : DWord := getField64 s.fields F.stkCountLo F.stkCountHi

/-- A signed field of `width` bits. -/
def signedField (width n : Nat) : Int := if n ≥ 2 ^ (width - 1) then (n : Int) - (2 ^ width : Nat) else n

/-! ### Item states -/

/-- Whether a condition followed under `key` has held for `ns` nanoseconds. -/
def M.heldFor (s : M) (key ns : Nat) : Bool :=
  match s.hlt.since.get none key with
  | some t => decide (t + ns ≤ s.aon.now)
  | none => false

/-- The digital channels of group g. -/
def groupChans (g : Nat) : List Nat := (List.range 8).map (8 * g + ·)

/-- Whether an output channel of group g lacks a proof mark (R368). -/
def M.unproved (s : M) (g : Nat) : Bool :=
  (groupChans g).any fun n => s.on (F.dioCfgDir n) &&
    !((s.nat F.hltDioTestedOn) / 2 ^ n % 2 == 1 && (s.nat F.hltDioTestedOff) / 2 ^ n % 2 == 1)

/-- The conditions of an item: FAILED, DEGRADED, UNTESTED (R370). -/
def M.itemConds (s : M) (i : Nat) : Bool × Bool × Bool :=
  let latched := s.hlt.latched.contains i
  let mods := s.body.modules
  if i < 4 then (latched, s.hlt.overdue.contains i, !s.hlt.passed.contains i)
  else if i = 4 then (latched, false, s.body.loops.isEmpty)
  else if i = 5 then
    (latched, decide (signedField 16 (s.nat F.stkPaceMargin) < s.nat F.stkPaceCfgLowThr), false)
  else if i = 6 then (latched, s.saves.passMany, !s.saves.scrubbed)
  else if i = 7 then (latched, s.on F.memEccMramCorrected, false)
  else if i = 8 then
    let v (n : Nat) := (s.saves.areas.get Area.empty n).valid
    (s.saves.firstDone && !v 0 && !v 1, !v 0 || !v 1 || s.saves.failed || s.saves.older, s.ctl.cold && !s.saves.firstDone)
  else if i = 9 then (!s.log.reported.isEmpty, s.on F.logStatFull, false)
  else if i = 10 then (latched, s.nat F.stkTimebaseLockState == 3, false)
  else if i = 11 then (latched, false, !s.hlt.leaseEver)
  else if i = 12 then (s.on F.secStatusSecureFault, false, false)
  else if i = 13 then (decide (s.nat F.pwrFeedFeedA ≥ 2), s.nat F.pwrFeedFeedA == 1, false)
  else if i = 14 then (decide (s.nat F.pwrFeedFeedB ≥ 2), s.nat F.pwrFeedFeedB == 1, false)
  else if i = 15 then (s.heldFor 1501 1000000000, s.heldFor 1500 1000000000, false)
  else if i = 16 then (latched || s.dw.coreDead, decide (s.nat F.dioLinkStatDiscards > 10), !s.domainOn 6)
  else if i < 19 then
    let w := i - 17
    let a := s.aw.get Aw.start w
    (latched || a.coreDead || a.inReset || s.on (F.awStatRefFault w), decide (s.nat (F.awStatDiscards w) > 10) || s.on (F.awStatResLow w),
      !s.domainOn (7 + w))
  else if i = 19 then (s.on F.encSupplyOverload, false, (List.range 4).all fun n => s.nat (F.encCfgMode n) == 0)
  else if i < 22 then
    let p := i - 20
    (s.nat (F.canStatState p) == 2, s.nat (F.canStatState p) == 1 || s.on (F.canFlagsIdCollision p), s.nat (F.canRateNom p) == 0)
  else if i = 22 then
    let stns := (mods.map (·.station)).eraseDups
    (stns.any fun n => s.on (F.rioStnStatAllStale n) || decide (s.nat (F.rioStnStatState n) ≥ 3),
      s.nat F.rioStatRingState == 2 ||
        (match s.hlt.deferAt with
        | some t => decide (s.aon.now < t + 1000000000)
        | none => false), stns.isEmpty)
  else if i = 23 then
    let addr := s.nat (F.netIp (s.nat F.idStrapsSlot))
    (latched, !s.on F.netP3StatLink && addr != 0, addr == 0)
  else if i = 24 then
    let q := s.nat F.wallQualQuality
    (q == 0 && s.heldFor 2400 60000000000, q == 3 || q == 1, !s.on F.ptpCfgPtpEn && q == 0)
  else if i = 25 then
    let there := s.on F.idStrapsPartnerPresent
    (there && (latched || (s.red.lost && s.red.everUp)), s.nat F.redStatusRope == 2 || s.red.laneLost, !s.domainOn 5 || !there)
  else if i = 26 then
    (latched, (s.role == 4 || s.role == 3) && s.on F.idStrapsPartnerPresent, s.role == 0)
  else if i = 27 then ((List.range 32).any fun n => s.on (F.dioStatReadbackMismatch n), false, s.role != 2)
  else if i = 28 then (false, s.on F.hltSafeADisagree || s.on F.hltSafeBDisagree, !(s.on F.hltSafeASeen && s.on F.hltSafeBSeen))
  else if i = 29 then (latched, s.on F.idStrapsStrapChanged || s.on F.idStrapsDbgEn, false)
  else if i = 30 then (s.on F.modStatusStartFault, s.hlt.retriedStart, false)
  else if i = 31 then
    (s.on F.hltRestartsExhausted, s.hlt.restarts.any fun r => decide (s.aon.now < r.2 + 600000000000), false)
  else if i < 36 then
    let g := i - 32
    (decide (s.nat (F.dioGrpState g) ≥ 2) ||
        (groupChans g).any fun n => s.on (F.dioStatLatchedOff n) || s.on (F.dioStatExternalDrive n) || s.on (F.dioStatSwitchFault n),
      s.nat (F.dioGrpState g) == 1 ||
        (groupChans g).any fun n => s.on (F.dioStatWireBreak n) || s.on (F.dioStatThermal n) || s.heldFor (3200 + n) 1000000000,
      s.unproved g)
  else if i < 52 then
    let n := i - 36
    (s.on (F.aioStatNe43Low n) || s.on (F.aioStatNe43High n) || s.on (F.aioStatSupplyShort n) || s.on (F.aioStatOpenLoop n) ||
        s.on (F.aioStatReadbackFault n),
      s.on (F.aioStatComplianceShort n) || s.heldFor (3600 + n) 1000000000,
      s.nat (F.aioCfgFunc n) == 0 || (s.nat (F.aioCfgFunc n) == 3 && !s.holds))
  else if i < 56 then
    let n := i - 52
    (s.on (F.encStatLineFault n) || s.on (F.encStatSsiFault n),
      (match s.hlt.illegalAt.get none n with
      | some t => decide (s.aon.now < t + 1000000000)
      | none => false), s.nat (F.encCfgMode n) == 0)
  else
    let c := bitsOf (s.nat F.hltAppAppState) (2 * (i - 56) + 1) (2 * (i - 56))
    (c == 2, c == 1, c == 3)

/-- The state of an item (R369): the worst condition that holds, UNTESTED where none does and its test has not run. -/
def M.itemState (s : M) (i : Nat) : Nat :=
  let (f, d, u) := s.itemConds i
  if f then 2 else if d then 1 else if u then 3 else 0

/-- Item i brought up to date: a change counts when it enters DEGRADED or FAILED, and records its cause and its stroke (R369). -/
def M.refreshItem (cause : Word) (s : M) (i : Nat) : M :=
  let st := s.itemState i
  if st = s.nat (F.hltItemStatState i) then s
  else
    let s := s.setN (F.hltItemStatState i) st
    let s := if st = 1 ∨ st = 2 then s.bump (F.hltItemStatCount i) 65535 1 else s
    { s with fields := setField64 (setField s.fields (F.hltItemCause i) cause) (F.hltItemStrokeLo i) (F.hltItemStrokeHi i) s.stroke }

/-- Every item brought up to date; `cause` is the source and code of the event behind a change (R369). -/
def M.refreshItems (s : M) (cause : Word) : M := (List.range 64).foldl (M.refreshItem cause) s

/-- Every item as a priming starts it: UNTESTED or OK by its rule, with no change recorded (R369). A condition that has already made it DEGRADED or FAILED is a
change, and one that is found from now on will be. -/
def M.startItems (s : M) : M :=
  (List.range 64).foldl (init := s) fun s i =>
    let was := s.nat (F.hltItemStatState i)
    if was = 1 ∨ was = 2 then s
    else
      let s := s.setN (F.hltItemStatState i) (if (s.itemConds i).2.2 then 3 else 0)
      { s with fields := setField64 (setField s.fields (F.hltItemCause i) 0#32) (F.hltItemStrokeLo i) (F.hltItemStrokeHi i) 0 }

/-- HLT_STATE[j] from the item states (R377). -/
def M.stateWord (s : M) (j : Nat) : Word :=
  (List.range 16).foldl (init := 0#32) fun w i => w ||| word (s.nat (F.hltItemStatState (16 * j + i)) * 4 ^ i)

/-- Items in a state. -/
def M.itemsIn (s : M) (st : Nat) : Nat := ((List.range 64).filter fun i => s.nat (F.hltItemStatState i) == st).length

end Sys2Proof.Machine
end

