-- ==== Sys2Proof/Machine/LoopEngine.lean ====
section
/-! DEFINITION. The loop engine: the control law (R192 to R199), gain schedules (R203 to R210), low-select groups (R211 to R216), relay
tuning (R219 to R223) and test-signal injection (R227 to R229). Both lanes compute what is here (R201). -/

namespace Sys2Proof.Machine

/-! ### The block as committed at S -/

/-- Address of a field of loop block n (R183). -/
def loopAddr (n off : Nat) : Nat := 0x50000000 + 0x100 * n + off

/-- A whole-word field of a loop block. -/
def Snap.loop (s : Snap) (n off : Nat) : Word := readReg s.fields (loopAddr n off)

/-- A REAL32 field of a loop block as the engine reads it (R187). -/
def Snap.loopReal (s : Snap) (n off : Nat) : Word := realRead (s.loop n off)

/-- A REAL32 word of data memory, or of an analog output value register, as the engine reads it (R187). -/
def Snap.realAt (s : Snap) (ad : Nat) : Word :=
  realRead (if inSram ad then memWord s.mem ad else readReg s.fields ad)

/-- The quality byte beside a value word (R121). -/
def Snap.qualityAt (s : Snap) (ad : Nat) : Nat := (memWord s.mem (ad + 4)).toNat % 256

/-- The state words of block n as committed at S. -/
def Snap.loopWords (s : Snap) (n : Nat) : LoopWords :=
  { kpAct := s.loop n 0x80, tiAct := s.loop n 0x84, tdAct := s.loop n 0x88, kffAct := s.loop n 0x8C, sched := s.loop n 0x94
    vff := s.loop n 0x98, status := s.loop n 0xA0, rEff := s.loop n 0xA4, y := s.loop n 0xA8, e := s.loop n 0xAC, p := s.loop n 0xB0
    i := s.loop n 0xB4, d := s.loop n 0xB8, edPrev := s.loop n 0xBC, ff := s.loop n 0xC0, uUnc := s.loop n 0xC4, u := s.loop n 0xC8
    evals := s.loop n 0xCC, candKp := s.loop n 0xE0, candTi := s.loop n 0xE4, candTd := s.loop n 0xE8, tune := s.loop n 0xEC
    injStat := s.loop n 0xF8 }

/-! Bits of LOOP_STATUS (R186). -/

/-- Bit `n` of a word. -/
def bitAt (w : Word) (n : Nat) : Bool := w.toNat / 2 ^ n % 2 == 1

/-- A word with bit `n` set to `b`. -/
def putBit (w : Word) (n : Nat) (b : Bool) : Word :=
  if b then w ||| (1#32 <<< n) else w &&& ~~~ (1#32 <<< n)

/-- A word with several bits put. -/
def putBits (w : Word) (bs : List (Nat × Bool)) : Word := bs.foldl (init := w) fun w b => putBit w b.1 b.2

/-- MODE of a LOOP_STATUS word. -/
def statusMode (w : Word) : Nat := w.bits 1 0

/-- LATCH of a LOOP_STATUS word. -/
def statusLatch (w : Word) : Nat := w.bits 21 20

/-- LOOP_STATUS with MODE and LATCH replaced. -/
def putModeLatch (w : Word) (mode latch : Nat) : Word :=
  (w &&& ~~~ 0x00300003#32) ||| word (mode + latch * 2 ^ 20)

/-! ### The schedule step (R203 to R210) -/

/-- REAL32 constants: 1.0e-6, 1.0e-3, ±1.0e9, ±1.0e6, 1.0e5. -/
def realMicro : Word := 0x358637BD#32
def realMilli : Word := 0x3A83126F#32
def real1e9 : Word := 0x4E6E6B28#32
def realNeg1e9 : Word := 0xCE6E6B28#32
def real1e6 : Word := 0x49742400#32
def realNeg1e6 : Word := 0xC9742400#32
def real1e5 : Word := 0x47C35000#32

/-- The parameters of an evaluation: Kp, Ti, Td, Kff, the word LOOP_SCHED_REGION, and whether this is a region change (R210). -/
structure LoopParams where
  kp : Word
  ti : Word
  td : Word
  kff : Word
  sched : Word
  change : Bool
  deriving DecidableEq, Repr

/-- A schedule table as the engine uses it: every word converted and clamped at use (R205). -/
def Snap.schedX (s : Snap) (t j : Nat) : Word := realClamp realNeg1e9 real1e9 (s.realAt (t + 0x20 + 4 * j))

/-- Parameter `c` (0 Kp, 1 Ti, 2 Td, 3 Kff) of set `j` (R204). -/
def Snap.schedSet (s : Snap) (t j c : Nat) : Word :=
  let v := s.realAt (t + 0x40 + 16 * j + 4 * c)
  match c with
  | 0 => realClamp realNeg1e6 real1e6 v
  | 1 => realClamp 0#32 real1e6 v
  | 2 => realClamp 0#32 real1e5 v
  | _ => realClamp realNeg1e6 real1e6 v

/-- m of R207: breakpoints used, while they rise strictly. -/
def Snap.schedCount (s : Snap) (t : Nat) : Nat :=
  let n := clampNat 1 8 ((memWord s.mem t).bits 3 0)
  ((List.range 8).drop 1).foldl (init := (1, true)) (fun (a : Nat × Bool) j =>
    if a.2 && decide (j < n) && realLt (s.schedX t (j - 1)) (s.schedX t j) then (a.1 + 1, true) else (a.1, false)) |>.1

/-- The plain region of `sv`: 0 below X[0], else the largest j < m with X[j] ≤ sv (R207). -/
def Snap.schedPlain (s : Snap) (t m : Nat) (sv : Word) : Nat :=
  (List.range m).foldl (init := 0) fun r j => if realLe (s.schedX t j) sv then j else r

/-- The hysteresis margin at breakpoint j (R209). -/
def Snap.schedMargin (s : Snap) (t m j : Nat) : Word :=
  let gap (j : Nat) := realSub (s.schedX t j) (s.schedX t (j - 1))
  let sj := if j + 1 < m then realMin (gap j) (gap (j + 1)) else gap j
  realMul (realMul (realOfInt (min 100 ((memWord s.mem t).bits 15 8))) realMilli) sj

/-- The region chosen in STEP mode (R209). -/
def Snap.schedStepRegion (s : Snap) (t m r plain : Nat) (valid : Bool) (sv : Word) : Nat :=
  if !valid ∨ r ≥ m then plain
  else
    let above := r = 0 || realLe (realSub (s.schedX t r) (s.schedMargin t m r)) sv
    let below := r + 1 = m || realLt sv (realAdd (s.schedX t (r + 1)) (s.schedMargin t m (r + 1)))
    if above && below then r else plain

/-- A parameter in LINEAR mode (R208); Ti is 0.0 across an interval with a zero Ti at either end. -/
def Snap.schedLinear (s : Snap) (t m plain c : Nat) (sv : Word) : Word :=
  let a := s.schedSet t plain c
  if plain + 1 = m ∨ realLt sv (s.schedX t 0) then a
  else
    let b := s.schedSet t (plain + 1) c
    if c = 1 ∧ (realEq a 0#32 ∨ realEq b 0#32) then 0#32
    else
      let f := realDiv (realSub sv (s.schedX t plain)) (realSub (s.schedX t (plain + 1)) (s.schedX t plain))
      realAdd a (realMul f (realSub b a))

/-- The schedule step of loop n (R207): its own fields with SCHED_EN 0, else from schedule SCHED. -/
def loopParams (s : Snap) (dl : LoopDecls) (n : Nat) (w : LoopWords) : LoopParams :=
  if !bitAt (s.loop n 0x08) 8 then
    { kp := s.loopReal n 0x20, ti := s.loopReal n 0x24, td := s.loopReal n 0x28, kff := s.loopReal n 0x38, sched := 0#32, change := false }
  else
    let (t, sa) := dl.schedules.get (0, 0) ((s.loop n 0x08).bits 7 0)
    let valid := bitAt w.sched 9
    let old := w.sched.bits 2 0
    let qmask := (s.loop n 0x00).bits 15 8
    if s.qualityAt sa &&& qmask ≠ 0 then
      if valid then
        { kp := w.kpAct, ti := w.tiAct, td := w.tdAct, kff := w.kffAct, sched := putBit w.sched 8 true, change := false }
      else
        { kp := s.schedSet t 0 0, ti := s.schedSet t 0 1, td := s.schedSet t 0 2, kff := s.schedSet t 0 3, sched := word 0x100, change := false }
    else
      let sv := s.realAt sa
      let m := s.schedCount t
      let plain := s.schedPlain t m sv
      if bitAt (memWord s.mem t) 4 then
        let r := s.schedStepRegion t m old plain valid sv
        { kp := s.schedSet t r 0, ti := s.schedSet t r 1, td := s.schedSet t r 2, kff := s.schedSet t r 3
          sched := word (0x200 + r), change := valid && !bitAt w.sched 8 && r != old }
      else
        { kp := s.schedLinear t m plain 0 sv, ti := s.schedLinear t m plain 1 sv, td := s.schedLinear t m plain 2 sv
          kff := s.schedLinear t m plain 3 sv, sched := word (0x200 + plain), change := false }

/-! ### Setpoint, limits and saturation (R192 to R195, R198, R199) -/

/-- limit() of R192, and whether the rate limit moved the value. -/
def loopLimit (s : Snap) (n : Nat) (h uPrev x : Word) : Word × Bool :=
  let c := realMax (realMin x (s.loopReal n 0x44)) (s.loopReal n 0x40)
  let rmax := s.loopReal n 0x48
  if realLt 0#32 rmax then
    let step := realMul rmax h
    let v := realMin (realMax c (realSub uPrev step)) (realAdd uPrev step)
    (v, !realEq v c)
  else (c, false)

/-- r_eff and RAMPING of an evaluation in auto (R194). -/
def loopRamp (s : Snap) (n : Nat) (w : LoopWords) (entry : Bool) (h target y : Word) : Word × Bool :=
  let rate := s.loopReal n 0x54
  if entry then (y, realLt 0#32 rate)
  else
    let was := bitAt w.status 2
    let r := w.rEff
    if was && realEq rate 0#32 then (target, false)
    else if was || (bitAt (s.loop n 0x00) 1 && !realEq target r && realLt 0#32 rate) then
      let step := realMul rate h
      let r := if realLt r target then realMin (realAdd r step) target else realMax (realSub r step) target
      (r, !realEq r target)
    else (target, false)

/-- The manual source of a loop in MODE 0 by its LATCH (R195). -/
def manualSource (s : Snap) (n latch : Nat) (w : LoopWords) : Word :=
  match latch with
  | 0 => s.loopReal n 0x64
  | 1 => s.loopReal n 0x5C
  | 2 => w.u
  | _ => s.loopReal n 0x58

/-- The lowest-numbered slave of master n (R199). -/
def slaveOf (s : Snap) (dl : LoopDecls) (n : Nat) : Option Nat :=
  dl.blocks.find? fun b => bitAt (s.loop b 0x08) 28 && (s.loop b 0x08).bits 27 18 == n

/-- External saturation that an output destination presents at S: held upward, held downward (R193). -/
def destSaturation (s : Snap) (ad : Nat) : Bool × Bool :=
  if 0x40020018 ≤ ad ∧ ad < 0x40020200 ∧ ad % 0x20 = 0x18 then
    let n := (ad - 0x40020000) / 0x20
    let on (k : Nat) : Bool := getField s.fields k != 0#32
    let both := on (F.aioStatOpenLoop n) || on (F.aioStatReadbackFault n) || on (F.aioStatAlarmActive n) || s.awDead.contains (n / 8)
    (both || on (F.aioStatComplianceShort n), both)
  else (false, false)

/-- The members of group g, in ascending block number. -/
def groupMembers (s : Snap) (dl : LoopDecls) (g : Nat) : List Nat :=
  dl.blocks.filter fun b => bitAt (s.loop b 0x08) 17 && (s.loop b 0x08).bits 13 9 == g

/-- The result of a block of this stroke, if it has been evaluated. -/
def resultOf (done : List LoopResult) (b : Nat) : Option LoopResult := done.find? fun r => r.block == b && r.evaluated

/-- The setpoint source of loop n (R198): SP, or the master's u of this stroke where the master was evaluated before it and every member
of the master's group is lower (R215), else the master's committed LOOP_U. -/
def setpointSource (s : Snap) (dl : LoopDecls) (done : List LoopResult) (n : Nat) : Word :=
  let link := s.loop n 0x08
  if bitAt link 28 then
    let m := link.bits 27 18
    let fresh := decide (m < n) && (!bitAt (s.loop m 0x08) 17 || (groupMembers s dl ((s.loop m 0x08).bits 13 9)).all fun b => decide (b < n))
    match (if fresh then resultOf done m else none) with
    | some r => r.words.u
    | none => s.loopReal m 0xC8
  else s.loopReal n 0x60

/-- The filtered derivative (R192). -/
def derivative (kp td nf h dPrev ed edPrev : Word) : Word :=
  let den := realAdd td (realMul nf h)
  let alpha := realDiv td den
  let beta := realDiv (realMul (realMul kp td) nf) den
  realAdd (realMul alpha dPrev) (realMul beta (realSub ed edPrev))

/-- The sum (((p + i) + d) + ff) + BIAS. -/
def sumTerms (p i d ff bias : Word) : Word := realAdd (realAdd (realAdd (realAdd p i) d) ff) bias

/-- The preset (((u − p) − d) − ff) − BIAS. -/
def presetI (u p d ff bias : Word) : Word := realSub (realSub (realSub (realSub u p) d) ff) bias

/-- The sign of a REAL32 value. -/
def realSign (w : Word) : Int := if realLt 0#32 w then 1 else if realLt w 0#32 then -1 else 0

/-! ### Injection and relay tuning (R219 to R222, R227) -/

/-- The injection run at an evaluation: the run with its settings read at the first one, and the injected value (R227). -/
def injStep (s : Snap) (n : Nat) (r : InjRun) : InjRun × Word :=
  let r := if r.begun then r else
    { r with begun := true, j := 0, shift := 0x1FF, bit := false, left := 0, bitEvals := (s.loop n 0xF0).bits 15 8, amp := s.loopReal n 0xF4
             cfg := (s.loop n 0xF0).bits 7 0 }
  if r.j < 256 then ({ r with j := r.j + 1 }, 0#32)
  else if r.cfg % 2 = 0 then ({ r with j := r.j + 1 }, r.amp)
  else
    let r := if r.left = 0 then
        let b := (r.shift / 256 + r.shift / 16) % 2
        { r with shift := (r.shift * 2 + b) % 512, bit := b == 1, left := r.bitEvals }
      else r
    ({ r with j := r.j + 1, left := r.left - 1 }, if r.bit then r.amp else realNeg r.amp)

/-- Limits of a tuning run in evaluations: ceil(TUNE_LIMIT_S × 1,000,000 / (K_L × TB_US)) (R222). -/
def tuneLimit (s : Snap) (n : Nat) : Nat :=
  let step := (s.loop n 0x04).bits 15 0 * (getField s.fields F.stkPeriodTbUs).toNat
  ((s.loop n 0xDC).toNat * 1000000 + (step - 1)) / max 1 step

/-- The tuning run at the start of an evaluation: fixed quantities at the first one, then the side (R219). -/
def tuneSide (s : Snap) (n : Nat) (kp y e : Word) (w : LoopWords) (t : TuneRun) : TuneRun :=
  let t := if t.begun then t else
    let neg := realLt kp 0#32
    let d := realSub w.rEff y
    let d := if neg then realNeg d else d
    { t with begun := true, r0 := w.rEff, negative := neg, high := realLe 0#32 d, limit := tuneLimit s n, count := 0, cycle := none, closed := [] }
  let se := if t.negative then realNeg e else e
  let eps := s.loopReal n 0xD4
  if realLt eps se then { t with high := true } else if realLt se (realNeg eps) then { t with high := false } else t

/-- Cycle bookkeeping of an evaluation (R220): the run, and the length of a cycle closed by a switch-up. -/
def tuneCycle (wasHigh first : Bool) (y : Word) (t : TuneRun) : TuneRun × Option Nat :=
  if !first && !wasHigh && t.high then
    let openNew : Option Cycle := some { count := 1, high := y, low := y }
    match t.cycle with
    | none => ({ t with cycle := openNew }, none)
    | some c => ({ t with cycle := openNew, closed := (c.count, realSub c.high c.low) :: t.closed }, some c.count)
  else
    ({ t with cycle := t.cycle.map fun c => { count := c.count + 1, high := realMax c.high y, low := realMin c.low y } }, none)

/-- Whether the four cycles of the window agree (R220). -/
def tuneConverged (t : TuneRun) : Bool :=
  let ns := (t.closed.take 4).map (·.1)
  let hi := ns.foldl max 0
  let lo := ns.foldl min (ns.headD 0)
  decide (t.closed.length ≥ 6) && decide ((hi - lo) * 100 ≤ 3 * lo)

/-- The coefficients ckp, cti, ctd of a rule (R221). -/
def tuneCoeff (rule : Nat) : Word × Word × Word :=
  match rule with
  | 0 => (0x3EE66666#32, 0x3F4CCCCD#32, 0x3DF5C28F#32)
  | 1 => (0x3EA8F5C3#32, 0x3F800000#32, 0x3DCCCCCD#32)
  | _ => (0x3E4CCCCD#32, 0x3FB33333#32, 0x00000000#32)

/-- The candidate of a converged run, or none where q ≤ 0.0 (R221). -/
def tuneCandidate (s : Snap) (n : Nat) (h : Word) (t : TuneRun) : Option (Word × Word × Word) :=
  let win := (t.closed.take 4).reverse
  let tu := realMul (realMul (realOfInt (win.foldl (fun a c => a + c.1) 0 : Nat)) h) 0x3E800000#32
  let pp := (win.map (·.2))
  let a := realMul ((pp.drop 1).foldl realAdd (pp.headD 0#32)) 0x3E000000#32
  let eps := s.loopReal n 0xD4
  let q := realSub (realMul a a) (realMul eps eps)
  if realLe q 0#32 then none
  else
    let ku := realDiv (realMul 0x40800000#32 (s.loopReal n 0xD0)) (realMul 0x40490FDB#32 (realSqrt q))
    let (ckp, cti, ctd) := tuneCoeff t.rule
    let kp := realMul ckp ku
    some (realClamp realNeg1e6 real1e6 (if t.negative then realNeg kp else kp), realClamp 0#32 real1e6 (realMul cti tu),
      realClamp 0#32 real1e5 (realMul ctd tu))

/-- LOOP_TUNE_STATUS from its parts (R186). -/
def tuneWord (abort cycles state : Nat) : Word := word (abort * 65536 + cycles * 256 + state)

/-! ### One evaluation -/

/-- A result in which only LOOP_STATUS (and run state) changes. -/
def statusOnly (n : Nat) (w : LoopWords) (hid : LoopHidden) (abort : Option Nat) (evs : List Event) : LoopResult :=
  { block := n, evaluated := false, competes := false, relay := false, words := w, hidden := hid, abort := abort, events := evs, inj := 0#32, sampled := false }

/-- The event LOOP_PV_ACTION: the block number, the action and the quality byte (R196). -/
def pvActionEvent (n action q : Nat) : Event :=
  { source := BitVec.ofNat 16 (0x0500 + n), code := 0x2500#16, p0 := word n, p1 := word action, p2 := word q }

/-- The evaluation of due loop n in a stroke (R192 with every step that acts in it), from the block as committed at S. DESIGN CHOICE (log entry 84): the sign of
kp × e in R193 is that of the exact product, which a product flushed to zero would lose. -/
def evalLoop (s : Snap) (dl : LoopDecls) (done : List LoopResult) (hid : LoopHidden) (n : Nat) : LoopResult :=
  let w := s.loopWords n
  let link := s.loop n 0x08
  let cfg := s.loop n 0x00
  let h := s.loopReal n 0x90
  let qmask := cfg.bits 15 8
  let action := cfg.bits 5 4
  -- R200: the first evaluation after a re-enable
  let st := putBits w.status [(18, false)]
  let st := if hid.sawDisabled then putBits (putModeLatch st 0 2) [(19, true), (3, false)] else st
  let par := loopParams s dl n w
  let q := s.qualityAt (s.loop n 0x0C).toNat
  let pvBad := q &&& qmask != 0
  let y := s.realAt (s.loop n 0x0C).toNat
  let ffOn := bitAt link 29
  let ffAddr := (s.loop n 0x10).toNat
  let ffBad := ffOn && (s.qualityAt ffAddr &&& qmask != 0)
  let vff := if !ffOn then 0#32 else if ffBad then w.vff else s.realAt ffAddr
  let src := setpointSource s dl done n
  let spHi := s.loopReal n 0x50
  let spLo := s.loopReal n 0x4C
  let target := realMin (realMax src spLo) spHi
  -- R199: tracking of the slave as committed at S
  let slave := slaveOf s dl n
  let slaveStatus := match slave with
    | some b => s.loop b 0xA0
    | none => 0#32
  let auto0 := statusMode st == 1
  let track := auto0 && slave.isSome && (statusMode slaveStatus == 0 || bitAt slaveStatus 3)
  let entry0 := hid.entry || (auto0 && bitAt st 14 && !track)
  let hid := { hid with sawDisabled := false }
  -- R222: causes before the relay evaluation
  let early : Option Nat := match hid.tune with
    | none => none
    | some t => if (!t.begun && !auto0) || track then some 2 else if pvBad then some 3 else none
  let relay := hid.tune.isSome && early.isNone
  let hid := if early.isSome then { hid with tune := none } else hid
  let cycles0 := w.tune.bits 15 8
  let w := match early with
    | some c => { w with tune := tuneWord c cycles0 4 }
    | none => w
  let st := if early.isSome then putBit st 16 false else st
  if auto0 && !track && !relay && pvBad && action = 0 then
    -- R196 HOLD: not evaluated
    statusOnly n { w with status := putBits st [(3, true), (19, true), (4, true), (14, false)] } { hid with entry := false } early []
  else
    let badAct := auto0 && !track && !relay && pvBad
    let latch := if badAct then (if action = 1 then 2 else 3) else statusLatch st
    let st := if badAct then putModeLatch st 0 latch else st
    let evs := if badAct then [pvActionEvent n action q] else []
    let y := if badAct then w.y else y
    let auto := auto0 && !badAct && !track
    let held := bitAt w.status 3
    let st := putBit st 3 false
    let entry := entry0 || (auto && held)
    let badManual := pvBad && !badAct && !relay && !auto
    let fresh := bitAt st 19
    let (inj, injV) := match hid.inj with
      | some r => let (r, v) := injStep s n r; (some r, v)
      | none => (none, 0#32)
    let point := match inj with
      | some r => r.cfg / 2 % 2
      | none => 0
    let atR (r : Word) : Word := if inj.isSome ∧ point = 0 then realAdd r injV else r
    let atU (u : Word) : Word := if inj.isSome ∧ point = 1 then realAdd u injV else u
    -- R193, R199, R215: external saturation
    let dest := if bitAt link 31 then destSaturation s (s.loop n 0x14).toNat else (false, false)
    let satw := if bitAt link 30 then memWord s.mem (s.loop n 0x18).toNat else 0#32
    let grp := if bitAt link 17 && (statusMode st == 1 || relay) then destSaturation s (dl.groups.get (0, 0) (link.bits 13 9)).2 else (false, false)
    let extHi := dest.1 || bitAt satw 0 || grp.1 || (slave.isSome && bitAt slaveStatus 12)
    let extLo := dest.2 || bitAt satw 1 || grp.2 || (slave.isSome && bitAt slaveStatus 13)
    let bias := s.loopReal n 0x3C
    let bW := s.loopReal n 0x30
    let cW := s.loopReal n 0x34
    let nf := s.loopReal n 0x2C
    let source := if track then (match slave with
        | some b => s.loopReal b 0xA8
        | none => 0#32) else manualSource s n latch w
    let flags (uUnc : Word) (rl inh spu spd ramping : Bool) (st : Word) : Word :=
      putBits st [(2, ramping), (4, pvBad), (5, ffBad), (6, realLt (s.loopReal n 0x44) uUnc), (7, realLt uUnc (s.loopReal n 0x40)), (8, rl), (9, extHi),
        (10, extLo), (11, inh), (12, spu), (13, spd), (14, track), (15, false), (19, pvBad), (16, relay), (17, inj.isSome)]
    let base := { w with kpAct := par.kp, tiAct := par.ti, tdAct := par.td, kffAct := par.kff, sched := par.sched, vff := vff, evals := w.evals + 1#32 }
    if badManual then
      let uUnc := atU source
      let (u, rl) := loopLimit s n h w.u uUnc
      { block := n, evaluated := true, competes := false
        words := { base with status := flags uUnc rl false false false false st, rEff := y, y := y, e := realSub (atR y) y
                             edPrev := realSub (realMul cW (atR y)) y, ff := realMul par.kff vff, uUnc := uUnc, u := u }
        hidden := { hid with inj := inj, entry := if track then hid.entry else false }, relay := false, abort := early, events := evs, inj := injV
        sampled := inj.isSome }
    else
      -- R219: the relay run
      let tn : Option TuneRun := if relay then hid.tune.map fun t =>
          let r0 := if t.begun then t.r0 else w.rEff
          tuneSide s n par.kp y (realSub (atR r0) y) w t
        else none
      let (rEff, ramping) := match tn with
        | some t => (t.r0, false)
        | none => if auto then loopRamp s n w entry h target y else (y, false)
      let r := atR rEff
      let e := realSub r y
      let p := realMul par.kp (realSub (realMul bW r) y)
      let ed := realSub (realMul cW r) y
      let d := if fresh then 0#32 else derivative par.kp par.td nf h w.d ed w.edPrev
      let ff := realMul par.kff vff
      let base := { base with rEff := rEff, y := y, e := e, p := p, d := d, edPrev := ed, ff := ff }
      match tn with
      | some t =>
        let first := match hid.tune with
          | some t0 => !t0.begun
          | none => true
        let wasHigh := match hid.tune with
          | some t0 => t0.high
          | none => false
        let tb := s.loopReal n 0xD8
        let td := s.loopReal n 0xD0
        let hiLvl := realAdd tb td
        let loLvl := realSub tb td
        let uUnc := atU (if t.high then hiLvl else loLvl)
        let (u, rl) := loopLimit s n h w.u uUnc
        let (t, closedN) := tuneCycle wasHigh first y { t with count := t.count + 1 }
        let cyc := t.closed.length
        let converged := closedN.isSome && tuneConverged t
        let cand := if converged then tuneCandidate s n h t else none
        let region := bitAt link 8 && (par.sched.bits 2 0 != w.sched.bits 2 0 || bitAt par.sched 8)
        let cause : Option Nat :=
          if first && (realLt (s.loopReal n 0x44) hiLvl || realLt loLvl (s.loopReal n 0x40)) then some 6
          else if (match closedN with
            | some c => decide (c < 8)
            | none => false) then some 7
          else if converged && cand.isNone then some 8
          else if cyc ≥ 40 && !converged then some 9
          else if t.count ≥ t.limit then some 10
          else if region then some 12
          else none
        let done := cause.isNone && converged
        let running := cause.isNone && !converged
        let state := if cyc ≥ 2 then 2 else 1
        let words := { base with i := presetI u p d ff bias, uUnc := uUnc, u := u
                                 status := putBit (flags uUnc rl false false false false st) 16 running
                                 tune := match cause with
                                   | some c => tuneWord c cyc 4
                                   | none => if done then tuneWord 0 cyc 3 else tuneWord 0 cyc state }
        let words := match cand with
          | some (a, b, c) => if done then { words with candKp := a, candTi := b, candTd := c } else words
          | none => words
        let evs := if done then
            [{ source := BitVec.ofNat 16 (0x0500 + n), code := 0x0501#16, p0 := word n, p1 := words.candKp, p2 := words.candTi, p3 := words.candTd }]
          else []
        { block := n, evaluated := true, competes := true, relay := true, words := words
          hidden := { hid with tune := if running then some t else none, inj := inj, entry := !running }
          abort := cause, events := evs, inj := injV, sampled := inj.isSome }
      | none =>
        if auto then
          let iPrev := w.i
          -- R210: a region change makes the old P and D terms equal the new ones
          let iPrev := if par.change then
              let pOld := realMul w.kpAct (realSub (realMul bW r) y)
              let dOld := if fresh then 0#32 else derivative w.kpAct w.tdAct nf h w.d ed w.edPrev
              realAdd iPrev (realSub (realAdd pOld dOld) (realAdd p d))
            else iPrev
          -- R214: a group member enters from the group output
          let grouped := bitAt link 17
          let rec0 := (dl.groups.get (0, 0) (link.bits 13 9)).1
          let baseU := if bitAt (memWord s.mem (rec0 + 8)) 3 then s.realAt (rec0 + 12) else w.u
          let iPrev := if entry && grouped then presetI baseU p d ff bias else iPrev
          let uPrev := if entry && grouped then baseU else w.u
          let ki := if realEq par.ti 0#32 then 0#32 else realDiv (realMul par.kp h) par.ti
          let iTry := realAdd iPrev (realMul ki e)
          let u1 := atU (sumTerms p iTry d ff bias)
          let (l1, rl1) := loopLimit s n h uPrev u1
          let up := realLt l1 u1 || extHi
          let dn := realLt u1 l1 || extLo
          let sg := realSign par.kp * realSign e
          let inh := (up && sg > 0) || (dn && sg < 0)
          -- R199: the clamp of the setpoint counts as held
          let upS := up || (bitAt link 28 && realLt spHi src)
          let dnS := dn || (bitAt link 28 && realLt src spLo)
          let kpUp := realLt 0#32 par.kp
          let kpDn := realLt par.kp 0#32
          let i := if inh then iPrev else iTry
          let u2 := if inh then atU (sumTerms p iPrev d ff bias) else u1
          let (l2, rl2) := if inh then loopLimit s n h uPrev u2 else (l1, rl1)
          { block := n, evaluated := true, competes := true, relay := false
            words := { base with i := i, uUnc := u2, u := l2
                                 status := flags u2 rl2 inh ((upS && kpUp) || (dnS && kpDn)) ((dnS && kpUp) || (upS && kpDn)) ramping st }
            hidden := { hid with inj := inj, entry := false }, abort := early, events := evs, inj := injV, sampled := inj.isSome }
        else
          let uUnc := atU source
          let (u, rl) := loopLimit s n h w.u uUnc
          { block := n, evaluated := true, competes := false, relay := false
            words := { base with i := presetI u p d ff bias, uUnc := uUnc, u := u, status := flags uUnc rl false false false false st }
            hidden := { hid with inj := inj, entry := if track then hid.entry else false }, abort := early, events := evs, inj := injV, sampled := inj.isSome }

/-! ### The group step (R213) -/

/-- MEMBER of block b. -/
def memberIndex (s : Snap) (b : Nat) : Nat := (s.loop b 0x08).bits 16 14

/-- The winner among competing members: the least u, on equal u the lowest MEMBER index (R213). -/
def groupWinner (s : Snap) (cs : List LoopResult) : Option LoopResult :=
  cs.foldl (init := none) fun best c =>
    match best with
    | none => some c
    | some b =>
      if realLt c.words.u b.words.u || (realEq c.words.u b.words.u && memberIndex s c.block < memberIndex s b.block) then some c else some b

/-- A member after the group step: a loser is preset to the group output, and a tuning run that lost is aborted, without a candidate where it converged in that
evaluation (R213, R222, R223); a lower abort code of the evaluation stands. -/
def settleMember (s : Snap) (win : LoopResult) (r : LoopResult) : LoopResult :=
  if !r.competes ∨ r.block = win.block then r
  else
    let bias := s.loopReal r.block 0x3C
    let w := r.words
    let kp := w.kpAct
    let lost := r.relay && (r.abort == none || r.abort == some 12)
    let o := s.loopWords r.block
    let w := { w with i := presetI win.words.u w.p w.d w.ff bias, u := win.words.u
                      status := putBits w.status [(15, true), (11, false), (12, bitAt w.status 12 || realLt 0#32 kp), (13, bitAt w.status 13 || realLt kp 0#32)] }
    if lost then
      { r with words := { w with tune := tuneWord 11 (w.tune.bits 15 8) 4, status := putBit w.status 16 false, candKp := o.candKp, candTi := o.candTi, candTd := o.candTd }
               hidden := { r.hidden with tune := none, entry := true }, abort := some 11, events := r.events.filter fun e => e.code != 0x0501#16 }
    else { r with words := w }

/-- The group step of group g once its highest member is done (R213). `ran` are this stroke's results, `hold` whether the module is in
HOLD. -/
def groupStep (s : Snap) (dl : LoopDecls) (hold : Bool) (g : Nat) (ran : List LoopResult) : List LoopResult × GroupResult :=
  let ms := groupMembers s dl g
  let mine := ran.filter fun r => ms.contains r.block
  let cs := mine.filter fun r => r.evaluated && r.competes
  let rec0 := (dl.groups.get (0, 0) g).1
  let old := memWord s.mem (rec0 + 8)
  let oldU := s.realAt (rec0 + 12)
  let sw := memWord s.mem (rec0 + 16)
  let mask (p : LoopResult → Bool) : Nat := (mine.filter p).foldl (init := 0) fun m r => m + 2 ^ memberIndex s r.block
  let autoMask := mask fun r => r.evaluated && r.competes
  let manMask := mask fun r => r.evaluated && !r.competes
  let st (source : Nat) (valid : Bool) (winner : Nat) : Word :=
    word (manMask * 65536 + autoMask * 256 + source * 16 + boolNat valid * 8 + winner)
  match groupWinner s cs with
  | some win =>
    let wi := memberIndex s win.block
    let switched := old.bits 5 4 == 1 && wi != old.bits 2 0
    (ran.map fun r => if ms.contains r.block then settleMember s win r else r,
      { group := g, status := st 1 true wi, u := win.words.u, switches := if switched then sw + 1#32 else sw, driven := true })
  | none =>
    let enabled := ms.filter fun b => bitAt (s.loop b 0x00) 0
    if !enabled.isEmpty && enabled.all fun b => mine.any fun r => r.block == b && r.evaluated then
      let gu := realMin (realMax (s.realAt rec0) realNeg1e9) real1e9
      let rmax := realClamp 0#32 real1e9 (s.realAt (rec0 + 4))
      let gu := if realLt 0#32 rmax && bitAt old 3 then
          let step := realMul rmax (s.loopReal (ms.headD 0) 0x90)
          realMin (realMax gu (realSub oldU step)) (realAdd oldU step)
        else gu
      (ran, { group := g, status := st 2 true (old.bits 2 0), u := gu, switches := sw, driven := true })
    else if hold && mine.all fun r => !r.evaluated && bitAt r.words.status 18 then
      (ran, { group := g, status := old &&& ~~~ 0x30#32, u := oldU, switches := sw, driven := false })
    else
      (ran, { group := g, status := st 0 (bitAt old 3) (old.bits 2 0), u := oldU, switches := sw, driven := false })

/-! ### The engine over a stroke (R189, R192) -/

/-- Whether loop n is due in the snapshot's stroke (R189). -/
def loopDue (s : Snap) (n : Nat) : Bool :=
  let per := s.loop n 0x04
  let kl := per.bits 15 0
  kl != 0 && (s.stroke.toNat + kl - per.bits 31 16 % kl) % kl == 0

/-- A due loop that is not evaluated: disabled (which ends its runs), frozen, or barred at a boundary abort (R189, R191, R222, R228). -/
def skipLoop (s : Snap) (hid : LoopHidden) (n : Nat) (frozen : Bool) : LoopResult :=
  let w := s.loopWords n
  let st := putBits w.status [(19, true), (18, frozen)]
  if frozen then statusOnly n { w with status := st } hid none []
  else
    let tuned := hid.tune.isSome
    let w := if tuned then { w with tune := tuneWord 5 (w.tune.bits 15 8) 4 } else w
    let injected := hid.inj.isSome
    let w := if injected then { w with injStat := (w.injStat &&& ~~~ 3#32) ||| 3#32 } else w
    let st := putBits st [(16, false), (17, false)]
    let evs := if injected then
        [{ source := BitVec.ofNat 16 (0x0500 + n), code := 0x0504#16, p0 := word n, p1 := word 3, p2 := word (w.injStat.bits 31 16) : Event }] else []
    statusOnly n { w with status := st } { hid with sawDisabled := true, tune := none, inj := none } (if tuned then some 5 else none) evs

/-- Injection bookkeeping of an evaluated loop: INJ_STATUS, and the end of a run at 4096 samples (R228). -/
def finishInjection (n : Nat) (r : LoopResult) : LoopResult :=
  if r.sampled then
    let c := r.words.injStat.bits 31 16 + 1
    let full := c ≥ 4096
    let w := { r.words with injStat := word (c * 65536 + if full then 2 else 1), status := putBit r.words.status 17 (!full) }
    let ev : Event := { source := BitVec.ofNat 16 (0x0500 + n), code := 0x0504#16, p0 := word n, p1 := word 2, p2 := word c }
    { r with words := w, hidden := if full then { r.hidden with inj := none } else r.hidden, events := if full then r.events ++ [ev] else r.events }
  else r

/-- The event TUNE_ABORTED of a run that ended with an abort code: block, code, CYCLES (R222). -/
def finishAbort (n : Nat) (r : LoopResult) : LoopResult :=
  match r.abort with
  | some c =>
    { r with events := r.events ++ [{ source := BitVec.ofNat 16 (0x0500 + n), code := 0x0502#16, p0 := word n, p1 := word c, p2 := word (r.words.tune.bits 15 8) }] }
  | none => r

/-- The loop engine over the due loops of a stroke, in ascending block number (R189). `barred` are loops not evaluated because of a
boundary abort. `mode` is the module's mode: only RUN (3) and HOLD (4) evaluate. -/
def loopStroke (s : Snap) (dl : LoopDecls) (hids : Tab LoopHidden) (mode : Nat) (barred : List Nat) : LoopStroke :=
  if mode ≠ 3 ∧ mode ≠ 4 then { results := [], groups := [] }
  else
    let r := dl.blocks.foldl (init := ({ results := [], groups := [] } : LoopStroke)) fun acc n =>
      if loopDue s n then
        let hid := hids.get LoopHidden.none n
        let cfg := s.loop n 0x00
        let res := if !bitAt cfg 0 then skipLoop s hid n false
          else if (mode = 4 && bitAt cfg 2) then skipLoop s hid n true
          else if barred.contains n then { skipLoop s hid n true with words := { s.loopWords n with status := putBit (s.loop n 0xA0) 19 true } }
          else evalLoop s dl acc.results hid n
        let acc := { acc with results := acc.results ++ [res] }
        let link := s.loop n 0x08
        let g := link.bits 13 9
        if bitAt link 17 && ((groupMembers s dl g).getLast? == some n) then
          let (rs, gr) := groupStep s dl (mode = 4) g acc.results
          { results := rs, groups := acc.groups ++ [gr] }
        else acc
      else acc
    { r with results := r.results.map fun x => finishAbort x.block (finishInjection x.block x) }

/-! ### What the commit writes -/

/-- The words that a result writes to its block, as (address, value) (R101, R192): every state word of an evaluation, the run words
where they changed; of a loop not evaluated, those that changed. -/
def resultWrites (s : Snap) (r : LoopResult) : List (Nat × Word) :=
  let n := r.block
  let w := r.words
  let o := s.loopWords n
  let changed := [(0xE0, w.candKp, o.candKp), (0xE4, w.candTi, o.candTi), (0xE8, w.candTd, o.candTd), (0xEC, w.tune, o.tune), (0xF8, w.injStat, o.injStat)]
  let runs := (changed.filter fun c => c.2.1 != c.2.2).map fun c => (loopAddr n c.1, c.2.1)
  if r.evaluated then
    [(loopAddr n 0x80, w.kpAct), (loopAddr n 0x84, w.tiAct), (loopAddr n 0x88, w.tdAct), (loopAddr n 0x8C, w.kffAct), (loopAddr n 0x90, s.loop n 0x90),
     (loopAddr n 0x94, w.sched),
     (loopAddr n 0x98, w.vff), (loopAddr n 0xA0, w.status), (loopAddr n 0xA4, w.rEff), (loopAddr n 0xA8, w.y), (loopAddr n 0xAC, w.e), (loopAddr n 0xB0, w.p),
     (loopAddr n 0xB4, w.i), (loopAddr n 0xB8, w.d), (loopAddr n 0xBC, w.edPrev), (loopAddr n 0xC0, w.ff), (loopAddr n 0xC4, w.uUnc), (loopAddr n 0xC8, w.u),
     (loopAddr n 0xCC, w.evals)] ++ runs
  else (if w.status = o.status then [] else [(loopAddr n 0xA0, w.status)]) ++ runs

/-- The output a result writes to its own destination (R185). -/
def outputWrites (s : Snap) (r : LoopResult) : List (Nat × Word) :=
  if r.evaluated && bitAt (s.loop r.block 0x08) 31 then [((s.loop r.block 0x14).toNat, r.words.u)] else []

/-- The words that a group step writes (R212, R213). -/
def groupWrites (dl : LoopDecls) (g : GroupResult) : List (Nat × Word) :=
  let (rec0, dest) := dl.groups.get (0, 0) g.group
  [(rec0 + 8, g.status)] ++ (if g.driven then [(rec0 + 12, g.u)] else []) ++ [(rec0 + 16, g.switches)] ++
    (if g.driven then [(dest, g.u)] else [])

/-- Every write of the loop engine in a stroke, in ascending block number, then the groups. -/
def loopWrites (s : Snap) (dl : LoopDecls) (l : LoopStroke) : List (Nat × Word) :=
  l.results.flatMap (fun r => resultWrites s r ++ outputWrites s r) ++ l.groups.flatMap (groupWrites dl)

end Sys2Proof.Machine
end

