-- ==== Sys2Proof/Machine/Ops.lean ====
section
/-! DEFINITION. Shared operations of the module: time and the wall clock, events and the recorder (R378 to R386, R435), roles and the
bucket (R335 to R344), RESET and the saves (R53, R75, R174 to R178), fail-stop (R362), domain restarts (R57, R58, R363), and what every
command ends with: the registers that show other state brought up to date. -/

namespace Sys2Proof.Machine

/-! ### Small helpers -/

/-- An event from numbers. -/
def ev (source code : Nat) (p0 p1 p2 p3 : Nat := 0) : Event :=
  { source := BitVec.ofNat 16 source, code := BitVec.ofNat 16 code, p0 := word p0, p1 := word p1, p2 := word p2, p3 := word p3 }

/-- A list with a member, once. -/
def addOnce (l : List Nat) (n : Nat) : List Nat := if l.contains n then l else n :: l

/-- `f` applied to every number below `n`, in rising order. -/
def foldNat {α : Type} (n : Nat) (s : α) (f : α → Nat → α) : α := (List.range n).foldl f s

/-- A 64-bit register pair set. -/
def M.set64 (s : M) (lo hi : Nat) (v : DWord) : M := { s with fields := setField64 s.fields lo hi v }

/-! ### Time (R327, R328) -/

/-- The module's wall clock: ns since 1970 TAI (R327, R379). -/
def M.wall (s : M) : DWord := BitVec.ofInt 64 (s.aon.now + s.aon.wallOff)

/-- WALL_LO and WALL_HI show the clock. -/
def M.showWall (s : M) : M := s.set64 F.wallLo F.wallHi s.wall

/-- The timebase has reached `now`; it never goes back. -/
def M.at (s : M) (now : Nat) : M := { s with aon := { s.aon with now := max s.aon.now now } }.showWall

/-! ### Events (R378 to R386, R435) -/

/-- KIND of an event raised now: class, hardware, holder, role (R379, R392); an application event has class F0 (R390). -/
def M.kindOf (s : M) (code : Half) : Nat :=
  let c := code.toNat
  (if c ≥ 0x8000 then 0 else c / 0x2000 + 4 * (c / 0x1000 % 2)) + 8 * boolNat s.holds + 16 * s.role

/-- An event with its stroke and wall clock put into the queue: the recorder's, or AON's while MEM is off (R385, R435). -/
def M.enqueue (s : M) (e : Event) (stroke wall : DWord) : M :=
  let x : LogEntry := { event := e, stroke := stroke, wall := wall, qual := s.nat F.wallQualQuality, kind := s.kindOf e.code }
  if !s.domainOn 1 then
    if s.aon.queue.length < 16 then { s with aon := { s.aon with queue := s.aon.queue ++ [x] } }
    else { s with aon := { s.aon with lost := s.aon.lost + 1 } }
  else if s.log.queue.length < 1024 then
    let s := { s with log := { s.log with queue := s.log.queue ++ [x] } }
    s.setN F.logQueuePeak (max (s.nat F.logQueuePeak) s.log.queue.length)
  else s.bump F.logLost 4294967295 1

/-- An event raised, without a look at the health items. -/
def M.note (s : M) (e : Event) : M := s.enqueue e s.stroke s.wall

/-- A hardware event at its detection (R381): queued, and every health item brought up to date with it as the cause (R369). -/
def M.hw (s : M) (e : Event) : M :=
  let c := e.source.setWidth 32 <<< 16 ||| e.code.setWidth 32
  let s := s.note e
  { s with hlt := { s.hlt with cause := some c } }.refreshItems c

/-- A stroke event of the stroke in progress, held for the commit that ends it (R106). -/
def M.strokeEvent (s : M) (e : Event) : M :=
  { s with run := { s.run with pend := { s.run.pend with effects := s.run.pend.effects ++ [(e.source, .event e)] } } }

/-! ### The recorder (R380 to R386) -/

/-- The open record closed (R384). -/
def M.closeRecord (s : M) : M :=
  match s.log.opened with
  | none => s
  | some r => { s with log := { s.log with records := s.log.records ++ [r], opened := none } }

/-- A record of an entry, with the next SEQ. -/
def M.recordOf (s : M) (x : LogEntry) : LogRec :=
  { seq := s.reg F.logNextSeq, event := x.event, first := x.stroke, last := x.stroke, wall := x.wall, qual := x.qual, kind := x.kind, repeats := 0
    bad := false }

/-- Whether an event merges into the open record (R383). -/
def mergesInto (x : LogEntry) (r : LogRec) : Bool :=
  r.event == x.event && r.kind % 8 == x.kind % 8 && decide (r.repeats < 65535)

/-- The last free place taken by LOG_FULL (R386). -/
def M.fillLog (s : M) (x : LogEntry) : M :=
  let full : LogEntry := { event := ev 0x0001 0x1001, stroke := x.stroke, wall := x.wall, qual := x.qual, kind := s.kindOf 0x1001#16 }
  let r := s.recordOf full
  let s := { s with log := { s.log with records := s.log.records ++ [r] } }
  let s := (s.setN F.logNextSeq (s.nat F.logNextSeq + 1)).setB F.logStatFull true
  (s.bump F.logLost 4294967295 1).refreshItem 0x00011001#32 9

/-- An entry written by the recorder: merged, or a new record, or only counted in a full log (R383, R386). -/
def M.writeEntry (s : M) (x : LogEntry) : M :=
  if s.on F.logStatFull then s.bump F.logLost 4294967295 1
  else
    match s.log.opened.filter (mergesInto x) with
    | some r => { s with log := { s.log with opened := some { r with repeats := r.repeats + 1, last := x.stroke } } }
    | none =>
      let s := s.closeRecord
      if s.log.records.length ≥ 65535 then s.fillLog x
      else
        let r := s.recordOf x
        { s with log := { s.log with opened := some r } }.setN F.logNextSeq (s.nat F.logNextSeq + 1)

/-- The queue's oldest entry written (R385). -/
def M.drain (s : M) : M :=
  match s.log.queue with
  | [] => s
  | x :: r => { s with log := { s.log with queue := r } }.writeEntry x

/-- What stands for a place that fails its check (R387). -/
def badRecord (seq : Word) : LogRec :=
  { seq := seq, event := ev 0x0001 0x1003, first := 0, last := 0, wall := 0, qual := 0, kind := 0, repeats := 0, bad := true }

/-- Everything queued written, and the open record closed, before MEM is switched off (R384). -/
def M.closeLog (s : M) : M := (s.log.queue.foldl (init := { s with log := { s.log with queue := [] } }) M.writeEntry).closeRecord

/-! ### Outputs of the model -/

/-- Something leaves the module. -/
def M.emit (s : M) (o : Out) : M := { s with out := s.out ++ [o] }

/-- Something leaves over the rope in a number of frames, and the sender's frame counter goes on (R339). -/
def M.ropeOut (s : M) (o : Out) (n : Nat := 1) : M := { s.emit o with red := { s.red with seq := (s.red.seq + n) % 4294967296 } }

/-! ### Roles and the bucket (R335 to R344) -/

/-- Whether a partner is in step (R66): LEAD with a partner in SHADOW whose join is complete (R355), or SHADOW. HOLD exists only in LONE (R68). -/
def M.inStep (s : M) : Bool := (s.role == 1 && s.nat F.redStatusPartnerRole == 2 && !s.red.joining) || s.role == 2

/-- The CAN ports' listen-only state (R293). -/
def M.showListen (s : M) : M :=
  foldNat 2 s fun s p => s.setB (F.canStatListenActive p) (s.on (F.canCtrlListenOnly p) || !s.holds || s.mode == 5 || s.mode == 1)

/-- BUCKET_n released and the field output enables cut in one action, loop supplies and all (R44, R344); `keep` leaves the enables to a safe
driver (R336). CAN_TX_PEND shows nothing from then on (R292); the frames pending go at the next commit, but for one on the bus (R297). -/
def M.release (s : M) (keep : Bool) : M :=
  let had := s.holds
  let s := if keep then s else { s with aio := s.aio.map fun (e : Nat × AioChan) => (e.1, { e.2 with supplyOn := false }) }
  let s := (s.setB F.redStatusHolder false).setB F.idStrapsBucketLine (s.on F.idStrapsBucketLine && !had)
  let s := { s with aon := { s.aon with enables := keep && s.aon.enables }, red := { s.red with leaseLoaded := false } }.showListen
  if keep then s else foldNat 2 s fun s p => s.setN (F.canTxPend p) 0

/-- LEASE_TIME in strokes (R343). -/
def M.leaseStrokes (s : M) : Nat :=
  let tb := max 1 (s.nat F.stkPeriodTbUs)
  min 64 (min (100000 / tb) (max (s.cfg F.redCfgLeaseStrokes).toNat (max 2 ((300 + tb - 1) / tb))))

/-- RED_LEASE as a renewal makes it, in both modules of a pair (R343). -/
def M.showLease (s : M) : M :=
  let us := s.leaseStrokes * s.nat F.stkPeriodTbUs
  (s.setN F.redLeaseLease10us (us / 10)).setN F.redLeaseGuard10us ((us + 100) / 10)

/-- The lease timer loaded (R344). -/
def M.loadLease (s : M) : M := { s.showLease with red := { s.showLease.red with leaseLoaded := true } }

/-- The bucket taken: the line is pulled and the lease loaded (R344, R347). -/
def M.take (s : M) : M :=
  let s := ((s.setB F.redStatusHolder true).setB F.idStrapsBucketLine true).loadLease
  { s with red := { s.red with guarding := false, armedTill := false, wantBucket := 0 }, hlt := { s.hlt with leaseEver := true } }

/-- ARMED set or cleared (R348); a guard measurement runs from the start of the window where the line then reads released. -/
def M.arm (s : M) (b : Bool) : M :=
  let s := s.setB F.redStatusArmed b
  { s with red := { s.red with armedTill := b, guarding := b && !s.on F.idStrapsBucketLine } }

/-! ### Saves (R53, R75, R174 to R178) -/

/-- The number of the last committed stroke (R53, R107). -/
def M.lastCommitted (s : M) : DWord := s.run.committed

/-- The retained bytes: the cistern without its last 256 bytes (R177). -/
def retainedCells (m : List Host.Cell) : List Host.Cell := m.filter fun c => decide (0x00E00000 ≤ c.1) && decide (c.1 < 0x00FFFF00)

/-- The ACTIVE image slot, if any. -/
def M.activeSlot (s : M) : Option Nat :=
  if s.on (F.idImgSlotActive 0) then some 0 else if s.on (F.idImgSlotActive 1) then some 1 else none

/-- The first `n` bytes of a slot. -/
def ImgSlot.prefixBytes (g : ImgSlot) (n : Nat) : List Byte := (List.range n).map fun i => g.bytes.get 0#8 i

/-- The image identity of a slot: SHA-256 over header bytes 0x000 to 0x0BF (R109). -/
def M.identityOf (s : M) (slot : Nat) : List Byte := Config.sha256 ((s.store.slots.get ImgSlot.empty slot).prefixBytes 0xC0)

/-- The identity of the running image. -/
def M.activeIdentity (s : M) : List Byte :=
  match s.activeSlot with
  | some n => s.identityOf n
  | none => []

/-- The newer valid area (R178). -/
def Saves.newer (v : Saves) : Option Nat :=
  let a := v.areas.get Area.empty 0
  let b := v.areas.get Area.empty 1
  if a.valid && b.valid then (if a.seq ≥ b.seq then some 0 else some 1)
  else if a.valid then some 0 else if b.valid then some 1 else none

/-- The area a save writes: the older or an invalid one; area 0 if both are invalid (R178). -/
def Saves.target (v : Saves) : Nat :=
  match v.newer with
  | some 0 => 1
  | _ => 0

/-- What a save holds (R174, R177): the retained state as it stood at the last commit. In a STOP with a start fault no commit has been made since the
last save, and the retained state is what the newer area holds (DEDUCED, log entry 17). -/
def M.saveContent (s : M) (kind : Nat) : Area :=
  let c := s.run.last.getD { mode := s.nat F.modPrevPrevMode, cells := retainedCells s.mem, identity := s.activeIdentity }
  let now : Area := {
    cells := c.cells, kind := kind, seq := s.saves.seq + 1, stroke := s.lastCommitted, prevMode := c.mode, identity := c.identity
    magic := 0x54534943, format := 1, crcOk := true }
  match s.ctl.primed, s.saves.newer with
  | false, some n => { s.saves.areas.get Area.empty n with kind := kind, seq := s.saves.seq + 1 }
  | _, _ => now

/-- The byte of a save area at an offset, but for its check value (R177): the copy of the cistern, then the header in its last 256 bytes. -/
def Area.byteAt (a : Area) (i : Nat) : Byte :=
  let part (base v : Nat) : Byte := BitVec.ofNat 8 (v / 256 ^ (i - base))
  if i < 0x1FFF00 then memByte a.cells (0x00E00000 + i)
  else if i < 0x1FFF04 then part 0x1FFF00 a.magic.toNat
  else if i < 0x1FFF06 then part 0x1FFF04 a.format
  else if i < 0x1FFF08 then part 0x1FFF06 a.kind
  else if i < 0x1FFF10 then part 0x1FFF08 a.seq
  else if i < 0x1FFF18 then part 0x1FFF10 a.stroke.toNat
  else if i < 0x1FFF1C then part 0x1FFF18 a.prevMode
  else if i < 0x1FFF20 then 0#8
  else if i < 0x1FFF40 then a.identity.getD (i - 0x1FFF20) 0#8
  else 0#8

/-- The check value at offset 0x1F_FFFC of an area whose CRC matches: CRC-32C over everything before it (R177). -/
def Area.checkValue (a : Area) : Word := word (crcOf .crc32c ((List.range 0x1FFFFC).map a.byteAt))

/-- The registers that show the save areas (R182). DESIGN CHOICE (log entry 76): with neither area valid NEWER_AREA keeps its last value and MEM_SAVE_SEQ reads
0; the spec gives 0 for the STROKE fields alone. -/
def M.showSaves (s : M) : M :=
  let v (n : Nat) := s.saves.areas.get Area.empty n
  let s := ((s.setB F.memCkptStatusInProgress s.saves.running.isSome).setB F.memCkptStatusArea0Valid (v 0).valid).setB F.memCkptStatusArea1Valid (v 1).valid
  match s.saves.newer with
  | some n => ((s.setN F.memCkptStatusNewerArea n).set64 F.memCkptStrokeLo F.memCkptStrokeHi (v n).stroke).set F.memSaveSeq (word (v n).seq)
  | none => (s.set64 F.memCkptStrokeLo F.memCkptStrokeHi 0).set F.memSaveSeq 0

/-- A save begun: its area is invalid until it completes (R178); one that takes over from a checkpoint writes the same area (R54). With the save of a
power loss or a reset AON stores the number of the last committed stroke (R53, R179); where no stroke has been committed since the priming it keeps the one
it has. DESIGN CHOICE (log entry 75): a save uses up its SAVE_SEQ when it begins, also where it is abandoned before it completes. -/
def M.beginSave (s : M) (kind : Nat) : M :=
  let n := match s.saves.running with
    | some (n, _) => n
    | none => s.saves.target
  let c := s.saveContent kind
  let a := { s.saves.areas.get Area.empty n with crcOk := false }
  { s with aon := { s.aon with lastStroke := if kind = 1 ∨ !s.ctl.primed then s.aon.lastStroke else c.stroke }
           saves := { s.saves with areas := s.saves.areas.set Area.empty n a, running := some (n, c), seq := s.saves.seq + 1 } }.showSaves

/-- The save in progress completes (R53, R175). -/
def M.endSave (s : M) : M :=
  match s.saves.running with
  | none => s
  | some (n, c) => { s with saves := { s.saves with areas := s.saves.areas.set Area.empty n c, running := none, failed := false } }.showSaves

/-- The older of the two copies of the wellhead calibration record written, so that they are written alternately (R180). -/
def Store.writeCal (v : Store) : Store :=
  let a := v.cal.get 0 0
  let b := v.cal.get 0 1
  { v with cal := v.cal.set 0 (if a ≤ b then 0 else 1) (max a b + 1) }

/-- A save abandoned: its area stays invalid (R372). -/
def M.dropSave (s : M) : M := { s with saves := { s.saves with running := none, waiting := false, asked := false } }.showSaves

/-! ### Downloads that break off (R126, R407) -/

/-- A slot whose download broke off while it was LOADING: REFUSED with verdict FORMAT, which is no refusal by the verifier and writes no event. -/
def M.breakSlot (s : M) (state verdict : Nat) : M := if s.nat state = 1 then (s.setN state 4).setN verdict 2 else s

/-- Downloads of sessions that close break off; with `all` every download does, one over the rope among them. -/
def M.breakLoads (s : M) (all : Bool) (closed : Nat → Bool) : M :=
  let image := all || s.store.imageFrom.any closed
  let fw := all || s.store.fwFrom.any closed
  let s := foldNat 2 s fun s n =>
    let s := if image then s.breakSlot (F.idImgSlotState n) (F.idImgSlotVerdict n) else s
    if fw then s.breakSlot (F.secFwSlotState n) (F.secFwSlotVerdict n) else s
  { s with store := { s.store with imageFrom := if image then none else s.store.imageFrom, fwFrom := if fw then none else s.store.fwFrom } }

/-! ### Sources of time -/

/-- The lock source of the timebase is lost (R83): HOLDOVER, with the last frequency adjustment. -/
def M.loseLock (s : M) (src : Nat) : M :=
  if s.nat F.stkTimebaseLockSrc = src ∧ src ≠ 0 ∧ s.role ≠ 2 ∧ s.role ≠ 3 then s.setN F.stkTimebaseLockState 3 else s

/-- Synchronisation to PTP lost (R326, R327): the quality falls to HOLDOVER, and a timebase locked to PTP has lost its source. -/
def M.loseSync (s : M) : M :=
  let s := { s with net := { s.net with inBand := none } }
  if s.on F.ptpStatSynced then
    let s := s.setB F.ptpStatSynced false
    (if s.nat F.wallQualQuality = 4 then s.setN F.wallQualQuality 3 else s).loseLock 1
  else s

/-! ### RESET -/

/-- Everything that a module in RESET does not keep: the domains of the field and the network off, work and data gone. AON, MEM, ENG and LOOP are still
powered, the engines halted (R30, R53); without P3, synchronisation to PTP is lost (R327). -/
def M.powerOff (s : M) : M :=
  let s := (((s.set F.pwrDomainOn 0xF#32).setN F.pwrDomainRestarting 0).setN F.redStatusLanes 0).setN F.redStatusRope 0
  let s := (((s.setB F.engStatUsbAttached false).setB F.netP3StatLink false).breakLoads true fun _ => true).loseSync
  let s := { s with
    mem := [], run := Run.start, ctl := { Ctl.start with cold := s.ctl.cold }, dw := Dw.start, aio := [], aw := [], hart := [], hartQ := [], can := []
    fifos := [], boxes := [], ring := Ring.start, fy := Fy.empty, store := { s.store with change := none, forwarding := none }
    net := { Net.start with locked := s.net.locked, failures := s.net.failures, vbus := s.net.vbus }
    red := { s.red with leaseLoaded := false, guarding := false, release := false, roleEvent := 0, roleAsked := false, taker := false, skipped := 0
                        selfOwn := none, selfPartner := none, mismatch := none, joinAsked := false, joining := false, dirty := [], unsent := 0
                        gap := false, ask := false, refusal := 0, catchup := none, tickMiss := 0, safeRuns := [], wantBucket := 0, lost := true
                        restartAsked := none, seq := 0, records := [], flight := [], lastAck := none, ack := 0, answered := false, answer := 0 } }
  s

/-- The module halts on its way to RESET (R53, R62, R75): nothing executes or commits, the bucket is released, and of the domains only MEM works on, for a
save and the recorder. PREV_MODE is the mode of the last commit (R82), where there has been one since the priming. -/
def M.halt (s : M) : M :=
  let s := match s.run.last with
    | some c => s.setN F.modPrevPrevMode c.mode
    | none => s
  let s := ((s.release false).setB F.redStatusSafeDriver false).arm false
  let s := (s.setN F.modStatusMode 0).setB F.hltSummaryHealthy false
  { s with aon := { s.aon with readyAt := none }, hlt := { s.hlt with retriedStart := false } }.powerOff

/-- The rest of RESET: the recorder closed, and only AON powered from then on (R53 step 4, R384). -/
def M.rest (s : M) : M := s.closeLog.set F.pwrDomainOn 1#32

/-- RESET entered without a save (R62). -/
def M.intoReset (s : M) : M := s.halt.rest

/-- RESET with a reset save (R75), made from STOP, RUN, HOLD and SAFE: it holds the retained state of the last commit; MEM writes it, and only with SAVE_DONE is the
module in RESET with AON alone. -/
def M.resetSave (s : M) : M :=
  if s.mode ≥ 2 then
    let s := s.beginSave 3
    { s with aon := { s.aon with saving := 1 } }.halt
  else s.intoReset

/-- RESET without a save, to prime again after 100 ms (R80, R362). -/
def M.waitInReset (s : M) : M :=
  let s := s.dropSave.intoReset
  { s with aon := { s.aon with waiting := true } }

/-! ### Role changes -/

/-- Whether a wish for the bucket outlives a change to a role: the take of an armed module does; row 7 of R347 is for LONE, the others for LONE and
DETACHED. -/
def keepsWish (row new : Nat) : Bool := row == 5 || new == 0 || (new == 4 && row != 7)

/-- The event and registers of a role change (R337), with the number of skipped strokes in the fourth parameter (R349); an announced role event
and a handover under way end with it, outside a pair the partner's SAFE inputs count no more, and a wish for the bucket ends in a role without that row of R347. -/
def M.roleChange (s : M) (new cause skipped : Nat) : M :=
  let old := s.role
  let s := { s with red := { s.red with roleEvent := 0, roleAsked := false, taker := false, release := false
                                        digestSafe := if new = 1 ∨ new = 2 then s.red.digestSafe else 0
                                        wantBucket := if keepsWish s.red.wantBucket new then s.red.wantBucket else 0 } }
  ((s.setN F.redStatusRole new).setN F.redStatusLastCause cause).hw (ev 0x0050 0x1060 old new cause skipped)

/-! ### Domain restarts (R57, R58, R363) -/

/-- The domain of a restart target: 1 NET, 2 ROPE, 3 DW, 4 AW0, 5 AW1. -/
def targetDomain (t : Nat) : Nat := t + 3

/-- Whether a RESTARTING field names a target. -/
def restartBit (w : Word) (t : Nat) : Bool := w.toNat / 2 ^ (t - 1) % 2 == 1

/-- Whether a restart of the target is in progress. -/
def M.restarting (s : M) (t : Nat) : Bool := restartBit (s.reg F.pwrDomainRestarting) t

/-- RESTARTING of a target. -/
def M.setRestarting (s : M) (t : Nat) (b : Bool) : M :=
  let w := s.reg F.pwrDomainRestarting
  s.set F.pwrDomainRestarting (if b then w ||| (1#32 <<< (t - 1)) else w &&& ~~~ (1#32 <<< (t - 1)))

/-- Whether a role and the settings permit a restart of the target (R57). -/
def M.repairable (s : M) (role t : Nat) : Bool :=
  t ≤ 2 || role == 2 || (if t = 3 then s.on F.pwrCtrlDwRepairable else if t = 4 then s.on F.pwrCtrlAw0Repairable else s.on F.pwrCtrlAw1Repairable)

/-- The status of a restart request (R58): the first that holds of WRONG_MODE, WRONG_ROLE, BUSY, and DISABLED for a target that the last priming left off. -/
def M.judgeRestart (s : M) (t : Nat) : Nat :=
  if s.mode < 2 then 1
  else if !s.repairable s.role t then 2
  else if s.restarting t || s.aon.saving != 0 then 3
  else if s.ctl.leftOff.contains t then 4
  else 0

/-- A single-bit error of data SRAM corrected, at byte address `addr` (R168). -/
def M.sramCorrected (s : M) (addr : Nat) : M :=
  let s := (s.bump F.memEccSramCorrected 65535 1).setN F.memEccLastWordAddr (addr / 8 % 2097152)
  let n := s.saves.passFixes + 1
  { s with saves := { s.saves with passFixes := n, passMany := s.saves.passMany || decide (n > 16) } }.hw (ev 0x0040 0x1050)

/-- The scrubber's pass over data SRAM ended (R170). -/
def M.endPass (s : M) : M :=
  let many := decide (s.saves.passFixes > 16)
  { s with saves := { s.saves with scrubAt := 0, passFixes := 0, passMany := many, scrubbed := true } }.wrap F.memScrub 32 1

/-- Single-bit errors of the memories corrected (R168, R171): data SRAM storage words, and so many of MRAM. -/
def M.corrected (s : M) (sram : List Nat) (mram : Nat) : M := (sram.foldl M.sramCorrected s).bump F.memEccMramCorrected 65535 mram

/-- Whether the running image declares a loop block. -/
def M.declared (s : M) (b : Nat) : Bool := s.body.loops.any fun l => l.block == b

/-- A HART result without a response. -/
def hartBlank (command : Nat) : HartFrame := { ok := false, uid := 0, command := command, respCode := Config.noResponse 0, devStatus := Config.noResponse 1, data := [] }

/-- The transaction of a channel completes with an outcome, once; it stays outstanding until its result is taken (R275, R276). -/
def M.hartDone (s : M) (n outcome : Nat) (f : HartFrame) : M :=
  let c := s.hart.get HartChan.start n
  match c.tx with
  | none => s
  | some t =>
    if t.done then s
    else
      let c := { c with tx := some { t with sent := false, done := true }, result := some (outcome, f) }
      { s with hart := s.hart.set HartChan.start n c, hartQ := s.hartQ ++ [(n, 0)] }

/-- A channel's attempt abandoned and its transaction completed with outcome 3 (R280). -/
def M.abortChan (s : M) (n : Nat) : M :=
  match (s.hart.get HartChan.start n).tx with
  | none => s
  | some t => s.hartDone n 3 (hartBlank t.command)

/-- HART transactions of a wellhead aborted with outcome 3, wellhead restart (R57, R280). -/
def M.abortHart (s : M) (w : Nat) : M := foldNat 8 s fun s i => s.abortChan (8 * w + i)

/-- HART of a wellhead off: no device, no identification, no pending burst frame. -/
def M.hartOff (s : M) (n : Nat) : M :=
  { s with hart := s.hart.upd HartChan.start n fun c => { c with identify := none } }.setN (F.hartStatDevice n) 0

/-- Sessions closed, with the status of what closed each in the trace; their requests that wait get no reply, and those not yet taken no effect
(R330, R332). -/
def M.dropSessions (s : M) (which : Session → Bool) (st : Nat) : M :=
  let gone := s.net.sessions.filter which
  let of (q : HostReq) : Bool := match q.req with
    | some r => gone.any fun x => x.id == r.sess
    | none => false
  let s := (gone.foldl (init := s) fun s x => s.emit (.closed x.id st)).breakLoads false fun id => gone.any fun x => x.id == id
  { s with net := { s.net with sessions := s.net.sessions.filter (fun x => !which x), queue := s.net.queue.filter (fun q => !of q) } }

/-- Every session closed. -/
def M.closeSessions (s : M) : M := s.dropSessions (fun _ => true) 0

/-- The sessions over P3 closed; the one over USB stays. -/
def M.closeTcp (s : M) : M := s.dropSessions (fun x => !x.usb) 0

/-- Stations in RUNNING, shown in RIO_STAT (R316). -/
def M.showRunning (s : M) : M :=
  s.setN F.rioStatRunning ((List.range 64).filter fun n => s.nat (F.rioStnStatState n) == 2).length

/-- A station's state: 0 not declared, 1 SEARCHING, 2 RUNNING, 3 MISMATCH, 4 CONFLICT (R305). -/
def M.setStn (s : M) (n st : Nat) : M :=
  let s := (s.setN (F.rioStnStatState n) st).showRunning
  s.body.modules.zipIdx.foldl (init := s) fun s m => if m.1.station = n then s.setB (F.rioModStatMismatch m.2) (st == 3) else s

/-- Whether the module sends ring frames: it drives the field, or it primes while no other module holds the bucket (R21, R305). -/
def M.ringSends (s : M) : Bool := s.drives || (s.mode == 1 && !s.on F.idStrapsBucketLine)

/-- The bytes of a number, the highest first: network byte order. -/
def bytesBE (n v : Nat) : List Byte := (bytesLE n v).reverse

/-- The module's own MAC address, which NET_MAC shows, its first octet highest. DEDUCED (log entry 91): the ring frames bear it as well, the spec naming no
other address of the module. -/
def M.ownMac (s : M) : Nat := s.nat F.netMacHi % 65536 * 4294967296 + s.nat F.netMacLo

/-- The CRC of a data record (R303): CRC-32C over CTRL_ADDR, STN_ADDR and the bytes of the record before it. -/
def recordCrc (ctrl stn : Nat) (body : List Byte) : Nat := crcOf .crc32c (BitVec.ofNat 8 ctrl :: BitVec.ofNat 8 stn :: body)

/-- The bytes of a data record before its CRC (R303). -/
def recordBody (slot : Nat) (subst fault : Bool) (version : Nat) (words : List Word) : List Byte :=
  [BitVec.ofNat 8 (slot + 64 * boolNat subst + 128 * boolNat fault), BitVec.ofNat 8 words.length, 0#8, 0#8] ++ bytesLE 4 version ++
    words.flatMap fun w => bytesLE 4 w.toNat

/-- A Wazar frame that the module originates (R301 to R303), before its FCS: type, SEQ, CTRL_ADDR, STN_ADDR, FLAGS, STN_VERSION, TIMEOUT_MS, FRAG, records. -/
def wazarFrame (mac type seq ctrl stn flags version timeoutMs frag : Nat) (recs : List (List Byte)) : List Byte :=
  let b := bytesBE 6 0x0357415A5200 ++ bytesBE 6 mac ++ bytesBE 2 0x88B5 ++ [BitVec.ofNat 8 (16 + type), 100#8] ++ bytesLE 2 seq ++
    [BitVec.ofNat 8 ctrl, BitVec.ofNat 8 stn] ++ bytesLE 2 flags ++ bytesLE 2 version ++ bytesLE 2 timeoutMs ++
    [BitVec.ofNat 8 frag, BitVec.ofNat 8 recs.length] ++ recs.flatten
  b ++ List.replicate (60 - b.length) 0#8

/-- The IDENT_REQ frame to a station (R302). -/
def M.identFrame (s : M) (n : Nat) : List Byte :=
  wazarFrame s.ownMac 3 s.ring.seq (s.nat F.idStrapsStationAddr) n (8 * boolNat (s.ring.stations.get Station.start n).needStart) 0
    (s.nat (F.rioStnCfgTimeoutMs n)) 0 []

/-- IDENT_REQ to a station (R305). -/
def M.identReq (s : M) (n : Nat) : M :=
  if s.domainOn 4 && s.ringSends then { s with ring := { s.ring with seq := (s.ring.seq + 1) % 65536 } }.emit (.wazar (s.identFrame n)) else s

/-- IDENT_REQ to every SEARCHING station. -/
def M.identAll (s : M) : M := foldNat 64 s fun s n => if s.nat (F.rioStnStatState n) = 1 then s.identReq n else s

/-- A NET loss of traffic, as a restart or a NET_FAULT causes it (R57, R365); no frame being seen any more, the ring is UNKNOWN (R312). -/
def M.netDown (s : M) : M :=
  let s := { s with
    fifos := [], boxes := [], can := []
    ring := { s.ring with mods := s.ring.mods.map (fun (e : Nat × RioMod) => (e.1, { e.2 with fresh := false }))
                          stations := s.ring.stations.map (fun (e : Nat × Station) => (e.1, { e.2 with needStart := true, startFrom := none, ackOk := false, claims := [] }))
                          heard := [], seen1 := [], seen2 := [], link1 := false, link2 := false }
    net := { s.net with conns := [], writes := [], inBand := none, delayAsked := false, twoStepOpen := false, ptpMaster := none, masters := [] } }
  let s := foldNat 64 s fun s n => if s.on (F.rioStnCfgPresent n) then s.setStn n 1 else s
  let s := s.setN F.rioStatRingState 0
  let s := foldNat 2 s fun s p =>
    let s := (((s.setN (F.canStatState p) 3).setN (F.canTxPend p) 0).setN (F.canFifoStatFifo0Count p) 0).setN (F.canFifoStatFifo1Count p) 0
    foldNat 4 s fun s j => s.setN (F.canMbNew p j) 0
  let s := s.closeTcp.setB F.netP3StatLink false
  (if s.on F.ptpCfgPtpEn then s.setN F.ptpStatPortState 4 else s).loseSync

/-- ENG_STAT.USB_ATTACHED: the service port attaches while VBUS is present and NET is powered (R333). -/
def M.showUsb (s : M) : M := s.setB F.engStatUsbAttached (s.net.vbus && s.mode != 0 && s.domainOn 4)

/-- NET is back (R297, R325): an enabled port integrates to the bus with its counters at 0, and PTP listens again. -/
def M.canReturn (s : M) : M :=
  let s := if s.on F.ptpCfgPtpEn then s.setN F.ptpStatPortState 1 else s
  foldNat 2 s fun s p =>
    if s.nat (F.canRateNom p) != 0 then ((s.setN (F.canStatState p) 0).setN (F.canStatTec p) 0).setN (F.canStatRec p) 0 else s

/-- A field as the DW island holds it. -/
def M.isl (s : M) (k : Nat) : Nat := (getField s.dw.island k).toNat

/-- A field at the DW island set. -/
def M.setIsl (s : M) (k v : Nat) : M := { s with dw := { s.dw with island := setField s.dw.island k (word v) } }

/-- A flag at the DW island set. -/
def M.setIslB (s : M) (k : Nat) (b : Bool) : M := s.setIsl k (boolNat b)

/-- DW powered, with a fresh link: ENC_5V is on from then on (R30, R251). -/
def M.dwPower (s : M) : M := (s.setIsl F.encSupplyOn 1).setN F.encSupplyOn 1

/-- An analog wellhead reads its ALM strap, and the core shows what it has read: a change is an event (R34, R262). While the wellhead is off, the fields hold
their last value. DESIGN CHOICE (log entry 30): a strap that was changed meanwhile counts as changed when it is read again. -/
def M.readAlm (s : M) (w : Nat) : M :=
  let b := s.aon.alm.contains w
  let k := if w = 0 then F.idStrapsAg0Alm else F.idStrapsAg1Alm
  let t := (s.setB (F.awStatAlmStrap w) b).setB k b
  if s.on k = b then t else t.hw (ev (0x0220 + w) 0x1214 w)

/-- What the DW island keeps over a restart of its domain: the shutdown counts, which run since priming, LATCHED_OFF, which only DIO_UNLATCH ends, and, DESIGN
CHOICE (log entry 28), a thermal shutdown and the group states, of which the spec does not speak. -/
def keptByDw (k : Nat) : Bool :=
  (List.range 32).any (fun n => k == F.dioStatShutdowns n || k == F.dioStatLatchedOff n || k == F.dioStatThermal n) ||
    (List.range 4).any fun g => k == F.dioGrpState g

/-- DW switched off (R57, R235, R239): inputs BAD, counters lost, outputs without power until a commit after the return; no group or latched channel comes
back by it. -/
def M.dwDown (s : M) : M :=
  let d := { Dw.start with
    chans := s.dw.chans.map fun (e : Nat × DioChan) => (e.1, { DioChan.start with retries := e.2.retries })
    island := s.dw.island.filter fun e => keptByDw e.1
    out := s.dw.out, hold := s.dw.hold, latched := s.dw.latched, silent := true, discards := s.dw.discards }
  (({ s with dw := d }.set F.dioBad 0xFFFFFFFF#32).set F.dioIn 0#32).setN F.encSupplyOn 0

/-- The work in flight of a restarted domain (R57); the roles follow in `M.ropeDown`. -/
def M.domainDown (s : M) (t : Nat) : M :=
  if t = 1 then (s.netDown.closeSessions).setB F.engStatUsbAttached false
  else if t = 3 then s.dwDown
  else if t = 4 ∨ t = 5 then
    let w := t - 4
    let s := foldNat 8 (s.abortHart w) fun s i => s.hartOff (8 * w + i)
    let aio := (List.range 8).foldl (init := s.aio) fun a i =>
      a.upd AioChan.start (8 * w + i) fun c =>
        { c with load := true, samples := [], hist := [], mirror := [], supplyOn := false, queued := decide (s.nat (F.aioCfgFunc (8 * w + i)) = 1) }
    let kept := setField [] (F.awStatRefFault w) (getField (s.aw.get Aw.start w).island (F.awStatRefFault w))
    let s := { s with aw := s.aw.set Aw.start w { Aw.start with silent := true, stagesOff := true, island := kept, discards := (s.aw.get Aw.start w).discards }, aio := aio }
    (List.range 8).foldl (init := s) fun s i => s.setB (F.aioStatBad (8 * w + i)) true
  else s

/-- A restart carried out: the domain goes off until DOMAIN_RETURN; a wellhead will reuse its stored calibration (R57, R268). -/
def M.startRestart (s : M) (t : Nat) : M :=
  let s := ((s.setRestarting t true).setDomain (targetDomain t) false).domainDown t
  let s := if t = 4 ∨ t = 5 then s.setB (F.awStatCalReused (t - 4)) true else s
  { s.setB F.pwrRestartStatusInProgress true with hlt := { s.hlt with accepted := t } }

/-- The last restart request and its status (R61). -/
def M.showRestart (s : M) (t st : Nat) : M := (s.setN F.pwrRestartStatusTarget t).setN F.pwrRestartStatusStatus st

/-- Automatic restarts of a target within the last 600 s (R363). -/
def M.recentRestarts (s : M) (t : Nat) : Nat := (s.hlt.restarts.filter fun r => r.1 == t && decide (s.aon.now < r.2 + 600000000000)).length

/-- The automatic restarts that HLT_RESTARTS counts (R377). -/
def M.showRestarts (s : M) : M :=
  s.setN F.hltRestartsCount ((List.range 5).foldl (init := 0) fun n i => n + min 3 (s.recentRestarts (i + 1)) * 16 ^ i)

/-- An automatic restart after an F2 fault (R363): made when AUTO_RESTART allows, at most 3 in 600 s, refused as a host command is. -/
def M.autoRestart (s : M) (t : Nat) : M :=
  if t = 0 ∨ s.nat F.hltCfgAutoRestart / 2 ^ (t - 1) % 2 = 0 then s
  else if s.recentRestarts t ≥ 3 then
    s.setN F.hltRestartsExhausted ((s.reg F.hltRestartsExhausted ||| (1#32 <<< (t - 1))).toNat)
  else
    let st := s.judgeRestart t
    let s := s.showRestart t st
    if st = 0 then
      let s := s.startRestart t
      { s with hlt := { s.hlt with restarts := (t, s.aon.now) :: s.hlt.restarts, refused := s.hlt.refused.filter (· != t) } }.showRestarts
    else
      { s with hlt := { s.hlt with refused := addOnce s.hlt.refused t } }.hw (ev 0x0070 0x1080 0x0050 st 0)

/-- The health item of a restart target (R370). -/
def targetItem (t : Nat) : Nat := if t = 1 then 23 else if t = 2 then 25 else 13 + t

/-- Refused automatic restarts requested again at a role change while the item stays FAILED (R363). -/
def M.retryRestarts (s : M) : M := s.hlt.refused.foldl (init := s) fun s t => if (s.itemConds (targetItem t)).1 then s.autoRestart t else s

/-- A refusal is remembered only while its item stays FAILED (R363). -/
def M.keepRefused (s : M) : M := { s with hlt := { s.hlt with refused := s.hlt.refused.filter fun t => (s.itemConds (targetItem t)).1 } }

/-- A role change, with what follows from it. -/
def M.toRole (s : M) (new cause : Nat) (skipped : Nat := 0) : M := (s.roleChange new cause skipped).retryRestarts

/-- An F2 fault: the item latched, the event, the automatic restart of its domain (R361, R363, R365). -/
def M.f2 (s : M) (e : Event) (item target : Nat) : M :=
  let s := { s with hlt := { s.hlt with latched := addOnce s.hlt.latched item } }
  (s.hw e).autoRestart target

/-- An item's latched cause gone. -/
def M.unlatch (s : M) (item : Nat) : M := { s with hlt := { s.hlt with latched := s.hlt.latched.filter (· != item) } }

/-! ### Joins and their aborts (R356) -/

/-- A join aborted with its cause (R356); the joiner then primes again cold. -/
def M.abortJoin (s : M) (cause verdict : Nat) : M :=
  let s := ((s.setN F.redJoinState 4).setN F.redJoinAbortCause cause).bump F.redCntJoinAborts 255 1
  let s := { s with red := { s.red with joining := false, joinAsked := false, dirty := [], unsent := 0, catchup := none, records := [], flight := []
                                        lastAck := none } }
  s.hw (ev 0x0050 0x306B cause verdict)

/-- The joiner of an aborted join enters RESET without a save and primes again as a cold start with COLD_REASON 1 (R356). -/
def M.coldAgain (s : M) : M :=
  let s := s.dropSave.intoReset
  { s with aon := { s.aon with coldAsked := true } }

/-- A restart of this module (R74, R75, R81): both failure counters cleared, then RESET after the reset save. -/
def M.restart (s : M) (cold : Bool) : M :=
  let s := (s.setN F.modStartFailedCold 0).setN F.modStartFailedWarm 0
  { s with aon := { s.aon with coldAsked := s.aon.coldAsked || cold } }.resetSave

/-- AT_RESTART (R128): NEXT names the slot, and the restart is cold. -/
def M.activateCold (s : M) (slot : Nat) : M := (foldNat 2 s fun s n => s.setB (F.idImgSlotNext n) (n == slot)).restart true

/-! ### SAFE and fail-stop (R66, R71, R72, R336, R362) -/

/-- Every activation in progress abandoned (R98). -/
def M.abandon (s : M) : M := { s with run := { s.run with acts := [], pend := Pend.empty }, fy := { s.fy with act := Act.start } }

/-- The stroke in progress, which no commit has published, discarded: its writes, results and effects, and the slots and counts as they stood
(R104, R351). -/
def M.discardStroke (s : M) : M :=
  { s with run := { s.run with snapWrites := [], loops := { results := [], groups := [] }, ended := [], pend := Pend.empty, begun := s.run.begun0 }
           fy := { s.fy with slots := s.run.slots0 } }

/-- A pending online change given up (R134): the target slot stays ACCEPTED. -/
def M.cancelChange (s : M) : M :=
  match s.store.change with
  | none => s
  | some _ => (((s.setN F.idImgChangePending 0).setN F.idImgChangeStatus 16).setN F.idImgChangeStrokesLeft 0) |> fun s =>
    { s with store := { s.store with change := none } }

/-- SAFE begins: the latch, the cause, the bucket released; a holder becomes the safe driver (R71, R72, R336). -/
def M.enterSafe (s : M) (cause : Nat) : M :=
  let drives := s.holds
  let s := s.cancelChange
  let s := ((s.setN F.modStatusMode 5).setB F.modStatusSafeLatched true).setN F.modStatusSafeCause cause
  let s := { s with ctl := { s.ctl with forces := [], nextMode := none, ackAt := none, holdSteps := 0, stepping := false }
                    red := { s.red with wantBucket := 0 } }
  (s.release drives).setB F.redStatusSafeDriver (drives || s.on F.redStatusSafeDriver)

/-- A failed start counted by its kind (R81). -/
def M.countFailure (s : M) : M :=
  if s.ctl.cold then s.setN F.modStartFailedCold (min 2 (s.nat F.modStartFailedCold + 1))
  else s.setN F.modStartFailedWarm (min 3 (s.nat F.modStartFailedWarm + 1))

/-- No priming is under way any more. -/
def M.endPriming (s : M) : M := { s with ctl := { s.ctl with step8 := false, primed := false, firstCommit := false } }

/-- The next priming is another attempt (R370, item 30). -/
def M.retried (s : M) : M := { s with hlt := { s.hlt with retriedStart := true } }

/-- MOD_START.PRIMING_MS at the first commit or a failure (R82): the ms since the standpipe became ready, rounded down; where it has been ready since before
this priming, since the priming began (DESIGN CHOICE, log entry 18). -/
def M.showPriming (s : M) : M := s.setN F.modStartPrimingMs (min 65535 ((s.aon.now - s.ctl.primeAt) / 1000000))

/-- A priming fails with a start fault (R80, R81): START_FAILED, the counter of its kind, and 100 ms in RESET; after the second failed cold
start STOP with outputs at Hi-Z, a bucket that step 8 has taken released. DESIGN CHOICE (log entry 19): every domain stays on in that STOP; the spec does
not say which are. -/
def M.failPriming (s : M) (fault : Nat) : M :=
  let s := ((s.setN F.modStatusStartFault fault).hw (ev 0x0010 0x1014 (boolNat (!s.ctl.cold)) fault)).countFailure.showPriming
  if s.nat F.modStartFailedCold = 2 then (({ s with ctl := { s.ctl with primed := false } }.release false).setN F.modStatusMode 2).endPriming.retried
  else s.waitInReset.retried

/-- An F3 fault recorded (R362): its item latched, HLT_LAST_F3 keeps the first before the next priming, HEALTHY opens, the event. -/
def M.recordF3 (s : M) (e : Event) (item : Nat) : M :=
  let s := { s with hlt := { s.hlt with latched := addOnce s.hlt.latched item } }
  let s := if s.aon.f3 && s.mode != 1 then s
    else ((s.set F.hltLastF3Source (e.source.setWidth 32)).set F.hltLastF3Code (e.code.setWidth 32)).set64 F.hltLastF3StrokeLo F.hltLastF3StrokeHi s.stroke
  (({ s with aon := { s.aon with f3 := true } }).setB F.hltSummaryHealthy false).hw e

/-- Domain restarts in progress abandoned by an F3 fault (R372): a domain that is off stays off, as R54 has it for a power loss (DEDUCED, log entry 33). -/
def M.dropRestarts (s : M) : M := (s.setN F.pwrDomainRestarting 0).setB F.pwrRestartStatusInProgress false

/-- An F3 fault with no partner in step (R362, R372): SAFE, a join aborted. -/
def M.safeStop (s : M) : M :=
  let s := s.abandon.discardStroke.dropRestarts
  let s := { s with run := { s.run with abandoned := true }, ctl := { s.ctl with firstCommit := false } }.dropSave
  let s := if s.mode = 5 then s.setN F.modStatusSafeCause 1 else s.enterSafe 1
  if s.role = 3 ∨ (s.role = 1 ∧ !s.inStep) then (s.abortJoin 5 0).toRole 4 11 else s

/-- The self-tests have ended for this module; it leaves the pair. -/
def M.endDivergence (s : M) : M := { s with red := { s.red with mismatch := none, selfOwn := none, selfPartner := none } }

/-- Fail-stop on an F3 fault (R66, R362, R372): a priming fails; with a partner in step, or armed, the module enters RESET and primes again by
itself; a safe driver stays in SAFE; otherwise SAFE, for a joiner that primes too (R337). During a divergence self-test it counts as SELFTEST_FAIL, which is sent
(R372). In RESET it cannot occur. -/
def M.failStop (s : M) (e : Event) (item : Nat) : M :=
  if s.mode = 0 then s
  else
    let s := if s.red.mismatch.isSome then s.endDivergence.ropeOut (.selftest false) else s
    let s := s.recordF3 e item
    if s.mode = 1 ∧ s.role ≠ 3 then s.failPriming 5
    else if (s.inStep && !s.on F.redStatusSafeDriver) || s.on F.redStatusArmed then s.waitInReset
    else s.safeStop

/-! ### The pair falls apart (R337, R338, R348) -/

/-- A module leaves the pair armed: it commits nothing further and executes nothing, and goes on in the mode of its last commit, so that a change announced in
the stroke that is not committed does not take effect (R348, R349). In SAFE, where the safe driver's part is never taken over
(R336), it is not armed and goes on with its own snapshots. -/
def M.leaveArmed (s : M) (role cause : Nat) : M :=
  let s := s.abandon.discardStroke
  let s := { s with run := { s.run with abandoned := true }, ctl := { s.ctl with nextMode := none, ackAt := none } }
  (s.cancelChange.toRole role cause).arm (s.mode != 5)

/-- The inactive image slot. -/
def M.spareSlot (s : M) : Nat := if s.on (F.idImgSlotActive 0) then 1 else 0

/-- A copy that the rope was forwarding discarded (R126, R352, R358): the download broke off. -/
def M.dropForward (s : M) : M :=
  let n := s.spareSlot
  let st := s.nat (F.idImgSlotState n)
  let s := { s with store := { s.store with forwarding := none } }
  if s.store.fromRope && (st == 1 || st == 2) then
    let s := { s with store := { s.store with fromRope := false, slots := s.store.slots.set ImgSlot.empty n ImgSlot.empty } }
    let s := (s.setN (F.idImgSlotState n) 4).setN (F.idImgSlotVerdict n) 2
    if s.red.refusal = 5 then { s with red := { s.red with refusal := 0 } }.abortJoin 2 0 else s
  else s

/-- The rope counts as lost (R337, R338, R351, R352, R372): the pair detaches, a joiner primes again, a handover under way leaves a taker without the
bucket armed; a divergence self-test is judged by its own result; commands forwarded to the partner and not answered are this module's own again. -/
def M.ropeGone (s : M) (cause : Nat) : M :=
  let s := s.dropForward
  let back := s.net.forwarded
  let s := { s with
    red := { s.red with lost := true, joinAsked := false, partner := none, mismatch := if s.red.selfOwn = some true then none else s.red.mismatch }
    net := { s.net with queue := s.net.queue ++ back, forwarded := [] } }
  let s := (s.setN F.redStatusPartnerRole 0).setB F.redStatusPartnerHolds false
  if s.role = 1 then
    let s := if s.red.joining then s.abortJoin 2 0 else s
    s.toRole 4 cause
  else if s.role = 2 then (if s.holds then s.toRole 4 cause else s.leaveArmed 4 cause)
  else if s.role = 3 then (s.abortJoin 2 0).coldAgain
  else s

/-- The rope lost (R338): counted, reported, and the roles of R337. -/
def M.loseRope (s : M) : M :=
  if s.red.lost then s
  else
    let s := (s.bump F.redCntRopeLosses 255 1).f2 (ev 0x0050 0x5062) 25 0
    s.ropeGone 2

/-- A pair stays in step on one lane only with a manifest bound of at most 4096 bytes; otherwise the rope counts as lost (R338). -/
def M.judgeLanes (s : M) : M :=
  let paired := s.role == 1 || s.role == 2 || s.role == 3
  if s.nat F.redStatusRope = 2 ∧ paired ∧ s.nat F.stkManifestBound > 4096 then s.loseRope else s

/-! ### What every command ends with -/

/-- A followed condition: since when it holds. -/
def M.track (s : M) (key : Nat) (holds : Bool) : M :=
  let v := if holds then (match s.hlt.since.get none key with
    | some t => some t
    | none => some s.aon.now) else none
  { s with hlt := { s.hlt with since := s.hlt.since.set none key v } }

/-- The conditions that R370 counts only after a time. -/
def M.trackAll (s : M) : M :=
  let dip := s.on F.pwrFeedDipActive
  let s := (s.track 1500 (!dip && decide (s.nat F.pwrFeedStandpipePct < 90))).track 1501 (!dip && !s.on F.pwrFeedStandpipeReady)
  let s := s.track 2400 (s.on F.ptpCfgPtpEn)
  let s := foldNat 32 s fun s n => s.track (3200 + n) (s.on (F.dioStatCurrentLimit n))
  foldNat 16 s fun s n => s.track (3600 + n) (s.on (F.aioStatLimit n))

/-- Whether the conditions of the HEALTHY contact hold (R374). -/
def M.healthyNow (s : M) : Bool :=
  let m := s.mode
  let mask (i : Nat) : Bool := (if i < 32 then s.nat F.hltHealthyMaskLo / 2 ^ i else s.nat F.hltHealthyMaskHi / 2 ^ (i - 32)) % 2 == 1
  s.ctl.primed && !s.ctl.firstCommit && s.nat F.modStatusStartFault == 0 && (m == 2 || m == 3 || m == 4) &&
    (s.role == 1 || s.role == 2 || s.holds) &&
    ((List.range 64).all fun i => !(mask i && s.nat (F.hltItemStatState i) == 2)) && s.on F.hltAppAppOk && !s.aon.f3

/-- The contact opens when a condition fails; the time from which all hold is kept (R374). -/
def M.followHealthy (s : M) : M :=
  if s.healthyNow then
    (match s.aon.healthySince with
    | some _ => s
    | none => { s with aon := { s.aon with healthySince := some s.aon.now } })
  else { s.setB F.hltSummaryHealthy false with aon := { s.aon with healthySince := none } }

/-- HLT_SUMMARY and HLT_STATE from the items (R377). -/
def M.showHealth (s : M) : M :=
  let f := s.itemsIn 2
  let d := s.itemsIn 1
  let s := (s.setN F.hltSummaryFailedCount f).setN F.hltSummaryDegradedCount d
  let s := (s.setN F.hltSummaryWorst (if f > 0 then 2 else if d > 0 then 1 else 0)).setB F.hltSummaryFaultPresent s.aon.f3
  foldNat 4 s fun s j => s.set (F.hltState j) (s.stateWord j)

/-- Listed places of a set. -/
def placesUsed (t : Tab (List Byte)) : Nat := (t.filter fun e => !e.2.isEmpty).length

/-- The registers that count what the units hold: sessions, connections, anchors, denials, records (R334, R394, R411). -/
def M.showCounts (s : M) : M :=
  let s := (s.setN F.engStatSessions s.net.sessions.length).setN F.mbStatConnections s.net.conns.length
  let s := (s.setN F.secStatusDenyCount s.store.deny.length).setN F.secStatusImageAnchors (placesUsed s.store.images)
  let s := (s.setN F.secStatusClientAnchors (placesUsed s.store.clients)).setB F.secStatusClaimed (decide (0 < placesUsed s.store.clients))
  s.setN F.logStatCount (s.log.records.length + boolNat s.log.opened.isSome)

/-- What every command ends with: followed conditions, health items, the HEALTHY contact and the registers that show other state. -/
def M.settle (s : M) : M :=
  let s := s.trackAll
  let s := s.refreshItems (s.hlt.cause.getD (Config.causeless s.aon.now))
  s.keepRefused.showRestarts.followHealthy.showHealth.showCounts

/-- A command begins: no event is carried over as the cause of an item's change. -/
def M.begun (s : M) : M := { s with hlt := { s.hlt with cause := none } }

/-- A command's effect framed: no event is carried over as a cause, and the registers are brought up to date. -/
def M.act (f : M → M) (s : M) : M := (f s.begun).settle

/-- A command on a module whose AON may have no power: then nothing happens (R50). -/
def M.perform (f : M → M) (s : M) : M := if s.aon.powered then s.act f else s

/-- A command on the module: its effect framed, the queue left alone. -/
def runM (f : M → M) (s : State) : Host.Outcome State Fault Refusal := .next { s with m := s.m.perform f }

/-- The command that powers AON up (R50), the one that acts while AON has no power. -/
def runPowerUp (f : M → M) (s : State) : Host.Outcome State Fault Refusal := .next { s with m := s.m.act f }

/-! ### Host commands (R12, R331, R413, R417, R418) -/

/-- The session of a request. -/
def M.session (s : M) (r : Req) : Option Session := s.net.sessions.find? fun x => x.id == r.sess

/-- Whether a header is as R331 has it: LENGTH in its range, the reserved bits 0. -/
def headerOk (r : Req) : Bool := decide (16 ≤ r.length) && decide (r.length ≤ 65552) && decide (r.flags / 2 = 0) && decide (r.spare = 0)

/-- The message of a reply (R331): the header, with COMMAND and TAG of the request, and the body. -/
def replyMessage (r : Req) (st : Nat) (body : List Byte) : List Byte :=
  bytesLE 4 (16 + body.length) ++ bytesLE 2 r.command ++ bytesLE 2 1 ++ bytesLE 4 r.tag ++ bytesLE 2 st ++ bytesLE 2 0 ++ body

/-- The bytes of what leaves for a session. -/
def Out.message : Out → List Byte
  | .reply r st body => replyMessage r st body
  | _ => []

/-- The place of a request received next among the unanswered ones of its session. -/
def Session.nextPlace (x : Session) : Nat := x.order.getLast?.getD 0 + 1

/-- The replies that may leave now: those of the oldest unanswered requests; with them the places and replies left. -/
def flushReady : List Nat → List (Nat × Out) → List Out × List Nat × List (Nat × Out)
  | [], ready => ([], [], ready)
  | t :: r, ready =>
    match ready.find? fun e => e.1 == t with
    | none => ([], t :: r, ready)
    | some e =>
      let x := flushReady r (ready.erase e)
      (e.2 :: x.1, x.2)

/-- A session changed. -/
def M.updSession (s : M) (id : Nat) (f : Session → Session) : M :=
  { s with net := { s.net with sessions := s.net.sessions.map fun x => if x.id = id then f x else x } }

/-- A reply to a request, given in order of receipt within the session (R332): to one that waited by its place, else to the one just received. A session that
closes goes with its last reply; one that has closed gets none. -/
def M.send (s : M) (r : Req) (o : Out) : M :=
  match s.session r with
  | none => s
  | some x =>
    let k := if r.place = 0 then x.order.getLast?.getD 0 else r.place
    let y := flushReady x.order (x.ready ++ [(k, o)])
    let s := y.1.foldl (init := s.updSession r.sess fun x => { x with order := y.2.1, ready := y.2.2 }) M.emit
    if x.closing && y.2.1.isEmpty then s.dropSessions (fun z => z.id == x.id) 0 else s

/-- A plain reply. -/
def M.reply (s : M) (r : Req) (st : Nat) (body : List Byte := []) : M := s.send r (.reply r st body)

/-- COMMAND_REFUSED of a host command (R12, R418). -/
def M.refusal (s : M) (code st : Nat) (principal : Word) : M := s.hw (ev 0x0070 0x1080 code st principal.toNat)

/-- A request refused: its event and its reply (R12). -/
def M.refuse (s : M) (r : Req) (x : Session) (code st : Nat) : M := (s.refusal code st x.principal).reply r st

/-- A header that is not as R331 has it (R332): answered MALFORMED in its turn, and the session is then closed. -/
def M.malformed (s : M) (r : Req) (x : Session) (code : Nat) : M :=
  (s.updSession r.sess fun y => { y with order := y.order ++ [y.nextPlace], closing := true }).refuse { r with place := 0 } x code 26

/-- A request received (R332, R413): dropped without a session, or in one that closes; MALFORMED; BUSY beyond 8 unanswered; then NOT_AUTHORISED, a refusal
being answered at once; else `go`. `least` none is open to a session that is not authenticated. -/
def M.receive (s : M) (r : Req) (code : Nat) (least : Option Nat) (go : Session → M → M) : M :=
  match s.session r with
  | none => s
  | some x =>
    if s.mode = 0 ∨ x.closing then s
    else if !headerOk r then s.malformed r x code
    else
      let busy := decide (x.order.length ≥ 8)
      let s := s.updSession r.sess fun y => { y with order := y.order ++ [y.nextPlace] }
      let low := match least with
        | some n => !x.auth || decide (x.role < n)
        | none => false
      if busy then s.refuse r x code 3 else if low then s.refuse r x code 5 else go x s

/-- A request received and judged on receipt (R413): after NOT_AUTHORISED, WRONG_MODE and WRONG_ROLE in this order. -/
def M.judge (s : M) (r : Req) (code least : Nat) (modes : List Nat) (roles : List Nat) (go : Session → M → M) : M :=
  s.receive r code (some least) fun x s =>
    let st := if !modes.contains s.mode then 1 else if !roles.contains s.role then 2 else 0
    if st = 0 then go x s else s.refuse r x code st

/-- A command carried out or refused on receipt: status 0 runs `go`. -/
def M.conclude (s : M) (r : Req) (x : Session) (code st : Nat) (go : M → M) (body : List Byte := []) : M :=
  if st = 0 then (go s).reply r 0 body else s.refuse r x code st

/-- Every mode but RESET. -/
def anyMode : List Nat := [1, 2, 3, 4, 5]
/-- STOP, RUN, HOLD and SAFE. -/
def runModes : List Nat := [2, 3, 4, 5]
/-- Every role. -/
def anyRole : List Nat := [0, 1, 2, 3, 4]
/-- LONE, LEAD and DETACHED. -/
def ownRoles : List Nat := [0, 1, 4]

end Sys2Proof.Machine
end

