-- ==== Sys2Proof/Machine/Digital.lean ====
section
/-! DEFINITION. The digital wellhead: link, inputs, outputs, group supplies and encoders (chapter 12). -/

namespace Sys2Proof.Machine

/-! ### Island fields and channels -/

/-- Digital channel n. -/
def M.dio (s : M) (n : Nat) : DioChan := s.dw.chans.get DioChan.start n

/-- Digital channel n changed. -/
def M.updDio (s : M) (n : Nat) (f : DioChan → DioChan) : M := { s with dw := { s.dw with chans := s.dw.chans.upd DioChan.start n f } }

/-- Encoder n. -/
def M.enc (s : M) (n : Nat) : EncChan := s.dw.encs.get EncChan.start n

/-- Encoder n changed. -/
def M.updEnc (s : M) (n : Nat) (f : EncChan → EncChan) : M := { s with dw := { s.dw with encs := s.dw.encs.upd EncChan.start n f } }

/-- Whether DW is powered and working. -/
def M.dwOn (s : M) : Bool := s.domainOn 6

/-! ### What an output drives (R237) -/

/-- The value of an output channel by rows 5 to 8 of R237: a force on DIO_OUT in HOLD, SAFE_ACT, STOP_ACT, or the committed bit; a channel that an online
change no longer configures stands on its stop value (R133). -/
def M.dioValue (s : M) (n : Nat) : Bool :=
  let bit (w : Word) : Bool := bitAt w n
  let act (a : Nat) (v : Bool) : Bool := if a = 1 then bit s.dw.hold else a = 2 && v
  match s.ctl.forces.find? fun f => f.1 == 0x40010080 with
  | some f => bit f.2
  | none =>
    if s.mode = 5 then act (s.nat (F.dioCfgSafeAct n)) (s.on (F.dioCfgSafeVal n))
    else if s.mode = 2 || s.ctl.orphans.contains (16 + n) then act (s.nat (F.dioCfgStopAct n)) (s.on (F.dioCfgStopVal n))
    else bit (s.reg F.dioOut)

/-- The output word that a commit passes to the island (R87, R237). -/
def M.dioWord (s : M) : Word := (List.range 32).foldl (init := 0#32) fun w n => putBit w n (s.on (F.dioCfgDir n) && s.dioValue n)

/-- Whether the wellhead is powered and a commit has passed values to it, in a module that drives the field (R30, R44, R57). -/
def M.dwDriven (s : M) : Bool := s.drives && s.aon.enables && s.dwOn && s.dw.passed && s.mode != 0

/-- What output channel n drives (R237): none at Hi-Z. -/
def M.dioDrives (s : M) (n : Nat) : Option Bool :=
  if !s.on (F.dioCfgDir n) || !s.dwDriven then none
  else if s.dw.islandDead then some false
  else if s.dw.latched.contains (n / 8) || decide (s.isl (F.dioGrpState (n / 8)) ≥ 2) then some false
  else if s.isl (F.dioStatLatchedOff n) = 1 || s.isl (F.dioStatThermal n) = 1 then some false
  else some (bitAt s.dw.out n)

/-- EXTERNAL_DRIVE ends where the channel is commanded on or PARALLELED, SWITCH_FAULT where it is commanded off, and both where the module does not
hold the bucket (R240, R241, R245). -/
def M.settleFlags (s : M) : M :=
  foldNat 32 s fun s n =>
    let d := if s.holds then s.dioDrives n else none
    let s := if d != some false || s.on (F.dioCfgParalleled n) then s.setIslB (F.dioStatExternalDrive n) false else s
    if d != some true then s.setIslB (F.dioStatSwitchFault n) false else s

/-! ### Sampling and filters (R233, R234) -/

/-- The raw state of an input from its voltage and current (R233); otherwise the previous one is kept. -/
def rawState (type3 wb was : Bool) (mv ua : Nat) : Bool :=
  if mv ≥ (if type3 then 11000 else 15000) ∧ ua > 2000 then true
  else if mv ≤ 5000 ∨ (250 ≤ ua ∧ ua ≤ 1500) then false
  else if ua < 250 ∧ !wb then false
  else was

/-- Samples that must show a new state: F / 10 µs + 1 (R234). -/
def filterSamples (code : Nat) : Nat :=
  match code with
  | 0 => 1 | 1 => 2 | 2 => 11 | 3 => 101 | 4 => 301 | 5 => 1001 | _ => 2001

/-- One sample through the filter. -/
def DioChan.sample (c : DioChan) (code : Nat) (raw : Bool) : DioChan :=
  if raw = c.filtered then { c with raw := raw, run := 0 }
  else if c.run + 1 ≥ filterSamples code then { c with raw := raw, filtered := raw, run := 0 }
  else { c with raw := raw, run := c.run + 1 }

/-- DIO_SAMPLE (R234, R235): every raw state and readback sampled, the readback under Type 3 thresholds, the filters advanced, CURRENT_LIMIT seen, and
SWITCH_FAULT ended by a readback that shows on. Settings of CONFIG count from the first commit on (R116). -/
def dioSample (x : DioMeas) (s : M) : M :=
  if !s.dwOn then s
  else
    foldNat 32 s fun s n =>
      let c := s.dio n
      let p := x.pins.getD n (0, 0)
      let raw := rawState (s.cfgOn (F.dioCfgType n)) (s.cfgOn (F.dioCfgWbEn n)) c.raw p.1 p.2
      let rb := rawState true false c.readback p.1 p.2
      let s := s.updDio n fun c => { c.sample (s.cfg (F.dioCfgFilter n)).toNat raw with readback := rb }
      let s := s.setIslB (F.dioStatCurrentLimit n) (s.cfgOn (F.dioCfgDir n) && bitAt x.limited n)
      if rb then s.setIslB (F.dioStatSwitchFault n) false else s

/-- WIRE_BREAK (R233): an input with WB_EN. -/
def wireBreak (n : Nat) (s : M) : M :=
  if s.dwOn && !s.cfgOn (F.dioCfgDir n) && s.cfgOn (F.dioCfgWbEn n) then s.setIslB (F.dioStatWireBreak n) true else s

/-- WIRE_BREAK_CLEARED (R245). -/
def wireBreakCleared (n : Nat) (s : M) : M := s.setIslB (F.dioStatWireBreak n) false

/-! ### Output protection (R239 to R241) -/

/-- A switch-off counted as a thermal shutdown; the fourth latches the channel off. -/
def M.shutdown (s : M) (n : Nat) : M :=
  let s := s.setIsl (F.dioStatShutdowns n) (min 255 (s.isl (F.dioStatShutdowns n) + 1))
  let s := s.updDio n fun c => { c with retries := c.retries + 1 }
  (if (s.dio n).retries ≥ 4 then (s.setIslB (F.dioStatThermal n) false).setIslB (F.dioStatLatchedOff n) true
    else s.setIslB (F.dioStatThermal n) true).settleFlags

/-- THERMAL_SHUTDOWN (R239). -/
def thermalShutdown (n : Nat) (s : M) : M := if s.dwOn && s.on (F.dioCfgDir n) then s.shutdown n else s

/-- Whether a channel is commanded on by what the last commit passed to the island. -/
def M.commandedOn (s : M) (n : Nat) : Bool := s.on (F.dioCfgDir n) && bitAt s.dw.out n

/-- THERMAL_RETRY (R239): a channel still commanded on is switched on again. -/
def thermalRetry (n : Nat) (s : M) : M :=
  if s.dwOn ∧ s.isl (F.dioStatThermal n) = 1 ∧ s.commandedOn n then (s.setIslB (F.dioStatThermal n) false).settleFlags else s

/-- GROUP_OVERCURRENT (R239): every channel of the group in current limit is switched off. -/
def groupOvercurrent (g : Nat) (s : M) : M :=
  if s.dwOn then (groupChans g).foldl (init := s) fun s n => if s.isl (F.dioStatCurrentLimit n) = 1 then s.shutdown n else s else s

/-- RETRY_COUNT_RESET (R239). -/
def retryCountReset (n : Nat) (s : M) : M := s.updDio n fun c => { c with retries := 0 }

/-- Whether outputs are compared with their readback (R240, R242): only while the module holds the bucket and is not SHADOW. -/
def M.compares (s : M) : Bool := s.holds && s.role != 2

/-- EXTERNAL_DRIVE (R240, R241): the channel is commanded off; a PARALLELED channel does not report it. -/
def externalDrive (n : Nat) (s : M) : M :=
  if s.compares && !s.on (F.dioCfgParalleled n) && s.dioDrives n == some false then s.setIslB (F.dioStatExternalDrive n) true else s

/-- EXTERNAL_DRIVE_CLEARED (R245). -/
def externalDriveCleared (n : Nat) (s : M) : M := s.setIslB (F.dioStatExternalDrive n) false

/-- SWITCH_FAULT (R240): the channel is commanded on and not in current limit. -/
def switchFault (n : Nat) (s : M) : M :=
  if s.compares && s.dioDrives n == some true && s.isl (F.dioStatCurrentLimit n) == 0 then s.setIslB (F.dioStatSwitchFault n) true else s

/-! ### Group supplies (R243, R244) -/

/-- The state of group g at the island: 0 GOOD, 1 LOW, 2 LOST, 3 RESTORABLE. -/
def M.grp (s : M) (g : Nat) : Nat := s.isl (F.dioGrpState g)

/-- DG_SUPPLY_LOW (R243): from GOOD only. -/
def dgSupplyLow (g : Nat) (s : M) : M := if s.dwOn ∧ s.grp g = 0 then s.setIsl (F.dioGrpState g) 1 else s

/-- DG_SUPPLY_GOOD (R243): LOW ends. -/
def dgSupplyGood (g : Nat) (s : M) : M := if s.dwOn ∧ s.grp g = 1 then s.setIsl (F.dioGrpState g) 0 else s

/-- DG_SUPPLY_LOST (R243): from every other state; the outputs are off until a commit of a stroke that shows the group GOOD or LOW. -/
def dgSupplyLost (g : Nat) (s : M) : M :=
  if s.dwOn then
    let s := s.setIsl (F.dioGrpState g) 2
    { s with dw := { s.dw with latched := addOnce s.dw.latched g } }.settleFlags
  else s

/-- GROUP_RESTORE_TIMER (R243): LOST goes to GOOD with AUTO_RESTORE, to RESTORABLE without. -/
def groupRestoreTimer (g : Nat) (s : M) : M :=
  if s.dwOn ∧ s.grp g = 2 then s.setIsl (F.dioGrpState g) (if (s.cfg F.dioGrpCtrlAutoRestore).toNat / 2 ^ g % 2 = 1 then 0 else 3) else s

/-- An acknowledge applied at a commit (R244): RESTORABLE goes to GOOD at 19.2 V or more, to LOW below. -/
def M.ackGroup (s : M) (g : Nat) : M :=
  if s.grp g = 3 then s.setIsl (F.dioGrpState g) (if s.isl (F.dioGrpLPlus g) ≥ 192 then 0 else 1) else s

/-! ### Encoders (R246 to R249) -/

/-- The count of a quadrature step from (a, b) to (a', b'): +1 while A leads B, −1 while B leads A (R247). -/
def quadStep (a b a' b' : Bool) : Int :=
  if a != a' then (if a' != b' then 1 else -1) else if b != b' then (if a' == b' then 1 else -1) else 0

/-- QUADRATURE_TRANSITION (R247): a change of A or B is a count; a change of both is an illegal transition; under a line fault the value is kept (R245). -/
def quadratureTransition (n : Nat) (a b : Bool) (s : M) : M :=
  if s.dwOn ∧ s.cfg (F.encCfgMode n) = 1#32 then
    let e := s.enc n
    if s.isl (F.encStatLineFault n) = 1 then s.updEnc n fun e => { e with a := a, b := b }
    else if a != e.a && b != e.b then
      let s := s.updEnc n fun e => { e with a := a, b := b, illegal := e.illegal + 1 }
      { s with hlt := { s.hlt with illegalAt := s.hlt.illegalAt.set none n (some s.aon.now) } }
    else
      let d := quadStep e.a e.b a b
      s.updEnc n fun e => { e with a := a, b := b, delta := e.delta + if s.cfgOn (F.encCfgReverse n) then -d else d }
  else s

/-- A Gray code decoded (R248). -/
def grayDecode (bits v : Nat) : Nat :=
  (List.range bits).foldl (init := 0) fun r i =>
    let k := bits - 1 - i
    r + ((v / 2 ^ k % 2 + r / 2 ^ (k + 1) % 2) % 2) * 2 ^ k

/-- The SSI clock of an encoder (R30, R44, R232): none at Hi-Z, false idle, true clocked. DEDUCED (log entry 29): a clock that idles in SAFE makes no
reads. -/
def M.ssiDrives (s : M) (n : Nat) : Option Bool :=
  if s.nat (F.encCfgMode n) != 2 || !s.dwDriven then none else some (s.mode != 5 && !s.dw.islandDead)

/-- Whether the 120 Ω terminations of the encoder inputs are enabled (R44, R246). -/
def M.terminated (s : M) : Bool := s.dwDriven

/-- The read triggers issued at S (R248). -/
def M.triggerSsi (s : M) : M := foldNat 4 s fun s n => if s.ssiDrives n = some true then s.emit (.ssiTrigger n) else s

/-- SSI_READ_DONE (R248): the last SSI_BITS bits, Gray-decoded where GRAY is set; a data line fault keeps the previous result, and so does a
line fault of the encoder (R245). It reaches the core's mirror
unless the latest frame was discarded or the link is silent; then the next valid frame brings it (R231). -/
def ssiReadDone (n v : Nat) (fault : Bool) (s : M) : M :=
  if s.ssiDrives n = some true then
    let bits := s.nat (F.encCfgSsiBits n)
    let r := v % 2 ^ bits
    let r := if s.on (F.encCfgGray n) then grayDecode bits r else r
    let held := s.dw.lastBad || s.dw.coreDead || s.dw.silent
    let line := s.isl (F.encStatLineFault n) == 1
    s.updEnc n fun e =>
      let r := if fault || line then e.result else word r
      { e with result := r, fault := fault, shown := if held then e.shown else r, shownFault := if held then e.shownFault else fault }
  else s

/-- The SSI clock in use (R249): the smallest code from SSI_CLK on that meets the bound; 0 outside SSI mode. -/
def M.ssiClock (s : M) (n : Nat) : Nat :=
  if s.nat (F.encCfgMode n) = 2 then
    let bits := s.nat (F.encCfgSsiBits n) + 1
    let room := s.nat F.stkPeriodTbUs - 13 - max (s.nat (F.encCfgSsiTm n)) 24
    let c0 := s.nat (F.encCfgSsiClk n)
    ((List.range 151).find? fun c => decide (c0 ≤ c) && decide (bits * 100 ≤ room * c)).getD 150
  else 0

/-- ENC_LINE_LOSS (R246): a used pair of the encoder. -/
def encLineLoss (n : Nat) (s : M) : M := if s.dwOn && s.cfgOn (F.encCfgMode n) then s.setIslB (F.encStatLineFault n) true else s

/-- ENC_LINE_VALID (R245): ends the line fault, which stands while ENC_5V is off. -/
def encLineValid (n : Nat) (s : M) : M := if s.isl F.encSupplyOn = 0 then s else s.setIslB (F.encStatLineFault n) false

/-- ENC_SUPPLY_OVERLOAD (R245): ENC_5V goes off and every encoder shows a line fault. -/
def encSupplyOverload (s : M) : M :=
  if s.dwOn then
    let s := (s.setIslB F.encSupplyOverload true).setIslB F.encSupplyOn false
    foldNat 4 s fun s n => s.setIslB (F.encStatLineFault n) true
  else s

/-- ENC_SUPPLY_RETRY (R245): the supply is switched on again; `ok` when the load is within limits. An encoder not in use has no line fault then; the others
wait for their lines. -/
def encSupplyRetry (ok : Bool) (s : M) : M :=
  if s.dwOn ∧ s.isl F.encSupplyOn = 0 ∧ ok then
    let s := (s.setIslB F.encSupplyOverload false).setIslB F.encSupplyOn true
    foldNat 4 s fun s n => if s.cfgOn (F.encCfgMode n) then s else s.setIslB (F.encStatLineFault n) false
  else s

/-! ### The link (R231, R232) -/

/-- Discarded frames of the last second, the new one included (R250). -/
def recentDiscards (now : Nat) (l : List Nat) : List Nat := l.filter fun t => decide (now < t + 1000000000)

/-- DIO_LINK_STAT.DISCARDS as time passes (R250). -/
def M.showDiscards (s : M) : M :=
  let l := recentDiscards s.aon.now s.dw.discards
  { s with dw := { s.dw with discards := l } }.setN F.dioLinkStatDiscards (min 255 l.length)

/-- Whether no DW data stand in the core: the domain off or restarting, its watchdog expired, or no valid frame since its restart (R57, R232, R235). -/
def M.dwDead (s : M) : Bool := !s.dwOn || s.dw.coreDead || s.dw.silent

/-- Whether an item of channel n is BAD (R235). -/
def M.dioBad (s : M) (n : Nat) : Bool :=
  (!s.on (F.dioCfgDir n) && s.on (F.dioStatWireBreak n)) || s.nat (F.dioGrpState (n / 8)) == 2 || s.dwDead

/-- DIO_IN and DIO_BAD as the mirror and the state of the link have them (R235, R250). -/
def M.showDio (s : M) : M :=
  let bad := (List.range 32).foldl (init := 0#32) fun w n => putBit w n (s.dioBad n)
  (s.set F.dioBad bad).set F.dioIn (s.dw.mirror &&& ~~~ bad)

/-- The island's data in the core's mirror: states, diagnostics, group and encoder data. -/
def M.mirrorDw (s : M) : M :=
  let s := foldNat 32 s fun s n => [F.dioStatShutdowns n, F.dioStatSwitchFault n, F.dioStatExternalDrive n, F.dioStatLatchedOff n, F.dioStatThermal n,
    F.dioStatCurrentLimit n, F.dioStatWireBreak n].foldl (init := s) fun s k => s.setN k (s.isl k)
  let s := foldNat 4 s fun s g => [F.dioGrpLPlus g, F.dioGrpCurrent g, F.dioGrpState g].foldl (init := s) fun s k => s.setN k (s.isl k)
  let w := (List.range 32).foldl (init := 0#32) fun w n => putBit w n (if s.cfgOn (F.dioCfgDir n) then (s.dio n).readback else (s.dio n).filtered)
  let s := { s with dw := { s.dw with mirror := w } }.showDio
  foldNat 4 s fun s n =>
    let e := s.enc n
    let s := (s.setN (F.encStatLineFault n) (s.isl (F.encStatLineFault n))).bump (F.encStatIllegalCount n) 255 e.illegal
    s.updEnc n fun e =>
      let seen := e.seen || decide (e.illegal > 0)
      { e with count := e.count + BitVec.ofInt 32 e.delta, delta := 0, seen := seen, illegal := 0, shown := e.result, shownFault := e.fault }

/-- DW_LINK_FRAME (R231): a frame that fails its CRC or repeats the alive counter is discarded and counted; a valid one refreshes the mirror,
restarts the watchdogs and ends the fault of the link. While ENC_5V is on, OVERLOAD says that its current is over 300 mA (R245, R251). -/
def dwLinkFrame (x : DwFrame) (s : M) : M :=
  let s := s.at x.now
  if !s.dwOn then s
  else if !x.good || s.dw.alive == some x.alive then
    let l := s.aon.now :: recentDiscards s.aon.now s.dw.discards
    { s with dw := { s.dw with lastBad := true, discards := l } }.showDiscards
  else
    let s := { s with dw := { s.dw with lastBad := false, alive := some x.alive, coreDead := false, silent := false, resumed := true } }.showDiscards
    let s := foldNat 4 s fun (s : M) g => match x.groups[g]? with
      | some (v, c) => (s.setIsl (F.dioGrpLPlus g) (min 400 v)).setIsl (F.dioGrpCurrent g) (min 200 c)
      | none => s
    let s := s.setIsl F.encSupplyCurrentMa (min 500 x.encMa)
    let s := if s.isl F.encSupplyOn = 1 then s.setIslB F.encSupplyOverload (decide (x.encMa > 300)) else s
    let s := s.setN F.encSupplyCurrentMa (min 500 x.encMa)
    let s := (s.setN F.encSupplyOn (s.isl F.encSupplyOn)).setN F.encSupplyOverload (s.isl F.encSupplyOverload)
    (s.unlatch 16).mirrorDw

/-- The island watchdog of DW expires (R232): every output off until valid frames and a commit. -/
def M.dwIslandDead (s : M) : M := if s.dwOn then { s with dw := { s.dw with islandDead := true, resumed := false } }.settleFlags else s

/-- DW_LINK_LOST (R232): every DW item becomes BAD; F2. -/
def dwLinkLost (s : M) : M :=
  if !s.dwOn || s.dw.coreDead then s
  else
    let s := ({ s with dw := { s.dw with coreDead := true, lastBad := true } }.bump F.dioLinkStatExpiries 255 1).showDio
    s.f2 (ev 0x0060 0x5077) 16 3

/-! ### At the commit -/

/-- DIO_UNLATCH bits applied (R239): LATCHED_OFF cleared with a fresh retry count. -/
def M.unlatchDio (s : M) (bits : Word) : M :=
  foldNat 32 s fun s n =>
    if bitAt bits n then (s.updDio n fun c => { c with retries := 0 }).setIslB (F.dioStatLatchedOff n) false else s

/-- DIO_GRP_CTRL.ACK bits applied (R244). -/
def M.ackGroups (s : M) (bits : Nat) : M := foldNat 4 s fun s g => if bits / 2 ^ g % 2 = 1 then s.ackGroup g else s

/-- ENC_LOAD applied (R247): ignored outside incremental mode, and in a DW that is off, whose counters start at 0 (R57). The snapshot of the stroke that
begins still takes the counter before it. -/
def M.loadEnc (s : M) (n : Nat) (w : Word) : M :=
  if s.nat (F.encCfgMode n) = 1 ∧ s.dwOn then s.updEnc n fun e => { e with load := some w } else s

/-- Settings at the island from a commit on (R233, R234, R246): a filter whose FILTER or TYPE changed starts from its present state, no wire break without
WB_EN or on an output, no line fault of an encoder not in use while ENC_5V is on. -/
def M.dwSettings (s : M) (old : Tab Word) : M :=
  let s := foldNat 32 s fun s n =>
    let same := getField old (F.dioCfgFilter n) == s.reg (F.dioCfgFilter n) && getField old (F.dioCfgType n) == s.reg (F.dioCfgType n)
    let s := if same then s else s.updDio n fun c => { c with run := 0 }
    if s.on (F.dioCfgWbEn n) && !s.on (F.dioCfgDir n) then s else s.setIslB (F.dioStatWireBreak n) false
  foldNat 4 s fun s n => if s.nat (F.encCfgMode n) = 0 ∧ s.isl F.encSupplyOn = 1 then s.setIslB (F.encStatLineFault n) false else s

/-- Output values and settings passed to the DW island (R87, R237 to R240): a channel commanded off has a fresh retry count and no retry
pending; groups that the ended stroke showed GOOD or LOW drive again; an expired island drives again after valid frames. `old` are the registers before the
commit. -/
def M.passDw (s : M) (old : Tab Word) : M :=
  let was := s.dw.out
  let w := s.dioWord
  let shown (g : Nat) : Bool := decide ((getField s.run.snap.fields (F.dioGrpState g)).toNat < 2)
  let s := { s with dw := { s.dw with
    out := w
    latched := s.dw.latched.filter fun g => !(shown g && decide (s.grp g < 2))
    islandDead := s.dw.islandDead && !s.dw.resumed
    passed := s.dwOn } }
  let s := foldNat 32 s fun s n =>
    let on := bitAt w n
    let s := s.updDio n fun c => { c with retries := if on then c.retries else 0, stable := if bitAt was n == on then c.stable else 1 }
    if on then s else s.setIslB (F.dioStatThermal n) false
  (s.dwSettings old).settleFlags

/-- A commit passes the output values: each has then stood for one commit more, a new one for the first (R242). -/
def M.commitDw (s : M) (old : Tab Word) : M := (foldNat 32 s fun s n => s.updDio n fun c => { c with stable := c.stable + 1 }).passDw old

/-- The DW mode hold (R237, R434): the values held while STOP or SAFE lasts. -/
def M.holdDw (s : M) (direct : Bool) : M := { s with dw := { s.dw with hold := if direct then s.reg F.dioOut else s.dw.out } }

/-! ### At the cut (R88, R235, R242) -/

/-- The DW registers as the cut at S leaves them, with the mirror of S kept for the comparison of a shadow module (R16, R231): DIO_IN and DIO_BAD, LINK_SKIP counted, and the encoder values latched, after which a counter takes the
value that the commit at S loads (R247). -/
def M.cutDw (s : M) : M :=
  let s := if s.dw.lastBad then s.showDio.bump F.dioLinkStatSkips 65535 1 else s.showDio
  let s := { s with dw := { s.dw with cut := s.dw.mirror } }
  foldNat 4 s fun s n =>
    let e := s.enc n
    let m := s.nat (F.encCfgMode n)
    let s := if m = 1 then s.set (F.encValue n) e.count else if m = 2 then s.set (F.encValue n) e.shown else s
    let s := ((s.setB (F.encStatIllegal n) e.seen).setB (F.encStatSsiFault n) (m == 2 && e.shownFault)).setN (F.encStatSsiClkUsed n) (s.ssiClock n)
    s.updEnc n fun e => { e with seen := false, count := e.load.getD e.count, load := none }

/-- Shadow readback (R242): each output's own readback, as the link had delivered it at S, compared with the value it computed, once that value has stood for 2 ms,
while the lead module's data show the channel in none of rows 2 to 4 of R237. -/
def M.shadowReadback (s : M) (lead : Tab Word) (dead : List Nat) : M :=
  let tb := max 1 (s.nat F.stkPeriodTbUs)
  let need := (2000 + tb - 1) / tb
  if dead.contains 2 || dead.contains 3 || s.dwDead then s
  else
    foldNat 32 s fun s n =>
      let c := s.dio n
      let on (k : Nat) : Bool := getField lead k != 0#32
      let out := decide ((getField lead (F.dioGrpState (n / 8))).toNat ≥ 2) || on (F.dioStatLatchedOff n) || on (F.dioStatThermal n)
      if s.on (F.dioCfgDir n) && decide (c.stable ≥ need) && !out then
        if bitAt s.dw.cut n != bitAt s.dw.out n then
          let s := s.updDio n fun c => { c with mismatch := c.mismatch + 1, equal := 0 }
          if c.mismatch + 1 ≥ 3 ∧ !s.on (F.dioStatReadbackMismatch n) then
            (s.setB (F.dioStatReadbackMismatch n) true).hw (ev (0x0100 + n) 0x3105 n (boolNat (bitAt s.dw.out n)))
          else s
        else
          let s := s.updDio n fun c => { c with mismatch := 0, equal := c.equal + 1 }
          if c.equal + 1 ≥ 3 then s.setB (F.dioStatReadbackMismatch n) false else s
      else s

/-- Whether a flag is first shown by the newer of two snapshots. -/
def rises (old new : Tab Word) (k : Nat) : Bool := getField old k == 0#32 && getField new k != 0#32

/-- The stroke events of the DW island that a snapshot first shows (R245). -/
def dwEvents (old new : Tab Word) : List Event :=
  ((List.range 32).flatMap fun n =>
    (if rises old new (F.dioStatWireBreak n) then [ev (0x0100 + n) 0x2100 n] else []) ++
    (if rises old new (F.dioStatThermal n) then [ev (0x0100 + n) 0x2101 n] else []) ++
    (if rises old new (F.dioStatLatchedOff n) then [ev (0x0100 + n) 0x2102 n] else []) ++
    (if rises old new (F.dioStatExternalDrive n) then [ev (0x0100 + n) 0x2103 n] else []) ++
    (if rises old new (F.dioStatSwitchFault n) then [ev (0x0100 + n) 0x2104 n] else [])) ++
  ((List.range 4).flatMap fun g =>
    let o := (getField old (F.dioGrpState g)).toNat
    let v := (getField new (F.dioGrpState g)).toNat
    (if v = 1 ∧ o ≠ 1 then [ev (0x0120 + g) 0x0110 g] else []) ++ (if v = 2 ∧ o ≠ 2 then [ev (0x0120 + g) 0x2111 g] else []) ++
    (if o ≥ 2 ∧ v < 2 then [ev (0x0120 + g) 0x0112 g] else [])) ++
  ((List.range 4).flatMap fun n =>
    (if rises old new (F.encStatLineFault n) then [ev (0x0140 + n) 0x2120 n] else []) ++
    (if rises old new (F.encStatSsiFault n) then [ev (0x0140 + n) 0x2121 n] else [])) ++
  (if rises old new F.encSupplyOverload then [ev 0x0060 0x2078] else [])

/-! ### What the commands do -/

/-- DW_LINK_FRAME (R231). -/
def execDwLinkFrame (x : DwFrame) (s : State) : Host.Outcome State Fault Refusal := runM (dwLinkFrame x) s

/-- DW_LINK_LOST (R232). -/
def execDwLinkLost (s : State) : Host.Outcome State Fault Refusal := runM dwLinkLost s

/-- WIRE_BREAK (R233). -/
def execWireBreak (n : Nat) (s : State) : Host.Outcome State Fault Refusal := runM (wireBreak n) s

/-- THERMAL_SHUTDOWN (R239). -/
def execThermalShutdown (n : Nat) (s : State) : Host.Outcome State Fault Refusal := runM (thermalShutdown n) s

/-- THERMAL_RETRY (R239). -/
def execThermalRetry (n : Nat) (s : State) : Host.Outcome State Fault Refusal := runM (thermalRetry n) s

/-- GROUP_OVERCURRENT (R239). -/
def execGroupOvercurrent (g : Nat) (s : State) : Host.Outcome State Fault Refusal := runM (groupOvercurrent g) s

/-- EXTERNAL_DRIVE (R240). -/
def execExternalDrive (n : Nat) (s : State) : Host.Outcome State Fault Refusal := runM (externalDrive n) s

/-- SWITCH_FAULT (R240). -/
def execSwitchFault (n : Nat) (s : State) : Host.Outcome State Fault Refusal := runM (switchFault n) s

/-- DG_SUPPLY_LOW (R243). -/
def execDgSupplyLow (g : Nat) (s : State) : Host.Outcome State Fault Refusal := runM (dgSupplyLow g) s

/-- DG_SUPPLY_LOST (R243). -/
def execDgSupplyLost (g : Nat) (s : State) : Host.Outcome State Fault Refusal := runM (dgSupplyLost g) s

/-- GROUP_RESTORE_TIMER (R243). -/
def execGroupRestoreTimer (g : Nat) (s : State) : Host.Outcome State Fault Refusal := runM (groupRestoreTimer g) s

/-- SSI_READ_DONE (R248). -/
def execSsiReadDone (n v : Nat) (fault : Bool) (s : State) : Host.Outcome State Fault Refusal := runM (ssiReadDone n v fault) s

/-- ENC_LINE_LOSS (R246). -/
def execEncLineLoss (n : Nat) (s : State) : Host.Outcome State Fault Refusal := runM (encLineLoss n) s

/-- ENC_SUPPLY_OVERLOAD (R245). -/
def execEncSupplyOverload (s : State) : Host.Outcome State Fault Refusal := runM encSupplyOverload s

/-- ENC_SUPPLY_RETRY (R245). -/
def execEncSupplyRetry (ok : Bool) (s : State) : Host.Outcome State Fault Refusal := runM (encSupplyRetry ok) s

/-- DIO_SAMPLE (R234). -/
def execDioSample (x : DioMeas) (s : State) : Host.Outcome State Fault Refusal := runM (dioSample x) s

/-- QUADRATURE_TRANSITION (R247). -/
def execQuadratureTransition (n : Nat) (a b : Bool) (s : State) : Host.Outcome State Fault Refusal := runM (quadratureTransition n a b) s

/-- WIRE_BREAK_CLEARED (R245). -/
def execWireBreakCleared (n : Nat) (s : State) : Host.Outcome State Fault Refusal := runM (wireBreakCleared n) s

/-- EXTERNAL_DRIVE_CLEARED (R245). -/
def execExternalDriveCleared (n : Nat) (s : State) : Host.Outcome State Fault Refusal := runM (externalDriveCleared n) s

/-- RETRY_COUNT_RESET (R239). -/
def execRetryCountReset (n : Nat) (s : State) : Host.Outcome State Fault Refusal := runM (retryCountReset n) s

/-- DG_SUPPLY_GOOD (R243). -/
def execDgSupplyGood (g : Nat) (s : State) : Host.Outcome State Fault Refusal := runM (dgSupplyGood g) s

/-- ENC_LINE_VALID (R245). -/
def execEncLineValid (n : Nat) (s : State) : Host.Outcome State Fault Refusal := runM (encLineValid n) s

end Sys2Proof.Machine
end

