-- ==== Sys2Proof/Machine/Analog.lean ====
section
/-! DEFINITION. The analog wellheads: measuring, driving, verification, loop supplies, reservoir, link and reference (chapter 13). Times between
a condition and its detection at the island are the commands' own: a command says that the time of its rule has passed. -/

namespace Sys2Proof.Machine

/-! ### Wellheads and channels -/

/-- Analog wellhead w. -/
def M.awGet (s : M) (w : Nat) : Aw := s.aw.get Aw.start w

/-- Analog wellhead w changed. -/
def M.updAw (s : M) (w : Nat) (f : Aw → Aw) : M := { s with aw := s.aw.upd Aw.start w f }

/-- Analog channel n. -/
def M.aioGet (s : M) (n : Nat) : AioChan := s.aio.get AioChan.start n

/-- Analog channel n changed. -/
def M.updAio (s : M) (n : Nat) (f : AioChan → AioChan) : M := { s with aio := s.aio.upd AioChan.start n f }

/-- Whether a wellhead is powered and its island out of reset. -/
def M.awOn (s : M) (w : Nat) : Bool := s.domainOn (7 + w) && !(s.awGet w).inReset

/-- FUNC of a channel (R252): 0 off, 1 2-wire input, 2 4-wire input, 3 output. -/
def M.aioFunc (s : M) (n : Nat) : Nat := s.nat (F.aioCfgFunc n)

/-- A flag as the island holds it. -/
def M.awFlag (s : M) (w k : Nat) : Bool := getField (s.awGet w).island k != 0#32

/-- A flag at the island set; it reaches the core's register while the link works (R267). -/
def M.setAwFlag (s : M) (w k : Nat) (b : Bool) : M :=
  let s := s.updAw w fun a => { a with island := setField a.island k (boolWord b) }
  if (s.awGet w).coreDead || (s.awGet w).silent then s else s.setB k b

/-- A flag of a channel at its island set; the core reads it with the next link frame. -/
def M.setAioFlag (s : M) (n k : Nat) (b : Bool) : M := s.updAw (n / 8) fun a => { a with island := setField a.island k (boolWord b) }

/-- A flag of a channel at its island. -/
def M.aioFlag (s : M) (n k : Nat) : Bool := s.awFlag (n / 8) k

/-! ### Driving current (R260 to R262) -/

/-- Whether a group's ALM strap is fitted, as the island finds it at the contacts (R262). -/
def M.almStrap (s : M) (w : Nat) : Bool := s.aon.alm.contains w

/-- The alarm current of a channel as an output code of 0.4 µA: 3.5 mA or 22.0 mA (R261, R262). -/
def M.aioAlarmCode (s : M) (n : Nat) : Nat := if s.almStrap (n / 8) || !s.on (F.aioCfgAlmDir n) then 8750 else 55000

/-- A current in mA as an output code (R260). -/
def currentCode (i : Word) : Nat := (realRound (realMul i 0x451C4000#32)).toNat

/-- The output code of R260 for a value in engineering units. -/
def M.aioCode (s : M) (n : Nat) (x : Word) : Nat :=
  let v := realRead x
  let lo := s.reg (F.aioEuLo n)
  let hi := s.reg (F.aioEuHi n)
  let i := realAdd 0x40800000#32 (realMul 0x41800000#32 (realDiv (realSub v lo) (realSub hi lo)))
  currentCode (if s.on (F.aioCfgOutLimit n) then realMin (realMax i 0x40733333#32) 0x41A40000#32 else realMin (realMax i 0#32) 0x41C00000#32)

/-- A target of R261: whether it is the alarm current, its code, and whether the code is a held one. -/
structure AioRow where
  alarm : Bool
  code : Nat
  fixed : Bool

/-- Rows 3 and 5 to 8 of R261; a channel whose loop an online change removed goes to its stop value (R133). -/
def M.aioRows (s : M) (n : Nat) : AioRow :=
  let alarm : AioRow := { alarm := true, code := s.aioAlarmCode n, fixed := false }
  let hold := (s.aioGet n).hold
  let act (a : Nat) (v : Word) : AioRow :=
    if a = 0 then alarm else if a = 1 then { alarm := hold.1, code := hold.2, fixed := true } else { alarm := false, code := currentCode v, fixed := false }
  match s.ctl.forces.find? fun f => f.1 == 0x40020018 + 0x20 * n with
  | some f => { alarm := false, code := s.aioCode n f.2, fixed := false }
  | none =>
    if s.mode = 5 then act (s.nat (F.aioCfgSafeAct n)) (s.reg (F.aioSafeVal n))
    else if s.mode = 2 || s.ctl.orphans.contains n then act (s.nat (F.aioCfgStopAct n)) (s.reg (F.aioStopVal n))
    else if bitAt (s.reg F.aioAlarmAlarm) n then alarm
    else { alarm := false, code := s.aioCode n (s.reg (F.aioOut n)), fixed := false }

/-- Whether the output stage of a channel is on: none of row 1 of R261. -/
def M.aioDriving (s : M) (n : Nat) : Bool :=
  s.aioFunc n == 3 && s.drives && s.aon.enables && s.awOn (n / 8) && !(s.awGet (n / 8)).stagesOff && decide (s.mode ≥ 2)

/-- The target of the last commit: an alarm current follows the strap as it stands, a held one does not (R261, R262). -/
def M.aioCommitted (s : M) (n : Nat) : Bool × Nat :=
  let c := s.aioGet n
  (c.alarm, if c.alarm && !c.fixed then s.aioAlarmCode n else c.code)

/-- The target of an output channel (R261): none with the stage off; row 4 is judged by the strap as it stands. -/
def M.aioTarget (s : M) (n : Nat) : Option (Bool × Nat) :=
  if !s.aioDriving n then none
  else if (s.awGet (n / 8)).islandDead then some (true, s.aioAlarmCode n)
  else if s.mode = 5 ∧ s.almStrap (n / 8) then some (true, 8750)
  else some (s.aioCommitted n)

/-- Whether an output is verified (R263): its stage on, in a module that holds the bucket. -/
def M.verifies (s : M) (n : Nat) : Bool := s.holds && s.aioDriving n

/-- ALM_STRAP_CHANGE (R262): the island acts on it at once, and the core shows it while the link works. -/
def almStrapChange (w : Nat) (fitted : Bool) (s : M) : M :=
  let alm := s.aon.alm.filter (· != w)
  let s := { s with aon := { s.aon with alm := if fitted then w :: alm else alm } }
  if s.awOn w && !(s.awGet w).coreDead && !(s.awGet w).silent then s.readAlm w else s

/-! ### Measuring current (R255, R279) -/

/-- k of the input filter (R255). -/
def filterK (code : Nat) : Nat :=
  match code with
  | 1 => 1596563
  | 2 => 166936
  | 3 => 16769
  | _ => 1678

/-- One step of the input filter: the new state and the output (R255). -/
def filterStep (code : Nat) (load : Bool) (f : Int) (x : Nat) : Int × Nat :=
  let one : Int := 16777216
  if code = 0 ∨ load then (x * one, x)
  else
    let f := f + ((x * one - f) * filterK code) / one
    (f, ((f + 8388608) / one).toNat)

/-- The HART filter (R279): the mean of the latest 50 samples, halves rounded up. -/
def hartMean (l : List Nat) : Nat := if l.isEmpty then 0 else (2 * l.sum + l.length) / (2 * l.length)

/-- The latest samples with a new one. -/
def hartSamples (l : List Nat) (x : Nat) : List Nat := (x :: l).take 50

/-- Whether the sense paths are closed: PRIMING, or a module that holds the bucket or is the safe driver (R30, R44). -/
def M.senses (s : M) : Bool := s.mode == 1 || s.drives

/-- One channel at a sample instant; settings of CONFIG count from the first commit on (R116). -/
def M.sampleAio (s : M) (now n code drive readback : Nat) : M :=
  let hart := s.cfgOn (F.hartCfgHartEn n)
  let func := (s.cfg (F.aioCfgFunc n)).toNat
  let push (c : AioChan) (v : Nat) : AioChan := { c with hist := ((now, v) :: c.hist).take 4 }
  if func = 3 then
    if !s.aioDriving n then s.updAio n fun c => push c 0
    else if s.nat (F.aioCfgVerify n) = 0 then s.updAio n fun c => push c drive
    else
      s.updAio n fun c =>
        let l := hartSamples c.samples readback
        push { c with samples := if hart then l else c.samples } (if hart then hartMean l else readback)
  else if func = 0 || !s.senses then s
  else
    s.updAio n fun c =>
      let l := hartSamples c.samples code
      let (f, out) := filterStep (s.cfg (F.aioCfgFilter n)).toNat c.load c.filter (if hart then hartMean l else code)
      push { c with samples := if hart then l else c.samples, filter := f, load := false } out

/-- ANALOG_SAMPLE (R255): the eight channels of a wellhead; codes are at most 262,143 (R254). -/
def analogSample (x : AwMeas) (s : M) : M :=
  let s := s.at x.now
  if !s.awOn x.w then s
  else foldNat 8 s fun s i => s.sampleAio x.now (8 * x.w + i) (min 262143 (x.codes.getD i 0)) (x.drive.getD i 0) (x.readback.getD i 0)

/-! ### Verification (R263) -/

/-- COMPLIANCE_SHORT: modes A and C; OPEN_LOOP replaces it. -/
def complianceShort (n : Nat) (s : M) : M :=
  if s.verifies n && s.nat (F.aioCfgVerify n) != 1 && !s.aioFlag n (F.aioStatOpenLoop n) then s.setAioFlag n (F.aioStatComplianceShort n) true
  else s

/-- COMPLIANCE_SHORT_CLEARED. -/
def complianceShortCleared (n : Nat) (s : M) : M := s.setAioFlag n (F.aioStatComplianceShort n) false

/-- OPEN_LOOP: modes A and C, a target of at least 1.0 mA. -/
def openLoop (n : Nat) (s : M) : M :=
  match s.aioTarget n with
  | some t =>
    if s.holds ∧ t.2 ≥ 2500 ∧ s.nat (F.aioCfgVerify n) ≠ 1 then
      (s.setAioFlag n (F.aioStatOpenLoop n) true).setAioFlag n (F.aioStatComplianceShort n) false
    else s
  | none => s

/-- OPEN_LOOP_CLEARED. -/
def openLoopCleared (n : Nat) (s : M) : M := s.setAioFlag n (F.aioStatOpenLoop n) false

/-- READBACK_FAULT: modes B and C. -/
def readbackFault (n : Nat) (s : M) : M :=
  if s.verifies n && s.nat (F.aioCfgVerify n) != 0 then s.setAioFlag n (F.aioStatReadbackFault n) true else s

/-- READBACK_FAULT_CLEARED. -/
def readbackFaultCleared (n : Nat) (s : M) : M := s.setAioFlag n (F.aioStatReadbackFault n) false

/-! ### Loop supplies and the reservoir (R253, R266, R269) -/

/-- SUPPLY_SWITCH_ON (R253): the lowest queued channel of the wellhead, unless RES_LOW holds the queue. -/
def supplySwitchOn (w : Nat) (s : M) : M :=
  if !s.awOn w || !s.drives || s.awFlag w (F.awStatResLow w) then s
  else
    match (List.range 8).find? fun i => (s.aioGet (8 * w + i)).queued && s.aioFunc (8 * w + i) == 1 with
    | some i => s.updAio (8 * w + i) fun c => { c with queued := false, supplyOn := true, low := 0, high := 0 }
    | none => s

/-- SUPPLY_SHORT (R269): the supply goes off. -/
def supplyShort (n : Nat) (s : M) : M :=
  if (s.aioGet n).supplyOn && s.aioFunc n == 1 && s.drives then
    (s.updAio n fun c => { c with supplyOn := false }).setAioFlag n (F.aioStatSupplyShort n) true
  else s

/-- SUPPLY_RETRY (R269): the supply joins the switch-on queue again. -/
def supplyRetry (n : Nat) (s : M) : M :=
  if s.aioFlag n (F.aioStatSupplyShort n) && !(s.aioGet n).supplyOn && s.aioFunc n == 1 && s.drives then s.updAio n fun c => { c with queued := true }
  else s

/-- SUPPLY_SHORT_CLEARED (R269). -/
def supplyShortCleared (n : Nat) (s : M) : M :=
  if (s.aioGet n).supplyOn then s.setAioFlag n (F.aioStatSupplyShort n) false else s

/-- AW_RESERVOIR_LOW (R266): once per crossing. -/
def awReservoirLow (w : Nat) (s : M) : M :=
  if !s.awOn w || s.awFlag w (F.awStatResLow w) then s else (s.setAwFlag w (F.awStatResLow w) true).hw (ev (0x0220 + w) 0x1213 w)

/-- RESERVOIR_RECOVERED (R266). -/
def reservoirRecovered (w : Nat) (s : M) : M := s.setAwFlag w (F.awStatResLow w) false

/-- The supplies of a wellhead off, its FUNC 1 channels waiting for the queue, its filters to be loaded (R253, R255). -/
def M.awChannelsOff (s : M) (w : Nat) : M :=
  foldNat 8 s fun s i =>
    let n := 8 * w + i
    let q := s.aioFunc n == 1
    s.updAio n fun c => { c with load := true, samples := [], hist := [], supplyOn := false, queued := q }

/-- AW_ISLAND_RESET (R266): the link is silent, so that no frame is there to be cut (R88), the outputs give 0 mA, and the modems lose their attempts; F2
without a restart. REF_FAULT and RES_LOW stand until the island finds otherwise. -/
def awIslandReset (w : Nat) (s : M) : M :=
  if !s.awOn w then s
  else
    let kept := [F.awStatRefFault w, F.awStatResLow w].foldl (init := []) fun t k => setField t k (getField (s.awGet w).island k)
    let s := s.updAw w fun a =>
      { a with inReset := true, stagesOff := true, waitsLink := true, resumed := false, islandDead := false, lastBad := true, silent := true, island := kept }
    let s := foldNat 8 ((s.awChannelsOff w).abortHart w) fun s i => s.hartOff (8 * w + i)
    s.f2 (ev (0x0220 + w) 0x5212 w) (17 + w) 0

/-- AW_ISLAND_RESTART (R266): with its stored coefficients; the outputs wait for the first commit after the link resumes. -/
def awIslandRestart (w : Nat) (s : M) : M :=
  if s.domainOn (7 + w) && (s.awGet w).inReset then s.updAw w fun a => { a with inReset := false, alive := none } else s

/-- REFERENCE_CHECK (R268): `ok` when the difference is at most 0.05 % of span. -/
def referenceCheck (w : Nat) (ok : Bool) (s : M) : M :=
  if !s.awOn w then s
  else if ok then (s.setAwFlag w (F.awStatRefFault w) false).unlatch (17 + w)
  else if s.awFlag w (F.awStatRefFault w) then s
  else (s.setAwFlag w (F.awStatRefFault w) true).f2 (ev (0x0220 + w) 0x5211 w) (17 + w) (4 + w)

/-! ### The link (R267) -/

/-- The island's data in the core's registers: codes, channel flags, wellhead flags. -/
def M.mirrorAw (s : M) (w : Nat) : M :=
  let s := ([F.awStatResLow w, F.awStatRefFault w].foldl (init := s) fun s k => s.setB k (s.awFlag w k)).readAlm w
  foldNat 8 s fun s i =>
    let n := 8 * w + i
    let t := s.aioTarget n
    let s := s.updAio n fun c => { c with mirror := c.hist }
    let s := s.setB (F.aioStatSupplyShort n) (s.aioFlag n (F.aioStatSupplyShort n))
    let s := [F.aioStatComplianceShort n, F.aioStatOpenLoop n, F.aioStatReadbackFault n].foldl (init := s) fun s k => s.setB k (s.verifies n && s.aioFlag n k)
    s.setB (F.aioStatAlarmActive n) (match t with
      | some x => x.1
      | none => false)

/-- AW_STAT.DISCARDS as time passes (R270). -/
def M.showAwDiscards (s : M) (w : Nat) : M :=
  let l := recentDiscards s.aon.now (s.awGet w).discards
  (s.updAw w fun a => { a with discards := l }).setN (F.awStatDiscards w) (min 255 l.length)

/-- The frames discarded in the last second, of every wellhead, as a tick finds them (R250, R270). -/
def M.ageDiscards (s : M) : M := if s.mode = 0 then s else (s.showDiscards.showAwDiscards 0).showAwDiscards 1

/-- AW_LINK_FRAME (R267): as the DW link frame; a silent island sends none. -/
def awLinkFrame (x : AwFrame) (s : M) : M :=
  let s := s.at x.now
  let w := x.w
  let a := s.awGet w
  if !s.awOn w then s
  else if !x.good || a.alive == some x.alive then
    let l := s.aon.now :: recentDiscards s.aon.now a.discards
    (s.updAw w fun a => { a with lastBad := true, discards := l }).showAwDiscards w
  else
    let s := s.updAw w fun a => { a with lastBad := false, alive := some x.alive, coreDead := false, silent := false, resumed := true }
    let s := (s.showAwDiscards w).setN (F.awStatReservoirPct w) (min 100 x.reservoir)
    (s.unlatch (17 + w)).mirrorAw w

/-- ISLAND_WATCHDOG_EXPIRED (R232, R267): wellhead 0 is DW, 1 and 2 are AW0 and AW1; AW outputs go to their alarm currents and the modems stop,
so that attempts in progress are abandoned (R280). -/
def islandWatchdogExpired (wellhead : Nat) (s : M) : M :=
  if wellhead = 0 then s.dwIslandDead
  else
    let w := wellhead - 1
    if !s.awOn w then s
    else
      let s := (s.updAw w fun a => { a with islandDead := true, resumed := false }).abortHart w
      foldNat 8 s fun s i => { s with hart := s.hart.upd HartChan.start (8 * w + i) fun c => { c with identify := none } }

/-- AW_LINK_LOST (R267): every item of the wellhead becomes BAD; F2. -/
def awLinkLost (w : Nat) (s : M) : M :=
  if !s.domainOn (7 + w) || (s.awGet w).coreDead then s
  else
    let s := (s.updAw w fun a => { a with coreDead := true, lastBad := true }).bump (F.awStatExpiries w) 255 1
    s.f2 (ev (0x0220 + w) 0x5210 w) (17 + w) (4 + w)

/-! ### At the commit -/

/-- A channel after a change of its function or of HART_EN (R253, R257, R279). -/
def M.changeAio (s : M) (old : Tab Word) (n : Nat) : M :=
  let was := (getField old (F.aioCfgFunc n)).toNat
  let f := s.aioFunc n
  let s := if getField old (F.hartCfgHartEn n) = s.reg (F.hartCfgHartEn n) then s else s.updAio n fun c => { c with samples := [] }
  if was = f then s
  else
    let q := f == 1 && s.drives
    let s := s.updAio n fun c =>
      { c with load := true, samples := [], hist := [], mirror := [], raw := 0, low := 0, high := 0, isLow := false, isHigh := false, off := false
               supplyOn := false, queued := q }
    let s := [F.aioStatSupplyShort n, F.aioStatComplianceShort n, F.aioStatOpenLoop n, F.aioStatReadbackFault n].foldl (init := s)
      fun s k => s.setAioFlag n k false
    [F.aioStatNe43Low n, F.aioStatNe43High n, F.aioStatLimit n].foldl (init := s) fun s k => s.setB k false

/-- A channel as the first commit of a new holder leaves it: its loop supply on at once, its checks afresh (R253, R263). -/
def M.freshAio (s : M) (old : Tab Word) (n : Nat) : M :=
  let both := getField old (F.aioCfgFunc n) == 1#32 && s.aioFunc n == 1
  let s := if both then s.updAio n fun c => { c with supplyOn := true, queued := false, low := 0, high := 0 } else s
  [F.aioStatComplianceShort n, F.aioStatOpenLoop n, F.aioStatReadbackFault n].foldl (init := s) fun s k => s.setAioFlag n k false

/-- A module that does not drive the field: supplies off, the filter loaded with the code of its manifest (R44, R349). A DETACHED module builds that manifest
itself (R92), from open sense paths and output stages switched off, which carry no current (R30, R263). -/
def M.idleAio (s : M) (n : Nat) : M :=
  s.updAio n fun c =>
    let raw := if s.role = 4 then 0 else c.raw
    { c with raw := raw, filter := raw * 16777216, load := false, samples := [], hist := [], mirror := [], supplyOn := false, queued := false }

/-- The analog side of a commit: settings, targets, and output stages that drive again, after a reset of the island only once its link has resumed (R57, R266). `old` are the registers before the
commit; `fresh` says that this is the first commit of a new holder. -/
def M.commitAw (s : M) (old : Tab Word) (fresh : Bool) : M :=
  let s := foldNat 16 s fun s n =>
    let s := s.changeAio old n
    let s := if !s.drives then s.idleAio n else if fresh then s.freshAio old n else s
    let v := s.nat (F.aioCfgVerify n)
    let s := if v = 1 then (s.setAioFlag n (F.aioStatComplianceShort n) false).setAioFlag n (F.aioStatOpenLoop n) false
      else if v = 0 then s.setAioFlag n (F.aioStatReadbackFault n) false else s
    let s := if s.holds then s
      else [F.aioStatComplianceShort n, F.aioStatOpenLoop n, F.aioStatReadbackFault n].foldl (init := s) fun s k => s.setAioFlag n k false
    let t := s.aioRows n
    s.updAio n fun c => { c with alarm := t.alarm, code := t.code, fixed := t.fixed }
  foldNat 2 s fun s w =>
    let off := !s.domainOn (7 + w)
    s.updAw w fun a =>
      let waits := a.waitsLink && !(a.resumed && !a.inReset)
      { a with stagesOff := a.stagesOff && (off || waits), waitsLink := waits, islandDead := a.islandDead && !a.resumed }

/-- The targets held while STOP or SAFE lasts: those of the last commit, or those that RUN would drive (R261, R434). -/
def M.holdAw (s : M) (direct : Bool) : M :=
  foldNat 16 s fun s n =>
    let t : Bool × Nat :=
      if direct then (if bitAt (s.reg F.aioAlarmAlarm) n then (true, s.aioAlarmCode n) else (false, s.aioCode n (s.reg (F.aioOut n))))
      else s.aioCommitted n
    s.updAio n fun c => { c with hold := t }

/-! ### At the cut (R88, R255 to R258) -/

/-- The code that the cut at `now` takes: of the latest sample instant at least 60 µs before it. -/
def AioChan.cutCode (c : AioChan) (now : Nat) : Nat :=
  match c.mirror.find? fun e => decide (e.1 + 60000 ≤ now) with
  | some e => e.2
  | none => c.raw

/-- Whether every item of a wellhead is BAD with value 0.0 (R258, R264): off, its domain or its island restarting, or its core watchdog expired. DEDUCED (log
entry 31): an island restarts from its reset until its link resumes. -/
def M.awDead (s : M) (w : Nat) : Bool := !s.awOn w || (s.awGet w).coreDead || (s.awGet w).silent

/-- The analog registers as the cut leaves them before conversion: codes taken, LINK_SKIP counted, and BAD where a loop supply is not on or the
sense path is open. -/
def M.cutAw (s : M) : M :=
  let s := foldNat 2 s fun s w => if (s.awGet w).lastBad then s.bump (F.awLinkSkips w) 65535 1 else s
  foldNat 16 s fun s n =>
    let f := s.aioFunc n
    let c := s.aioGet n
    let s := s.updAio n fun c => { c with raw := c.cutCode s.aon.now }
    s.setB (F.aioStatBad n) ((f == 1 && !(c.supplyOn && (s.drives || s.role == 1))) || (f == 2 && !(s.drives || s.role == 1)))

/-- AIO_STAT of a module that does not drive the field, for its host (R263, R270): open sense paths and output stages switched off. -/
def M.showIdleAio (s : M) : M :=
  foldNat 16 s fun s n =>
    let s := [F.aioStatCurrentUa n, F.aioStatLimit n, F.aioStatNe43Low n, F.aioStatNe43High n].foldl (init := s) fun s k => s.setN k 0
    s.setB (F.aioStatBad n) (s.aioFunc n != 3 || s.awDead (n / 8))

/-- The raw codes of the manifest: none for a channel that is off or whose wellhead is dead. -/
def M.rawCodes (s : M) : List (Nat × Nat) :=
  (List.range 16).filterMap fun n => if s.aioFunc n = 0 || s.awDead (n / 8) then none else some (n, (s.aioGet n).raw)

/-- i of R256: a raw code in mA. -/
def codeCurrent (raw : Nat) : Word := realMul (realOfInt raw) 0x38D1B717#32

/-- Points of a characteristic table that rise (R256). -/
def tablePoints (f : Tab Word) (n : Nat) : Nat :=
  let x (p : Nat) : Word := getField f (F.aioTabX n p)
  let top := (getField f (F.aioCharTabCount n)).toNat
  (List.range 31).foldl (init := 1) fun m i => if m = i + 1 ∧ m < top ∧ realLt (x (m - 1)) (x m) then m + 1 else m

/-- The table characteristic (R256): the value and LIMIT. -/
def tableValue (f : Tab Word) (n : Nat) (i : Word) : Word × Bool :=
  let x (p : Nat) : Word := getField f (F.aioTabX n p)
  let y (p : Nat) : Word := getField f (F.aioTabY n p)
  let m := tablePoints f n
  if realLe i (x 0) then (y 0, realLt i (x 0))
  else if realLe (x (m - 1)) i then (y (m - 1), realLt (x (m - 1)) i)
  else
    let p := (List.range (m - 1)).foldl (init := 0) fun p j => if realLe (x j) i then j else p
    let g := realDiv (realSub i (x p)) (realSub (x (p + 1)) (x p))
    (realAdd (y p) (realMul g (realSub (y (p + 1)) (y p))), false)

/-- The engineering value of a current (R256): the value and whether the table sets LIMIT. -/
def engineering (f : Tab Word) (n : Nat) (i : Word) : Word × Bool :=
  let lo := getField f (F.aioEuLo n)
  let span (g : Word) : Word := realAdd lo (realMul g (realSub (getField f (F.aioEuHi n)) lo))
  let x := realMul (realSub i 0x40800000#32) 0x3D800000#32
  match (getField f (F.aioCfgChar n)).toNat with
  | 0 => (span x, false)
  | 1 =>
    let c := realMul (realOfInt (getField f (F.aioCharCutoffPermil n)).toNat) 0x3A83126F#32
    (span (if realLt x c then 0#32 else realSqrt x), false)
  | _ => tableValue f n i

/-- NE 43 (R257): the band of a current: 0 below 3.6 mA, 1 to 3.8, 2 to 20.5, 3 to 21.0, 4 above. -/
def ne43Band (i : Word) : Nat :=
  if realLt i 0x40666666#32 then 0 else if realLt i 0x40733333#32 then 1 else if realLe i 0x41A40000#32 then 2
  else if realLe i 0x41A80000#32 then 3 else 4

/-- N of R257. -/
def ne43Count (f : Tab Word) (n : Nat) : Nat :=
  let tb := max 1 (getField f F.stkPeriodTbUs).toNat
  max 1 (((getField f (F.aioCharNe43Ms n)).toNat * 1000 + tb - 1) / tb)

/-- What the conversion of a snapshot builds: registers, channels with their counts and codes, and the value words of the channels. -/
structure AioCut where
  f : Tab Word
  chans : Tab AioChan
  values : Tab Word

/-- A register flag in a field table. -/
def flagSet (f : Tab Word) (k : Nat) (b : Bool) : Tab Word := setField f k (boolWord b)

/-- An input channel converted (R256, R257). Its counts begin anew with the first snapshot after a supply switch-on, in both modules of a pair. -/
def convertInput (a : AioCut) (n raw : Nat) : AioCut :=
  let f := a.f
  let c := a.chans.get AioChan.start n
  let on (k : Nat) : Bool := getField f k != 0#32
  let i := codeCurrent raw
  let ne := on (F.aioCfgNe43En n)
  let band := if ne then ne43Band i else 2
  let used := if band < 2 then 0x40733333#32 else if band > 2 then 0x41A40000#32 else i
  let e := engineering f n used
  let off := on (F.aioStatBad n)
  let anew := c.off && !off
  let low := if band = 0 then (if anew then 0 else c.low) + 1 else 0
  let high := if band = 4 then (if anew then 0 else c.high) + 1 else 0
  let need := ne43Count f n
  let isLow := band != 2 && (c.isLow || decide (low ≥ need))
  let isHigh := band != 2 && (c.isHigh || decide (high ≥ need))
  let f := flagSet f (F.aioStatLimit n) (band != 2 || e.2 || (!ne && raw == 262143))
  let f := flagSet (flagSet f (F.aioStatNe43Low n) isLow) (F.aioStatNe43High n) isHigh
  let f := flagSet f (F.aioStatBad n) (off || isLow || isHigh || on (F.aioStatSupplyShort n) || on (F.awStatRefFault (n / 8)))
  { f := setField f (F.aioStatCurrentUa n) (word (raw / 10))
    chans := a.chans.set AioChan.start n { c with raw := raw, low := low, high := high, isLow := isLow, isHigh := isHigh, off := off }
    values := a.values.set 0#32 n e.1 }

/-- An output channel measured (R258, R264). -/
def convertOutput (a : AioCut) (n raw : Nat) : AioCut :=
  let f := a.f
  let on (k : Nat) : Bool := getField f k != 0#32
  let bad := on (F.aioStatOpenLoop n) || on (F.aioStatReadbackFault n) || on (F.aioStatAlarmActive n) || on (F.awStatRefFault (n / 8))
  let f := flagSet (flagSet f (F.aioStatLimit n) false) (F.aioStatBad n) bad
  { a with f := setField f (F.aioStatCurrentUa n) (word (min 26214 (raw / 10))), values := a.values.set 0#32 n (codeCurrent raw)
           chans := a.chans.upd AioChan.start n fun c => { c with raw := raw } }

/-- Every channel converted from the raw codes of a manifest: a channel without one is BAD with value 0.0 (R258), and no snapshot of it counts for R257. -/
def convertAio (raw : List (Nat × Nat)) (f : Tab Word) (chans : Tab AioChan) : AioCut :=
  (List.range 16).foldl (init := { f := f, chans := chans, values := [] }) fun a n =>
    match raw.find? fun e => e.1 == n with
    | none =>
      { a with f := setField (flagSet (flagSet a.f (F.aioStatBad n) true) (F.aioStatLimit n) false) (F.aioStatCurrentUa n) 0#32
               chans := a.chans.upd AioChan.start n fun c => { c with low := 0, high := 0 } }
    | some e => if getField a.f (F.aioCfgFunc n) = 3#32 then convertOutput a n e.2 else convertInput a n e.2

/-- The stroke events of the analog channels that a snapshot first shows (R269). -/
def awEvents (old new : Tab Word) : List Event :=
  (List.range 16).flatMap fun n =>
    (if rises old new (F.aioStatNe43Low n) || rises old new (F.aioStatNe43High n) then [ev (0x0200 + n) 0x2200 n] else []) ++
    (if rises old new (F.aioStatSupplyShort n) then [ev (0x0200 + n) 0x2201 n] else []) ++
    (if rises old new (F.aioStatComplianceShort n) then [ev (0x0200 + n) 0x0202 n] else []) ++
    (if rises old new (F.aioStatOpenLoop n) then [ev (0x0200 + n) 0x2203 n] else []) ++
    (if rises old new (F.aioStatReadbackFault n) then [ev (0x0200 + n) 0x2204 n] else [])

/-! ### What the commands do -/

/-- ALM_STRAP_CHANGE (R262). -/
def execAlmStrapChange (w : Nat) (fitted : Bool) (s : State) : Host.Outcome State Fault Refusal := runM (almStrapChange w fitted) s

/-- AW_LINK_FRAME (R267). -/
def execAwLinkFrame (x : AwFrame) (s : State) : Host.Outcome State Fault Refusal := runM (awLinkFrame x) s

/-- ISLAND_WATCHDOG_EXPIRED (R232). -/
def execIslandWatchdogExpired (wellhead : Nat) (s : State) : Host.Outcome State Fault Refusal := runM (islandWatchdogExpired wellhead) s

/-- AW_LINK_LOST (R267). -/
def execAwLinkLost (w : Nat) (s : State) : Host.Outcome State Fault Refusal := runM (awLinkLost w) s

/-- SUPPLY_SWITCH_ON (R253). -/
def execSupplySwitchOn (w : Nat) (s : State) : Host.Outcome State Fault Refusal := runM (supplySwitchOn w) s

/-- SUPPLY_SHORT (R269). -/
def execSupplyShort (n : Nat) (s : State) : Host.Outcome State Fault Refusal := runM (supplyShort n) s

/-- COMPLIANCE_SHORT (R263). -/
def execComplianceShort (n : Nat) (s : State) : Host.Outcome State Fault Refusal := runM (complianceShort n) s

/-- OPEN_LOOP (R263). -/
def execOpenLoop (n : Nat) (s : State) : Host.Outcome State Fault Refusal := runM (openLoop n) s

/-- READBACK_FAULT (R263). -/
def execReadbackFault (n : Nat) (s : State) : Host.Outcome State Fault Refusal := runM (readbackFault n) s

/-- AW_RESERVOIR_LOW (R266). -/
def execAwReservoirLow (w : Nat) (s : State) : Host.Outcome State Fault Refusal := runM (awReservoirLow w) s

/-- RESERVOIR_RECOVERED (R266). -/
def execReservoirRecovered (w : Nat) (s : State) : Host.Outcome State Fault Refusal := runM (reservoirRecovered w) s

/-- AW_ISLAND_RESET (R266). -/
def execAwIslandReset (w : Nat) (s : State) : Host.Outcome State Fault Refusal := runM (awIslandReset w) s

/-- REFERENCE_CHECK (R268). -/
def execReferenceCheck (w : Nat) (ok : Bool) (s : State) : Host.Outcome State Fault Refusal := runM (referenceCheck w ok) s

/-- ANALOG_SAMPLE (R255). -/
def execAnalogSample (x : AwMeas) (s : State) : Host.Outcome State Fault Refusal := runM (analogSample x) s

/-- SUPPLY_RETRY (R269). -/
def execSupplyRetry (n : Nat) (s : State) : Host.Outcome State Fault Refusal := runM (supplyRetry n) s

/-- SUPPLY_SHORT_CLEARED (R269). -/
def execSupplyShortCleared (n : Nat) (s : State) : Host.Outcome State Fault Refusal := runM (supplyShortCleared n) s

/-- COMPLIANCE_SHORT_CLEARED (R263). -/
def execComplianceShortCleared (n : Nat) (s : State) : Host.Outcome State Fault Refusal := runM (complianceShortCleared n) s

/-- OPEN_LOOP_CLEARED (R263). -/
def execOpenLoopCleared (n : Nat) (s : State) : Host.Outcome State Fault Refusal := runM (openLoopCleared n) s

/-- READBACK_FAULT_CLEARED (R263). -/
def execReadbackFaultCleared (n : Nat) (s : State) : Host.Outcome State Fault Refusal := runM (readbackFaultCleared n) s

/-- AW_ISLAND_RESTART (R266). -/
def execAwIslandRestart (w : Nat) (s : State) : Host.Outcome State Fault Refusal := runM (awIslandRestart w) s

end Sys2Proof.Machine
end

