-- ==== Sys2Proof/Machine/HartInstr.lean ====
section
/-! DEFINITION. The HART instructions, MAJOR 0x1D (R157). -/

namespace Sys2Proof.Machine

/-- Whether a transaction of the channel is outstanding for the activation: by the snapshot, or by its own HREQ. An HRES of the same activation leaves it
so: the take is recorded at the commit (R157, R276). -/
def Act.hartBusy (a : Act) (chan : Nat) : Bool :=
  getField a.snap.fields (F.hartStatOutstanding chan) != 0#32 || a.effects.any fun e => match e with
    | .hartStart c _ _ => c == chan
    | _ => false

/-- Whether the activation has already taken the channel's result. -/
def Act.hartTook (a : Act) (chan : Nat) : Bool :=
  a.effects.any fun e => match e with
    | .hartTaken c => c == chan
    | _ => false

/-- Whether HART is on for the channel in the snapshot. -/
def Act.hartOn (a : Act) (chan : Nat) : Bool :=
  getField a.snap.fields (F.hartCfgHartEn chan) != 0#32 && getField a.snap.fields (F.aioCfgFunc chan) != 0#32

/-- HREQ (R157): reads the buffer now; the transaction starts at the next commit. WRONG_MODE (1) in PRIMING, NOT_CONFIGURED (11), BUSY (3). -/
def fyHreq (d : RegNo) (chan : Nat) (arr : ArrRef) (f : Fy) : Fy :=
  f.upd fun a =>
    let st := if a.mode = 1 then 1 else if !a.hartOn chan then 11 else if a.hartBusy chan then 3 else 0
    let w0 := a.load arr.base
    let len := min (w0.bits 23 16) (arr.bytes - 8)
    let a := if st = 0 then a.effect (.hartStart chan (w0.bits 15 0) (a.loadBytes (arr.base + 8) len)) else a.refuse 0x1D 0 st chan
    (a.setReg d (word st)).retire 2 40

/-- The bytes that HRES writes; those past the response data are not stated. -/
def hresBytes (r : HartResult) : List Byte :=
  [BitVec.ofNat 8 r.command, BitVec.ofNat 8 (r.command / 256), BitVec.ofNat 8 r.data.length, BitVec.ofNat 8 r.outcome, r.respCode, r.devStatus, 0, 0] ++
  (List.range 256).map fun i => if i < r.data.length then r.data.getD i 0#8 else Config.padByte i

/-- HRES (R157): the completed result from the snapshot, or EMPTY (32). -/
def fyHres (d : RegNo) (chan : Nat) (arr : ArrRef) (f : Fy) : Fy :=
  f.upd fun a =>
    match (if a.hartTook chan then none else a.snap.hart.get none chan) with
    | none => (a.setReg d (word 32)).retire 2 40
    | some r => (((a.storeBytes arr.base (hresBytes r)).effect (.hartTaken chan)).setReg d 0#32).retire 2 40

/-! ### What the commands do -/

/-- HREQ (R157). -/
def execHreq (d : RegNo) (chan : Nat) (arr : ArrRef) (s : State) : Host.Outcome State Fault Refusal := runFy (fyHreq d chan arr) s

/-- HRES (R157). -/
def execHres (d : RegNo) (chan : Nat) (arr : ArrRef) (s : State) : Host.Outcome State Fault Refusal := runFy (fyHres d chan arr) s

end Sys2Proof.Machine
end

