-- ==== Sys2Proof/Machine/Hart.lean ====
section
/-! DEFINITION. HART on the analog channels (chapter 14): identification, transactions, burst records, pass-through. -/

namespace Sys2Proof.Machine

/-- HART channel n. -/
def M.hartGet (s : M) (n : Nat) : HartChan := s.hart.get HartChan.start n

/-- HART channel n changed. -/
def M.updHart (s : M) (n : Nat) (f : HartChan → HartChan) : M := { s with hart := s.hart.upd HartChan.start n f }

/-- Whether HART is on for a channel: HART_EN, which FUNC 0 makes without effect (R281). -/
def hartEnabled (f : Tab Word) (n : Nat) : Bool := getField f (F.hartCfgHartEn n) != 0#32 && getField f (F.aioCfgFunc n) != 0#32

/-- Whether the modem of a channel works (R273, R274, R267). -/
def M.hartActive (s : M) (n : Nat) : Bool := hartEnabled s.fields n && s.awOn (n / 8) && s.drives && !(s.awGet (n / 8)).islandDead

/-- A frame of the channel's master (R272): long to an identified device, short without an address. -/
def M.hartFrame (s : M) (n : Nat) (long : Option Nat) (command : Nat) (data : List Byte) : Out :=
  .hart n { long := long, poll := s.nat (F.hartCfgPollAddr n), secondary := s.on (F.hartCfgMaster n), preambles := s.nat (F.hartCfgPreambles n)
            command := command, data := data }

/-- The short frame of an identification: command 0 to POLL_ADDR (R273). -/
def M.hartIdent (s : M) (n : Nat) : Out := s.hartFrame n none 0 []

/-- The long frame of a request (R272). A command above 255 goes as command 31 with its number in the first two data bytes, the data clamped to 253 bytes;
PRESUMED from HART 7: the number's upper byte comes first (log entry 27). -/
def M.hartRequest (s : M) (n : Nat) (long : Option Nat) (t : HartTx) : Out :=
  if t.command > 255 then s.hartFrame n long 31 ([BitVec.ofNat 8 (t.command / 256), BitVec.ofNat 8 t.command] ++ t.data.take 253)
  else s.hartFrame n long t.command t.data

/-- Command 0 sent to POLL_ADDR; a channel without a device shows NO_DEVICE until one answers (R273). -/
def M.startIdentify (s : M) (n : Nat) : M :=
  let s := if s.nat (F.hartStatDevice n) = 3 then s else s.setN (F.hartStatDevice n) 1
  (s.updHart n fun c => { c with identify := some 0 }).emit (s.hartIdent n)

/-- The next attempt of the transaction is sent, when the device is identified and none is on the line (R272, R275). -/
def M.hartSend (s : M) (n : Nat) : M :=
  let c := s.hartGet n
  match c.tx with
  | none => s
  | some t =>
    if t.sent || t.done || c.identify.isSome || !s.hartActive n || s.nat (F.hartStatDevice n) != 2 then s
    else
      (s.updHart n fun c => { c with tx := some { t with sent := true } }).emit (s.hartRequest n c.uid t)

/-- The 38 bits of a long address (R272). -/
def longAddress (uid : Nat) : Nat := uid % 274877906944

/-- An identification succeeded (R273): the long address shown, a change of it reported, a waiting transaction sent. -/
def M.identified (s : M) (n uid : Nat) : M :=
  let uid := longAddress uid
  let old := (s.hartGet n).uid
  let s := s.updHart n fun c => { c with identify := none, uid := some uid }
  let s := ((s.setN (F.hartStatDevice n) 2).setN (F.hartUidLo n) uid).setN (F.hartUidHi n) (uid / 4294967296)
  let s := if old.isSome && old != some uid then s.hw (ev (0x0240 + n) 0x1220 n) else s
  s.hartSend n

/-- An identification failed: NO_DEVICE, reported once per change of state, and a waiting transaction completes with outcome 1 (R273). -/
def M.unidentified (s : M) (n : Nat) : M :=
  let was := s.nat (F.hartStatDevice n)
  let s := (s.updHart n fun c => { c with identify := none }).setN (F.hartStatDevice n) 3
  let s := if was = 3 then s else s.hw (ev (0x0240 + n) 0x3221 n)
  match (s.hartGet n).tx with
  | some t => s.hartDone n 1 (hartBlank t.command)
  | none => s

/-- An identification attempt ended without success; `a` attempts have been made (R273, R275). -/
def M.identifyFailed (s : M) (n a : Nat) : M :=
  if a > s.nat (F.hartCfgRetries n) then s.unidentified n
  else (s.updHart n fun c => { c with identify := some a }).emit (s.hartIdent n)

/-- An attempt of the transaction ended without success (R275): `outcome` 1 without a response, which starts an identification, 2 with an error. -/
def M.attemptFailed (s : M) (n : Nat) (t : HartTx) (outcome : Nat) : M :=
  let a := t.attempts + 1
  let s := s.updHart n fun c => { c with tx := some { t with attempts := a, sent := false } }
  let s := if a > s.nat (F.hartCfgRetries n) then s.hartDone n outcome (hartBlank t.command) else s
  if outcome = 1 then s.startIdentify n else s.hartSend n

/-- HART_RESPONSE (R275): of the identification under way, else of the transaction on the line. -/
def hartResponse (n : Nat) (f : HartFrame) (s : M) : M :=
  let c := s.hartGet n
  if !s.hartActive n then s
  else
    match c.identify, c.tx with
    | some a, _ => if f.ok then s.identified n f.uid else (s.bump (F.hartStatCommErrors n) 255 1).identifyFailed n (a + 1)
    | none, some t =>
      if !t.sent then s
      else if f.ok then s.hartDone n 0 f
      else (s.bump (F.hartStatCommErrors n) 255 1).attemptFailed n t 2
    | none, none => s

/-- HART_RT1_TIMEOUT (R275): the attempt on the line ends without a response. -/
def hartRt1Timeout (n : Nat) (s : M) : M :=
  let c := s.hartGet n
  if !s.hartActive n then s
  else
    match c.identify, c.tx with
    | some a, _ => (s.bump (F.hartStatNoResponse n) 255 1).identifyFailed n (a + 1)
    | none, some t => if t.sent then (s.bump (F.hartStatNoResponse n) 255 1).attemptFailed n t 1 else s
    | none, none => s

/-- HART_IDENTIFY_TIMER (R273): the identification repeated while no device answers. -/
def hartIdentifyTimer (n : Nat) (s : M) : M :=
  if s.hartActive n && s.nat (F.hartStatDevice n) == 3 && (s.hartGet n).identify.isNone then s.startIdentify n else s

/-- HART_BURST_FRAME (R277): a correct frame of the identified device replaces the pending one, and waits in the order of
its own completion (R276). -/
def hartBurstFrame (n : Nat) (f : HartFrame) (s : M) : M :=
  let c := s.hartGet n
  if s.hartActive n && f.ok && s.on (F.hartCfgBurstEn n) && s.nat (F.hartStatDevice n) == 2 && c.uid == some (longAddress f.uid) then
    let s := s.updHart n fun c => { c with burst := some f }
    let s := if c.burst.isSome then s.bump (F.hartBurst3Lost n) 65535 1 else s
    { s with hartQ := s.hartQ.erase (n, 1) ++ [(n, 1)] }
  else s

/-- The status of HART_PASS against the state committed at S of the snapshot that takes it (R278, R414). -/
def M.passStatus (s : M) (n : Nat) : Nat :=
  if s.mode < 2 then 1 else if !ownRoles.contains s.role then 2 else if !hartEnabled s.fields n then 11
  else if s.on (F.hartStatOutstanding n) then 3 else 0

/-! ### At the commit -/

/-- A channel freed: its transaction, results and burst record discarded (R280). DESIGN CHOICE (log entry 32): the host of a pass-through that this ends gets
NOT_CONFIGURED, 11. -/
def M.hartDiscard (s : M) (n : Nat) : M :=
  let s := match (s.hartGet n).tx.bind fun t => t.pass.bind id with
    | some q => s.reply q 11
    | none => s
  let s := s.updHart n fun c => { HartChan.start with uid := c.uid }
  let s := { s with hartQ := s.hartQ.filter fun e => e.1 != n || e.2 == 3 }
  let s := [F.hartStatOutstanding n, F.hartStatResultReady n, F.hartStatDevice n, F.hartBurst0Cmd n, F.hartBurst0Length n, F.hartBurst0RespCode n,
    F.hartBurst1Valid n, F.hartBurst1DevStatus n, F.hartBurst2Age n].foldl (init := s) fun s k => s.setN k 0
  foldNat 64 s fun s p => s.setN (F.hartBurstData n p) 0

/-- A transaction starts (R157, R275). DESIGN CHOICE (log entry 26): one that finds the channel outstanding, the HREQ of a sliced task judged on an older
snapshot, waits until the channel is free. -/
def M.startHart (s : M) (n cmd : Nat) (data : List Byte) (task : Nat) (pass : Option (Option Req)) : M :=
  let t : HartTx := { command := cmd, data := data, attempts := 0, sent := false, task := task, pass := pass }
  let s := s.setB (F.hartStatOutstanding n) true
  if (s.hartGet n).tx.isSome then s.updHart n fun c => { c with next := some t }
  else (s.updHart n fun c => { c with tx := some t }).hartSend n

/-- The transaction ends: the channel is free (R157, R276), for the transaction that waits if there is one. -/
def M.takeHart (s : M) (n : Nat) : M :=
  let s := s.setB (F.hartStatOutstanding n) (s.hartGet n).next.isSome
  ((s.updHart n fun c => { c with tx := c.next, next := none, view := none }).setB (F.hartStatResultReady n) false).hartSend n

/-- An HRES's take recorded (R157): it ends the transaction whose result is in the view, and nothing where the channel has been freed since. -/
def M.hresTaken (s : M) (n : Nat) : M := if (s.hartGet n).view.isSome then s.takeHart n else s

/-- The HART side of a commit, after the effects of tasks: channels switched off are freed; a module that does not drive the field has no device;
a new holder completes what it showed as outstanding with outcome 3 and identifies anew; identification starts where none has been made (R273, R274,
R280). `old` are the registers before the commit; `fresh` says that this is the first commit since the bucket was taken. -/
def M.commitHart (s : M) (old : Tab Word) (fresh : Bool) : M :=
  foldNat 16 s fun s n =>
    let s := if !hartEnabled s.fields n && (hartEnabled old n || (s.hartGet n).tx.isSome) then s.hartDiscard n else s
    let s := if fresh && getField old (F.hartStatOutstanding n) != 0#32 then s.abortChan n else s
    let s := if fresh && s.hartActive n then s.startIdentify n else s
    if !s.drives then
      (s.updHart n fun c => { c with identify := none, tx := c.tx.map fun t => { t with sent := false } }).setN (F.hartStatDevice n) 0
    else if s.hartActive n && (s.hartGet n).identify.isNone && decide (s.nat (F.hartStatDevice n) < 2) then s.startIdentify n
    else s.hartSend n

/-- Pass-through results that the ended stroke's snapshot took: the channel is free and the host gets the bytes of R157 (R278). -/
def M.finishPass (s : M) (es : List HartEntry) : M :=
  es.foldl (init := s) fun s e =>
    if e.kind != 2 then s
    else
      match (s.hartGet e.chan).tx with
      | none => s
      | some t =>
      if !t.done || t.pass.isNone then s
      else
      let s := s.takeHart e.chan
      match t.pass.bind id with
      | some q =>
        let h : HartResult := { command := e.frame.command, outcome := e.outcome, respCode := e.frame.respCode, devStatus := e.frame.devStatus, data := e.frame.data }
        s.reply q 0 ((hresBytes h).take (8 + e.frame.data.length))
      | none => s

/-! ### At the cut (R276 to R278, R94) -/

/-- The manifest entry of a waiting HART item; none for a pass-through request that finds the channel outstanding. -/
def M.hartEntry (s : M) (x : Nat × Nat) : Option HartEntry :=
  let c := s.hartGet x.1
  if x.2 = 1 then c.burst.map fun f => { chan := x.1, kind := 1, outcome := 0, frame := f }
  else if x.2 = 3 then
    match s.net.queue.findSome? fun q => match q.cmd with
      | .hartPass n cmd data => if n = x.1 then some (cmd, data) else none
      | _ => none with
    | some (cmd, data) => some { chan := x.1, kind := 3, outcome := 0, frame := { hartBlank cmd with data := data } }
    | none => none
  else
    match c.result, c.tx with
    | some (o, f), some t =>
      some { chan := x.1, kind := if t.pass.isSome then 2 else 0, outcome := o, frame := { f with command := t.command } }
    | _, _ => none

/-- The host request of a pass-through taken out of the queue, with its status. -/
def M.passTaken (s : M) (n st : Nat) : M :=
  let mine (q : HostReq) : Bool := match q.cmd with
    | .hartPass c _ _ => c == n
    | _ => false
  match s.net.queue.find? mine with
  | none => s
  | some q =>
    let s := { s with net := { s.net with queue := s.net.queue.erase q, taken := s.net.taken ++ [{ q with status := some st }] } }
    if st = 0 then s else s.refusal 0x0051 st q.principal

/-- The HART items that the cut takes, with the bytes left of the allowance: the earliest that fit; each one held counts as deferred (R94). -/
def M.cutHart : List (Nat × Nat) → Nat → M → M × List HartEntry
  | [], _, s => ({ s with hartQ := [] }, [])
  | x :: r, room, s =>
    match s.hartEntry x with
    | none => s.cutHart r room
    | some e =>
      if e.kind = 3 ∧ s.passStatus x.1 ≠ 0 then (s.passTaken x.1 (s.passStatus x.1)).cutHart r room
      else if 8 + e.frame.data.length > room then
        ({ s with hartQ := x :: r }.bump F.stkDeferHartDeferred 65535 (r.length + 1), [])
      else
        let s := if e.kind = 3 then (s.passTaken x.1 0).setB (F.hartStatOutstanding x.1) true else s
        let a := s.cutHart r (room - (8 + e.frame.data.length))
        (a.1, e :: a.2)

/-- A burst record written by a snapshot (R277). -/
def M.writeBurst (s : M) (n : Nat) (f : HartFrame) : M :=
  let s := [(F.hartBurst0Cmd n, f.command), (F.hartBurst0Length n, f.data.length), (F.hartBurst0RespCode n, f.respCode.toNat),
    (F.hartBurst1DevStatus n, f.devStatus.toNat), (F.hartBurst1Valid n, 1), (F.hartBurst2Age n, 0)].foldl (init := s)
    fun s (x : Nat × Nat) => s.setN x.1 x.2
  let s := foldNat 64 s fun s p => s.set (F.hartBurstData n p) (memWord (f.data.zipIdx.foldl (init := []) fun m b => memPut m b.2 b.1) (4 * p))
  s.wrap (F.hartBurst3Taken n) 16 1

/-- One entry of a manifest taken into the snapshot. -/
def M.applyHartEntry (s : M) (e : HartEntry) : M :=
  let n := e.chan
  let status (s : M) : M := s.setN (F.hartStatDevStatus n) e.frame.devStatus.toNat
  if e.kind = 1 then status ((s.updHart n fun c => { c with burst := none }).writeBurst n e.frame)
  else if e.kind = 3 then
    let q := s.net.taken.find? fun q => q.status == some 0 && (match q.cmd with
      | .hartPass c _ _ => c == n
      | _ => false)
    let s := match q with
      | some x => { s with net := { s.net with taken := s.net.taken.erase x } }
      | none => s
    s.startHart n e.frame.command e.frame.data 16 (some (q.bind (·.req)))
  else
    let s := if e.outcome = 0 then status s else s
    let h : HartResult := { command := e.frame.command, outcome := e.outcome, respCode := e.frame.respCode, devStatus := e.frame.devStatus, data := e.frame.data }
    let s := s.updHart n fun c => { c with result := none, tx := c.tx.map (fun t => { t with done := true }), view := if e.kind = 0 then some h else c.view }
    if e.kind = 0 then s.setB (F.hartStatResultReady n) true else s

/-- The HART section of a manifest taken into the snapshot: ages advance first (R277). -/
def M.applyHart (s : M) (es : List HartEntry) : M :=
  let s := foldNat 16 s fun s n => if s.on (F.hartBurst1Valid n) then s.bump (F.hartBurst2Age n) 65535 1 else s
  es.foldl M.applyHartEntry s

/-- What HRES finds in the snapshot. -/
def M.hartViews (s : M) : Tab (Option HartResult) :=
  s.hart.filterMap fun e => e.2.view.map fun v => (e.1, some v)

/-! ### What the commands do -/

/-- HART_RESPONSE (R275). -/
def execHartResponse (n : Nat) (f : HartFrame) (s : State) : Host.Outcome State Fault Refusal := runM (hartResponse n f) s

/-- HART_RT1_TIMEOUT (R275). -/
def execHartRt1Timeout (n : Nat) (s : State) : Host.Outcome State Fault Refusal := runM (hartRt1Timeout n) s

/-- HART_IDENTIFY_TIMER (R273). -/
def execHartIdentifyTimer (n : Nat) (s : State) : Host.Outcome State Fault Refusal := runM (hartIdentifyTimer n) s

/-- HART_BURST_FRAME (R277). -/
def execHartBurstFrame (n : Nat) (f : HartFrame) (s : State) : Host.Outcome State Fault Refusal := runM (hartBurstFrame n f) s

end Sys2Proof.Machine
end

