-- ==== Sys2Proof/Machine/Can.lean ====
section
/-! DEFINITION. The CAN FD ports: timing, reception, routing, transmission, errors (chapter 15). -/

namespace Sys2Proof.Machine

/-- CAN port p. -/
def M.port (s : M) (p : Nat) : CanPort := s.can.get CanPort.start p

/-- CAN port p changed; CAN_TX_PEND shows the buffers that hold an unsent frame, none in a module that does not drive the field (R291, R292). -/
def M.updPort (s : M) (p : Nat) (f : CanPort → CanPort) : M :=
  let c := f (s.port p)
  { s with can := s.can.set CanPort.start p c }.setN (F.canTxPend p) (c.tx.foldl (init := 0) fun w (e : Nat × Option CanFrame) => w + if e.2.isSome && s.drives then 2 ^ e.1 else 0)

/-- Whether a port is enabled, as applied (R284): CAN_RATE_NOM is 0 while it is disabled (R298). -/
def M.canEnabled (s : M) (p : Nat) : Bool := s.nat (F.canRateNom p) != 0

/-- Whether a port works: enabled, NET on, the first commit made; a joiner receives what the manifest of its first stroke in step will name (R95, R285). -/
def M.canLive (s : M) (p : Nat) : Bool :=
  s.canEnabled p && s.domainOn 4 && (s.settled || s.role == 3) && s.nat (F.canStatState p) != 3

/-- Whether a port only listens (R293). -/
def M.canListens (s : M) (p : Nat) : Bool := s.on (F.canStatListenActive p)

/-! ### Bit timing (R283, R284) -/

/-- The smallest prescaler with `q · b ≥ lo` from `b` on. -/
def raisedTo (q b lo : Nat) : Nat := if q * b < lo then (lo + q - 1) / q else b

/-- P of R283 after the adjustments of R284, from the fields of CAN_NBT. -/
def nominalP (brp seg1 seg2 : Nat) : Nat :=
  let q := 1 + seg1 + seg2
  let b := raisedTo q brp 40
  q * (if q * b > 320 then 320 / q else b)

/-- PD of R283 after the adjustments of R284, from the fields of CAN_DBT; the nominal timing where no prescaler fits. -/
def dataPd (p brp seg1 seg2 : Nat) : Nat :=
  let q := 1 + seg1 + seg2
  let b := raisedTo q brp 8
  let b := if q * b > p then p / q else b
  if b = 0 then p else q * b

/-- The bit timing and ENABLE of a port applied from a register file (R284): a port newly enabled, or whose rates change, starts with its error
counters at 0. -/
def M.applyTiming (s : M) (f : Tab Word) (p : Nat) : M :=
  let n (k : Nat) : Nat := (getField f k).toNat
  let np := nominalP (n (F.canNbtNbrp p)) (n (F.canNbtNtseg1 p)) (n (F.canNbtNtseg2 p))
  let pd := dataPd np (n (F.canDbtDbrp p)) (n (F.canDbtDtseg1 p)) (n (F.canDbtDtseg2 p))
  let on := n (F.canCtrlEnable p) != 0
  let nom := if on then 40000000 / np else 0
  let dat := if on then 40000000 / pd else 0
  if nom = s.nat (F.canRateNom p) ∧ dat = s.nat (F.canRateData p) then s
  else
    let s := (s.setN (F.canRateNom p) nom).setN (F.canRateData p) dat
    ((s.setN (F.canStatState p) (if on && s.domainOn 4 then 0 else 3)).setN (F.canStatTec p) 0).setN (F.canStatRec p) 0

/-! ### Reception (R285 to R289) -/

/-- Whether a frame matches filter f of a port (R286). -/
def canMatches (t : Tab Word) (p f : Nat) (x : CanFrame) : Bool :=
  let n (k : Nat) : Nat := (getField t k).toNat
  let mask := if x.ide then n (F.canFltMaskMask p f) else n (F.canFltMaskMask p f) % 2048
  let kind := n (F.canFltCfgFrame p f)
  n (F.canFltCfgRoute p f) != 0 && decide (n (F.canFltMatchIde p f) = boolNat x.ide) &&
    decide (x.ident &&& mask = n (F.canFltMatchMatch p f) &&& mask) && (kind == 0 || (kind == 1 && !x.fdf) || (kind == 2 && x.fdf))

/-- The first filter that matches a frame (R286). -/
def canFilter (t : Tab Word) (p : Nat) (x : CanFrame) : Option Nat := (List.range 64).find? fun f => canMatches t p f x

/-- An identifier collision (R294). -/
def M.canCollide (s : M) (p ident : Nat) : M :=
  let s := (s.setB (F.canFlagsIdCollision p) true).bump (F.canCntErrCollisions p) 255 1
  s.hw (ev (0x0300 + p) 0x3304 p ident)

/-- New error counters (R295, R296): above 255 the port goes to bus-off, from 128 on it is error passive. -/
def M.canCounters (s : M) (p tec rec : Nat) : M :=
  let s := (s.setN (F.canStatTec p) (min 255 tec)).setN (F.canStatRec p) (min 255 rec)
  let was := s.nat (F.canStatState p)
  if tec > 255 then
    let s := ((s.setN (F.canStatState p) 2).setB (F.canFlagsBusOffSeen p) true).bump (F.canCntErrBusOffs p) 255 1
    let auto := s.on (F.canCtrlAutoRecover p)
    (s.updPort p fun c => { c with recovering := auto }).hw (ev (0x0300 + p) 0x3302 p)
  else if tec ≥ 128 ∨ rec ≥ 128 then
    if was = 1 then s else (s.setN (F.canStatState p) 1).hw (ev (0x0300 + p) 0x1301 p)
  else s.setN (F.canStatState p) 0

/-- REC after a frame received without error, as ISO 11898-1 counts (R295). PRESUMED (log entry 90). -/
def recAfterGood (rec : Nat) : Nat := if rec ≤ 127 then rec - 1 else 119 + Config.canRecBack rec % 9

/-- The error counters changed by TEC and REC rules of ISO 11898-1 (R282, R295); they stand still while the port only listens and in bus-off (R293). -/
def M.canCount (s : M) (p : Nat) (tec rec : Nat → Nat) : M :=
  if s.canListens p || s.nat (F.canStatState p) == 2 then s
  else s.canCounters p (tec (s.nat (F.canStatTec p))) (rec (s.nat (F.canStatRec p)))

/-- The timestamp of a start-of-frame bit sampled at a time of the timebase (R289): the 32-bit counter at 10 MHz that both ports share. -/
def canStamp (sof : Nat) : Word := Config.canCounterStart + BitVec.ofNat 32 (sof / 100)

/-- CAN_FRAME_RECEIVED (R285, R294): stored with its timestamp, and REC counts it; an OWNED filter that matches raises a collision unless the port only
listens; a lead module with a partner in SHADOW, or about to be, sends a notice (R289). -/
def canFrameReceived (p : Nat) (r : CanRx) (s : M) : M :=
  if !s.canLive p || s.nat (F.canStatState p) == 2 then s
  else
    let x := { r.frame with stamp := canStamp r.sof }
    let s := s.canCount p id recAfterGood
    let s := s.updPort p fun c => { c with store := c.store ++ [(x, s.stroke.toNat)] }
    let owned := (List.range 64).any fun f => canMatches s.fields p f x && s.on (F.canFltCfgOwned p f)
    let s := if owned && !s.canListens p then s.canCollide p x.ident else s
    if s.role = 1 ∧ (s.nat F.redStatusPartnerRole = 2 ∨ s.nat F.redStatusPartnerRole = 3) then s.ropeOut (.notice p x) else s

/-- RX_NOTICE (R289): the lead module's timestamp of a frame. -/
def rxNotice (p : Nat) (x : CanFrame) (s : M) : M := if s.role = 2 ∨ s.role = 3 then s.updPort p fun c => { c with notices := c.notices ++ [(x, s.stroke.toNat)] } else s

/-- REMOTE_FRAME (R282): acknowledged and counted, a frame received without error. -/
def remoteFrame (p : Nat) (s : M) : M :=
  if s.canLive p && s.nat (F.canStatState p) != 2 then (s.canCount p id recAfterGood).bump (F.canCntErrRemoteFrames p) 255 1 else s

/-- PROTOCOL_EXCEPTION (R282): no error frame, and no error counted. -/
def protocolException (p : Nat) (s : M) : M :=
  if s.canLive p && s.nat (F.canStatState p) != 2 then s.bump (F.canCntErrProtocolExceptions p) 255 1 else s

/-- The cut's choice for one port (R286): the store emptied, one entry for each frame routed; frames that match no filter counted. -/
def M.cutPort (s : M) (p : Nat) : M × List CanEntry :=
  let es := (s.port p).store.map fun x => (x.1, canFilter s.fields p x.1)
  let lost := (es.filter fun x => x.2.isNone).length
  let s := (s.updPort p fun c => { c with store := [] }).bump (F.canCntRxUnmatched p) 65535 lost
  let taken := es.filterMap fun x => match x.2 with
    | none => none
    | some f =>
      let route := s.nat (F.canFltCfgRoute p f)
      if route = 4 then none else some { port := p, frame := x.1, route := route, mailbox := s.nat (F.canFltCfgMailbox p f), filter := f }
  (s, taken)

/-- The CAN section that the cut builds. -/
def M.cutCan (s : M) : M × List CanEntry :=
  let a := s.cutPort 0
  let b := a.1.cutPort 1
  (b.1, a.2 ++ b.2)

/-- A frame routed to a FIFO (R287): discarded where it is full; the number discarded is returned. -/
def M.pushFifo (s : M) (p q : Nat) (e : CanEntry) : M × Nat :=
  let l := s.fifos.get [] (fifoKey p q)
  if l.length ≥ 64 then
    let s := s.bump (F.canCntRxFifoOverflows p) 65535 1
    (s.setB (if q = 0 then F.canFlagsFifo0Overflow p else F.canFlagsFifo1Overflow p) true, 1)
  else ({ s with fifos := s.fifos.set [] (fifoKey p q) (l ++ [(e.frame, e.filter)]) }, 0)

/-- A frame routed to a mailbox (R288): LOST where it replaces a frame not yet read. -/
def M.putBox (s : M) (p : Nat) (e : CanEntry) : M :=
  let k := boxKey p e.mailbox
  let lost := match s.boxes.get none k with
    | some b => b.lost || !b.isRead
    | none => false
  { s with boxes := s.boxes.set none k (some { frame := e.frame, filter := e.filter, isRead := false, lost := lost }) }

/-- CAN_MB_NEW and CAN_FIFO_STAT from mailboxes and FIFOs (R298). -/
def M.showCan (s : M) : M :=
  foldNat 2 s fun s p =>
    let s := s.setN (F.canFifoStatFifo0Count p) (s.fifos.get [] (fifoKey p 0)).length
    let s := s.setN (F.canFifoStatFifo1Count p) (s.fifos.get [] (fifoKey p 1)).length
    foldNat 4 s fun s j =>
      s.setN (F.canMbNew p j) ((List.range 32).foldl (init := 0) fun w i => w + match s.boxes.get none (boxKey p (32 * j + i)) with
        | some b => if b.isRead then 0 else 2 ^ i
        | none => 0)

/-- The frames of one FIFO taken into the snapshot, with the overflow event of R287. -/
def M.fillFifo (s : M) (es : List CanEntry) (p q : Nat) : M :=
  let mine := es.filter fun e => e.port == p && e.route == q + 1
  let r := mine.foldl (init := (s, 0)) fun (a : M × Nat) e =>
    let x := a.1.pushFifo p q e
    (x.1, a.2 + x.2)
  if r.2 > 0 then r.1.strokeEvent (ev (0x0300 + p) 0x0300 p q r.2) else r.1

/-- The CAN section of a manifest taken into the snapshot. -/
def M.applyCan (s : M) (es : List CanEntry) : M :=
  let s := foldNat 2 s fun s p => (s.fillFifo es p 0).fillFifo es p 1
  (es.foldl (init := s) fun s e => if e.route = 3 then s.putBox e.port e else s).showCan

/-- Whether two frames are the same but for their timestamps. -/
def sameFrame (a b : CanFrame) : Bool := { a with stamp := 0#32 } == { b with stamp := 0#32 }

/-- A manifest entry resolved by the shadow module (R95, R289): its own reception and the notice with the lead module's timestamp; none where
either is missing. -/
def M.resolveCan (s : M) (e : CanEntry) : Option (M × CanEntry) :=
  let c := s.port e.port
  match c.store.find? fun x => sameFrame x.1 e.frame, c.notices.find? fun x => sameFrame x.1 e.frame with
  | some own, some note =>
    some (s.updPort e.port fun c => { c with store := c.store.erase own, notices := c.notices.erase note }, { e with frame := note.1 })
  | _, _ => none

/-- Every entry resolved, or none. -/
def M.resolveAll : List CanEntry → M → Option (M × List CanEntry)
  | [], s => some (s, [])
  | e :: r, s =>
    match s.resolveCan e with
    | none => none
    | some x => (x.1.resolveAll r).map fun y => (y.1, x.2 :: y.2)

/-- Frames that the shadow module has held for more than two strokes leave its store, and notices with them (R95). -/
def M.ageStores (s : M) (k : Nat) : M :=
  let young (x : CanFrame × Nat) : Bool := decide (k ≤ x.2 + 2)
  foldNat 2 s fun s p => s.updPort p fun c => { c with store := c.store.filter young, notices := c.notices.filter young }

/-! ### Transmission (R290 to R292) -/

/-- The place of a buffer's frame in arbitration (R290): the leading 11 bits of the identifier, base before extended, the remaining bits, the buffer number. -/
def canRank (b : Nat) (x : CanFrame) : Nat :=
  let lead := if x.ide then x.ident / 262144 else x.ident
  let rest := if x.ide then x.ident % 262144 else 0
  ((lead * 2 + boolNat x.ide) * 262144 + rest) * 32 + b

/-- The frame that the controller offers to arbitration: of those released the one with the highest priority (R290). -/
def CanPort.best (c : CanPort) : Option (Nat × CanFrame) :=
  c.tx.foldl (init := none) fun m e =>
    match e.2, m with
    | none, m => m
    | some x, none => some (e.1, x)
    | some x, some y => if canRank e.1 x < canRank y.1 y.2 then some (e.1, x) else some y

/-- What a port offers, as it now stands: nothing while it only listens, does not work or is bus-off (R290, R292, R293, R295). -/
def M.offer (s : M) (p : Nat) : M :=
  let o := if s.canLive p && !s.canListens p && s.nat (F.canStatState p) != 2 then (s.port p).best else none
  if o = (s.port p).offered then s
  else
    let s := s.updPort p fun c => { c with offered := o }
    match o with
    | some x => s.emit (.canOffer p x.1)
    | none => s

/-- A frame that a CANTX loaded placed in its buffer at a commit and released (R291, R292): dropped in a module that does not drive the field;
`onBus` are the buffers whose frame is in arbitration or transmission. A replacement that still waits for one of these is an unsent frame of the buffer, and is
replaced too. -/
def M.placeTx (s : M) (onBus : List Nat) (p b : Nat) (x : CanFrame) : M :=
  if !s.drives || !s.canEnabled p || !s.domainOn 4 then s
  else
    let c := s.port p
    let held := (c.tx.get none b).isSome
    let s := if (c.next.get none b).isSome then s.bump (F.canCntTxTxReplaced p) 65535 1 else s
    if held && onBus.contains (32 * p + b) then
      s.updPort p fun c => { c with next := c.next.set none b (some x), abort := c.abort.filter (· != b) }
    else
      let s := if held then s.bump (F.canCntTxTxReplaced p) 65535 1 else s
      s.updPort p fun c => { c with tx := c.tx.set none b (some x), next := c.next.set none b none }

/-- CAN_TX_ABORT applied at a commit (R291): a replacement that waits is withdrawn at once, a frame on the bus where it does not get through. -/
def M.abortTx (s : M) (onBus : List Nat) (p : Nat) (bits : Word) : M :=
  foldNat 32 s fun s b =>
    if !bitAt bits b || ((s.port p).tx.get none b).isNone then s
    else
      let s := if ((s.port p).next.get none b).isSome then
        (s.updPort p fun c => { c with next := c.next.set none b none }).bump (F.canCntTxTxDiscarded p) 65535 1 else s
      if onBus.contains (32 * p + b) then s.updPort p fun c => { c with abort := addOnce c.abort b }
      else (s.updPort p fun c => { c with tx := c.tx.set none b none }).bump (F.canCntTxTxDiscarded p) 65535 1

/-- Every pending frame discarded, a frame on the bus where it does not get through; `count` says whether TX_DISCARDED counts them (R292, R297). -/
def M.dropTx (s : M) (onBus : List Nat) (p : Nat) (count : Bool) : M :=
  let kept := (s.port p).tx.filter fun e => e.2.isSome && onBus.contains (32 * p + e.1)
  let n := (s.port p).tx.length + (s.port p).next.length - kept.length
  let s := s.updPort p fun c => { c with tx := kept, next := [], abort := kept.map (·.1) }
  if count then s.bump (F.canCntTxTxDiscarded p) 65535 n else s

/-- CAN_FRAME_SENT (R291): the frame leaves its buffer; a replacement that waited follows it; and TEC counts the frame (R295). -/
def canFrameSent (p b : Nat) (s : M) : M :=
  let c := s.port p
  if (c.tx.get none b).isNone then s
  else
    let n := if s.drives then c.next.get none b else none
    let s := s.updPort p fun c => { c with tx := c.tx.set none b n, next := c.next.set none b none, abort := c.abort.filter (· != b) }
    (s.canCount p (· - 1) id).offer p

/-- Frames on the bus that did not get through: replacements and withdrawals that waited for them take place (R291); those of a module that no longer drives
the field go uncounted (R297). -/
def M.settleTx (s : M) (p : Nat) : M :=
  let c := s.port p
  if !s.drives then s.updPort p fun c => { c with tx := [], next := [], abort := [] }
  else
  let s := c.next.foldl (init := s) fun s e =>
    (s.updPort p fun c => { c with tx := c.tx.set none e.1 e.2 }).bump (F.canCntTxTxReplaced p) 65535 1
  let s := c.abort.foldl (init := s) fun s b =>
    (s.updPort p fun c => { c with tx := c.tx.set none b none }).bump (F.canCntTxTxDiscarded p) 65535 1
  s.updPort p fun c => { c with next := [], abort := [] }

/-! ### Errors and bus-off (R294 to R296) -/

/-- CAN_BUS_ERROR (R291, R294, R295): a frame that did not get through is sent again, replaced or withdrawn; the error counts by the rules of ISO 11898-1: as
transmitter TEC by 8 unless spared, as receiver REC by 1, and by 8 for each further step. PRESUMED from ISO 11898-1 (log entry 90). While the port only listens
nothing counts, and no collision is raised. -/
def canBusError (p : Nat) (e : CanError) (s : M) : M :=
  if !s.canLive p then s
  else
    let s := s.settleTx p
    (match e with
      | .arbitration => s
      | .sending spared more => s.canCount p (· + (if spared then 0 else 8) + 8 * more) id
      | .receiving more => s.canCount p id (· + 1 + 8 * more)
      | .collision ident => if s.canListens p then s else (s.canCollide p ident).canCount p (· + 8) id).offer p

/-- TXD_DOMINANT_TIMEOUT (R282): the bus is released and a bit error counts under the error counters, in TEC as transmitter and in REC as receiver (log entry
90). -/
def txdDominantTimeout (p : Nat) (sending : Bool) (more : Nat) (s : M) : M :=
  if s.canLive p then
    let s := s.settleTx p
    let step (n : Nat) : Nat := n + 8 + 8 * more
    (s.canCount p (if sending then step else id) (if sending then id else step)).offer p
  else s

/-- CAN_CMD.RECOVER applied at a commit (R295). -/
def M.recoverCan (s : M) (p : Nat) : M := if s.nat (F.canStatState p) = 2 then s.updPort p fun c => { c with recovering := true } else s

/-- CAN_RECOVERED (R295): ERROR_ACTIVE with both counters at 0. -/
def canRecovered (p : Nat) (s : M) : M :=
  if s.nat (F.canStatState p) = 2 ∧ (s.port p).recovering then
    let s := s.updPort p fun c => { c with recovering := false }
    ((((s.setN (F.canStatState p) 0).setN (F.canStatTec p) 0).setN (F.canStatRec p) 0).hw (ev (0x0300 + p) 0x1303 p)).offer p
  else s

/-! ### At the commit -/

/-- FIFO removals of an activation (R287). -/
def M.popFifo (s : M) (p q : Nat) : M := { s with fifos := s.fifos.upd [] (fifoKey p q) fun l => l.drop 1 }

/-- A mailbox read recorded (R156). -/
def M.readBox (s : M) (p b : Nat) : M :=
  { s with boxes := s.boxes.upd none (boxKey p b) fun x => x.map fun y => { y with isRead := true, lost := false } }

/-- What the settings make of the ports: listen-only as it now stands (R293), recovery where AUTO_RECOVER is set (R295), and what they offer (R290). -/
def M.showPorts (s : M) : M :=
  foldNat 2 s.showListen fun s p => (if s.on (F.canCtrlAutoRecover p) then s.recoverCan p else s).offer p

/-- The CAN side of a commit: a module that does not drive the field holds no frames but one on the bus (R292, R297). -/
def M.commitCan (s : M) (onBus : List Nat) : M :=
  (foldNat 2 s fun s p => if s.drives then s else s.dropTx onBus p false).showPorts

/-! ### What the commands do -/

/-- CAN_FRAME_RECEIVED (R285). -/
def execCanFrameReceived (p : Nat) (x : CanRx) (s : State) : Host.Outcome State Fault Refusal := runM (canFrameReceived p x) s

/-- CAN_FRAME_SENT (R291). -/
def execCanFrameSent (p b : Nat) (s : State) : Host.Outcome State Fault Refusal := runM (canFrameSent p b) s

/-- CAN_BUS_ERROR (R295). -/
def execCanBusError (p : Nat) (e : CanError) (s : State) : Host.Outcome State Fault Refusal := runM (canBusError p e) s

/-- CAN_RECOVERED (R295). -/
def execCanRecovered (p : Nat) (s : State) : Host.Outcome State Fault Refusal := runM (canRecovered p) s

/-- PROTOCOL_EXCEPTION (R282). -/
def execProtocolException (p : Nat) (s : State) : Host.Outcome State Fault Refusal := runM (protocolException p) s

/-- REMOTE_FRAME (R282). -/
def execRemoteFrame (p : Nat) (s : State) : Host.Outcome State Fault Refusal := runM (remoteFrame p) s

/-- TXD_DOMINANT_TIMEOUT (R282). -/
def execTxdDominantTimeout (p : Nat) (sending : Bool) (more : Nat) (s : State) : Host.Outcome State Fault Refusal := runM (txdDominantTimeout p sending more) s

/-- RX_NOTICE (R289). -/
def execRxNotice (p : Nat) (x : CanFrame) (s : State) : Host.Outcome State Fault Refusal := runM (rxNotice p x) s

end Sys2Proof.Machine
end

