-- ==== Sys2Proof/Machine/Control.lean ====
section
/-! DEFINITION. Control flow and system instructions, MAJOR 0x0C and 0x14 (R147 to R149, R152). -/

namespace Sys2Proof.Machine

/-- Loops that a jump to `target` leaves: those of the present subroutine level whose body does not hold the target. A loop left so
ends with gd = passes (R148). -/
def leaveLoops (a : Act) (target : Nat) : List LoopFrame → Act
  | [] => { a with loops := [] }
  | f :: r =>
    if f.depth = a.calls.length ∧ ¬(f.start ≤ target ∧ target < f.stop) then
      leaveLoops (({ a with loops := r }).setReg f.reg (word (f.pass + 1))) target r
    else { a with loops := f :: r }

/-- A taken branch of `bu` BU to `target`; a branch out of a LOOP body ends that loop. -/
def Act.jump (a : Act) (target bu : Nat) : Act :=
  leaveLoops { a with pc := target, charge := a.charge + bu } target a.loops

/-- The target of a branch: the word after the literal, advanced by the offset (R147). -/
def branchTarget (a : Act) (off : Word) : Nat := a.pc + 2 + off.toNat

/-- BR (R147). -/
def fyBr (off : Word) (f : Fy) : Fy := f.upd fun a => a.jump (branchTarget a off) 1

/-- BRT (R147): if a ≠ 0, continue at the target. -/
def fyBrt (ra : RegNo) (off : Word) (f : Fy) : Fy :=
  f.upd fun a => if a.reg ra = 0#32 then a.retire 2 1 else a.jump (branchTarget a off) 1

/-- BRF (R147): if a = 0, continue at the target. -/
def fyBrf (ra : RegNo) (off : Word) (f : Fy) : Fy :=
  f.upd fun a => if a.reg ra = 0#32 then a.jump (branchTarget a off) 1 else a.retire 2 1

/-- The number of passes of a LOOP (R148): the bound where field a is 0, else ga read as INT32, clamped to 0 .. bound. -/
def loopCount (a : Act) (ra : RegNo) (bound : Nat) : Nat :=
  if ra = 0#7 then bound else (clampInt 0 bound (a.reg ra).toInt).toNat

/-- LOOP (R148): bounded repetition of the `len` words after the literal; 3 BU and 1 BU per pass. -/
def fyLoop (d ra : RegNo) (bound len : Nat) (f : Fy) : Fy :=
  f.upd fun a =>
    let n := loopCount a ra bound
    let start := a.pc + 2
    if n = 0 then (a.setReg d 0#32).retire (2 + len) 3
    else
      ({ a with
          pc := start
          charge := a.charge + 4
          loops := { start := start, stop := start + len, pass := 0, count := n, reg := d, depth := a.calls.length } :: a.loops }).setReg d 0#32

/-- CALL (R149): 4 BU; the subroutine at word offset `entry` of CODE runs in the caller's registers. -/
def fyCall (entry : Nat) (f : Fy) : Fy :=
  f.upd fun a => { a with calls := (a.pc + 2) :: a.calls, pc := entry, charge := a.charge + 4 }

/-- RET (R147): returns to the word after the CALL and its literal; in the task's own code it ends the activation. 0 BU. -/
def fyRet (f : Fy) : Fy :=
  f.upd fun a =>
    match a.calls with
    | [] => { a with done := true }
    | r :: rest =>
      let ls := a.loops.filter fun l => l.depth ≤ rest.length
      settleLoops { a with calls := rest, pc := r, loops := ls } ls

/-- END (R147): ends the activation. -/
def fyEnd (f : Fy) : Fy := f.upd fun a => { a with done := true, charge := a.charge + 1 }

/-- NOP (R147). -/
def fyNop (f : Fy) : Fy := f.upd fun a => a.retire 1 1

/-- STROKE (R152): pair d is the stroke number of the snapshot that the activation sees. -/
def fyStroke (d : RegNo) (f : Fy) : Fy := f.result64 d f.act.snap.stroke 1 2

/-- TASKID (R152): the number of the executing task. -/
def fyTaskid (d : RegNo) (f : Fy) : Fy :=
  f.result d (if f.act.priming then Config.primingTaskId else word f.act.task) 1 1

/-- EVT (R152): an application event with code 0x8000 + literal bits [14:0] and the registers ga to ga+3 as parameters; at most 16
per activation, each further one returning EVENT_LIMIT (37) and recording nothing. -/
def fyEvt (d ra : RegNo) (code : Nat) (f : Fy) : Fy :=
  f.upd fun a =>
    if a.events ≥ 16 then (a.setReg d (word 37)).retire 2 6
    else
      let e : Event := { source := a.source, code := BitVec.ofNat 16 (0x8000 + code % 0x8000), p0 := a.reg ra, p1 := a.reg (ra + 1), p2 := a.reg (ra + 2), p3 := a.reg (ra + 3) }
      ((({ a with events := a.events + 1 }).effect (.event e)).setReg d 0#32).retire 2 6

/-! ### What the commands do -/

/-- BR (R147). -/
def execBr (off : Word) (s : State) : Host.Outcome State Fault Refusal := runFy (fyBr off) s

/-- BRT (R147). -/
def execBrt (ra : RegNo) (off : Word) (s : State) : Host.Outcome State Fault Refusal := runFy (fyBrt ra off) s

/-- BRF (R147). -/
def execBrf (ra : RegNo) (off : Word) (s : State) : Host.Outcome State Fault Refusal := runFy (fyBrf ra off) s

/-- LOOP (R148). -/
def execLoop (d ra : RegNo) (bound len : Nat) (s : State) : Host.Outcome State Fault Refusal := runFy (fyLoop d ra bound len) s

/-- CALL (R149). -/
def execCall (entry : Nat) (s : State) : Host.Outcome State Fault Refusal := runFy (fyCall entry) s

/-- RET (R147). -/
def execRet (s : State) : Host.Outcome State Fault Refusal := runFy fyRet s

/-- END (R147). -/
def execEndTask (s : State) : Host.Outcome State Fault Refusal := runFy fyEnd s

/-- NOP (R147). -/
def execNop (s : State) : Host.Outcome State Fault Refusal := runFy fyNop s

/-- STROKE (R152). -/
def execStroke (d : RegNo) (s : State) : Host.Outcome State Fault Refusal := runFy (fyStroke d) s

/-- TASKID (R152). -/
def execTaskid (d : RegNo) (s : State) : Host.Outcome State Fault Refusal := runFy (fyTaskid d) s

/-- EVT (R152). -/
def execEvt (d ra : RegNo) (code : Nat) (s : State) : Host.Outcome State Fault Refusal := runFy (fyEvt d ra code) s

end Sys2Proof.Machine
end

