-- ==== Sys2Proof/Machine/Float.lean ====
section
/-! DEFINITION. The floating-point instructions, MAJOR 0x03 and 0x04 (R141, R143). -/

namespace Sys2Proof.Machine

/-- FADD and FADDI (R143). -/
def fyFadd (d a : RegNo) (b : Src) (f : Fy) : Fy :=
  f.result d (realAdd (f.act.reg a) (f.act.src b)) (srcWords b) 2

/-- FSUB and FSUBI (R143). -/
def fyFsub (d a : RegNo) (b : Src) (f : Fy) : Fy :=
  f.result d (realSub (f.act.reg a) (f.act.src b)) (srcWords b) 2

/-- FMUL and FMULI (R143). -/
def fyFmul (d a : RegNo) (b : Src) (f : Fy) : Fy :=
  f.result d (realMul (f.act.reg a) (f.act.src b)) (srcWords b) 2

/-- FDIV and FDIVI (R143). -/
def fyFdiv (d a : RegNo) (b : Src) (f : Fy) : Fy :=
  f.result d (realDiv (f.act.reg a) (f.act.src b)) (srcWords b) 10

/-- FMIN and FMINI (R143). -/
def fyFmin (d a : RegNo) (b : Src) (f : Fy) : Fy :=
  f.result d (realMin (f.act.reg a) (f.act.src b)) (srcWords b) 2

/-- FMAX and FMAXI (R143). -/
def fyFmax (d a : RegNo) (b : Src) (f : Fy) : Fy :=
  f.result d (realMax (f.act.reg a) (f.act.src b)) (srcWords b) 2

/-- FEQ and FEQI (R143): 1 or 0. -/
def fyFeq (d a : RegNo) (b : Src) (f : Fy) : Fy :=
  f.result d (boolWord (realEq (f.act.reg a) (f.act.src b))) (srcWords b) 2

/-- FLT and FLTI (R143): 1 or 0. -/
def fyFlt (d a : RegNo) (b : Src) (f : Fy) : Fy :=
  f.result d (boolWord (realLt (f.act.reg a) (f.act.src b))) (srcWords b) 2

/-- FLE and FLEI (R143): 1 or 0. -/
def fyFle (d a : RegNo) (b : Src) (f : Fy) : Fy :=
  f.result d (boolWord (realLe (f.act.reg a) (f.act.src b))) (srcWords b) 2

/-- FSQRT of a value: square root of a; 0.0 when a < 0 (R141, R143). -/
def valFsqrt (x : Word) : Word := realSqrt x

/-- FSQRT (R143), R form only. -/
def fyFsqrt (d a : RegNo) (f : Fy) : Fy := f.result d (valFsqrt (f.act.reg a)) 1 12

/-- FABS of a value: |a| (R141, R143). -/
def valFabs (x : Word) : Word := realAbs x

/-- FABS (R143), R form only. -/
def fyFabs (d a : RegNo) (f : Fy) : Fy := f.result d (valFabs (f.act.reg a)) 1 1

/-- FNEG of a value: −a (R141, R143). -/
def valFneg (x : Word) : Word := realNeg x

/-- FNEG (R143), R form only. -/
def fyFneg (d a : RegNo) (f : Fy) : Fy := f.result d (valFneg (f.act.reg a)) 1 1

/-- ITOF of a value: INT32 a to REAL32, round to nearest even (R141, R143). -/
def valItof (x : Word) : Word := realOfInt x.toInt

/-- ITOF (R143), R form only. -/
def fyItof (d a : RegNo) (f : Fy) : Fy := f.result d (valItof (f.act.reg a)) 1 2

/-- UTOF of a value: UINT32 a to REAL32, round to nearest even (R141, R143). -/
def valUtof (x : Word) : Word := realOfInt x.toNat

/-- UTOF (R143), R form only. -/
def fyUtof (d a : RegNo) (f : Fy) : Fy := f.result d (valUtof (f.act.reg a)) 1 2

/-- FTOI of a value: a to INT32, round to nearest even, the nearest limit out of range (R141, R143). -/
def valFtoi (x : Word) : Word := BitVec.ofInt 32 (clampInt (-2147483648) 2147483647 (realRound x))

/-- FTOI (R143), R form only. -/
def fyFtoi (d a : RegNo) (f : Fy) : Fy := f.result d (valFtoi (f.act.reg a)) 1 2

/-- FTOIZ of a value: a to INT32, round toward zero, the nearest limit out of range (R141, R143). -/
def valFtoiz (x : Word) : Word := BitVec.ofInt 32 (clampInt (-2147483648) 2147483647 (realTrunc x))

/-- FTOIZ (R143), R form only. -/
def fyFtoiz (d a : RegNo) (f : Fy) : Fy := f.result d (valFtoiz (f.act.reg a)) 1 2

/-- FTOU of a value: a to UINT32, round to nearest even, the nearest limit out of range (R141, R143). -/
def valFtou (x : Word) : Word := BitVec.ofInt 32 (clampInt 0 4294967295 (realRound x))

/-- FTOU (R143), R form only. -/
def fyFtou (d a : RegNo) (f : Fy) : Fy := f.result d (valFtou (f.act.reg a)) 1 2

/-! ### What the commands do -/

/-- FADD (R143). -/
def execFadd (d a : RegNo) (b : Src) (s : State) : Host.Outcome State Fault Refusal := runFy (fyFadd d a b) s

/-- FSUB (R143). -/
def execFsub (d a : RegNo) (b : Src) (s : State) : Host.Outcome State Fault Refusal := runFy (fyFsub d a b) s

/-- FMUL (R143). -/
def execFmul (d a : RegNo) (b : Src) (s : State) : Host.Outcome State Fault Refusal := runFy (fyFmul d a b) s

/-- FDIV (R143). -/
def execFdiv (d a : RegNo) (b : Src) (s : State) : Host.Outcome State Fault Refusal := runFy (fyFdiv d a b) s

/-- FSQRT (R143). -/
def execFsqrt (d a : RegNo) (s : State) : Host.Outcome State Fault Refusal := runFy (fyFsqrt d a) s

/-- FMIN (R143). -/
def execFmin (d a : RegNo) (b : Src) (s : State) : Host.Outcome State Fault Refusal := runFy (fyFmin d a b) s

/-- FMAX (R143). -/
def execFmax (d a : RegNo) (b : Src) (s : State) : Host.Outcome State Fault Refusal := runFy (fyFmax d a b) s

/-- FABS (R143). -/
def execFabs (d a : RegNo) (s : State) : Host.Outcome State Fault Refusal := runFy (fyFabs d a) s

/-- FNEG (R143). -/
def execFneg (d a : RegNo) (s : State) : Host.Outcome State Fault Refusal := runFy (fyFneg d a) s

/-- FEQ (R143). -/
def execFeq (d a : RegNo) (b : Src) (s : State) : Host.Outcome State Fault Refusal := runFy (fyFeq d a b) s

/-- FLT (R143). -/
def execFlt (d a : RegNo) (b : Src) (s : State) : Host.Outcome State Fault Refusal := runFy (fyFlt d a b) s

/-- FLE (R143). -/
def execFle (d a : RegNo) (b : Src) (s : State) : Host.Outcome State Fault Refusal := runFy (fyFle d a b) s

/-- ITOF (R143). -/
def execItof (d a : RegNo) (s : State) : Host.Outcome State Fault Refusal := runFy (fyItof d a) s

/-- UTOF (R143). -/
def execUtof (d a : RegNo) (s : State) : Host.Outcome State Fault Refusal := runFy (fyUtof d a) s

/-- FTOI (R143). -/
def execFtoi (d a : RegNo) (s : State) : Host.Outcome State Fault Refusal := runFy (fyFtoi d a) s

/-- FTOIZ (R143). -/
def execFtoiz (d a : RegNo) (s : State) : Host.Outcome State Fault Refusal := runFy (fyFtoiz d a) s

/-- FTOU (R143). -/
def execFtou (d a : RegNo) (s : State) : Host.Outcome State Fault Refusal := runFy (fyFtou d a) s

end Sys2Proof.Machine
end

