-- ==== Sys2Proof/Machine/LoadStore.lean ====
section
/-! DEFINITION. Loads and stores, MAJOR 0x08 and 0x09 (R118, R145, R146). -/

namespace Sys2Proof.Machine

/-- Bytes from one element to the next (R145). -/
def strideOf (x : Access) : Nat := 4 * 2 ^ x.scale.toNat

/-- Bytes that one access moves. -/
def accessBytes (x : Access) : Nat :=
  match x.kind with
  | .word => 4
  | .pair => 8

/-- Number of elements whose access lies wholly in the array; a scalar has one. -/
def elements (x : Access) : Nat := if x.arr.scalar then 1 else (x.arr.bytes - accessBytes x) / strideOf x + 1

/-- The effective address: base + index × 4 × 2^SCALE, the index being the INT32 value of source A (0 for a field of 0) clamped to
the bounds of the named array (R118, R145). -/
def effAddr (a : Act) (ra : RegNo) (x : Access) : Nat :=
  let i : Int := if ra = 0#7 then 0 else (a.reg ra).toInt
  x.arr.base + (clampInt 0 ((elements x : Int) - 1) i).toNat * strideOf x

/-- LD (R145): the register or pair d takes memory at the effective address. -/
def fyLd (d a : RegNo) (x : Access) (f : Fy) : Fy :=
  f.upd fun t =>
    let ea := effAddr t a x
    match x.kind with
    | .word => (t.setReg d (t.load ea)).retire 2 2
    | .pair => (t.setPair d (dword (t.load (ea + 4)) (t.load ea))).retire 2 3

/-- ST (R145): memory at the effective address takes the register or pair b. -/
def fySt (b a : RegNo) (x : Access) (f : Fy) : Fy :=
  f.upd fun t =>
    let ea := effAddr t a x
    match x.kind with
    | .word => (t.store ea (t.reg b)).retire 2 2
    | .pair => ((t.store ea (t.pair b).lo).store (ea + 4) (t.pair b).hi).retire 2 3

/-! ### What the commands do -/

/-- ST (R145). -/
def execSt (b a : RegNo) (x : Access) (s : State) : Host.Outcome State Fault Refusal := runFy (fySt b a x) s

end Sys2Proof.Machine
end

