-- ==== Sys2Proof/Machine/Int64.lean ====
section
/-! DEFINITION. The INT64 instructions and literal moves, MAJOR 0x05 and 0x06 (R141, R144). -/

namespace Sys2Proof.Machine

/-- An INT64 result: saturated (R141). -/
def satS64 (i : Int) : DWord := BitVec.ofInt 64 (clampInt (-9223372036854775808) 9223372036854775807 i)

/-- Signed 64-bit division toward zero; by 0 the maximum, the minimum or 0 by the sign of the dividend (R141). -/
def divS64 (a b : Int) : Int :=
  if b = 0 then (if a > 0 then 9223372036854775807 else if a < 0 then -9223372036854775808 else 0) else a.tdiv b

/-- Remainder of INT64 values with the sign of the dividend; 0 by 0 (R141). -/
def remS64 (a b : Int) : Int := if b = 0 then 0 else a.tmod b

/-- ADD64 (R144): d = a + b, INT64 pairs. -/
def valAdd64 (a b : DWord) : DWord := satS64 (a.toInt + b.toInt)

/-- ADD64 (R144). -/
def fyAdd64 (d a b : RegNo) (f : Fy) : Fy := f.result64 d (valAdd64 (f.act.pair a) (f.act.pair b)) 1 2

/-- SUB64 (R144): d = a − b, INT64 pairs. -/
def valSub64 (a b : DWord) : DWord := satS64 (a.toInt - b.toInt)

/-- SUB64 (R144). -/
def fySub64 (d a b : RegNo) (f : Fy) : Fy := f.result64 d (valSub64 (f.act.pair a) (f.act.pair b)) 1 2

/-- MUL64 (R144): d = a × b, INT64 pairs. -/
def valMul64 (a b : DWord) : DWord := satS64 (a.toInt * b.toInt)

/-- MUL64 (R144). -/
def fyMul64 (d a b : RegNo) (f : Fy) : Fy := f.result64 d (valMul64 (f.act.pair a) (f.act.pair b)) 1 4

/-- DIV64 (R144): d = a / b, INT64 pairs. -/
def valDiv64 (a b : DWord) : DWord := satS64 (divS64 a.toInt b.toInt)

/-- DIV64 (R144). -/
def fyDiv64 (d a b : RegNo) (f : Fy) : Fy := f.result64 d (valDiv64 (f.act.pair a) (f.act.pair b)) 1 16

/-- REM64 (R144): remainder of a / b, INT64 pairs. -/
def valRem64 (a b : DWord) : DWord := BitVec.ofInt 64 (remS64 a.toInt b.toInt)

/-- REM64 (R144). -/
def fyRem64 (d a b : RegNo) (f : Fy) : Fy := f.result64 d (valRem64 (f.act.pair a) (f.act.pair b)) 1 16

/-- NEG64 (R144): d = −a. -/
def fyNeg64 (d a : RegNo) (f : Fy) : Fy := f.result64 d (satS64 (- (f.act.pair a).toInt)) 1 2

/-- EQ64 (R144): single d = 1 if a = b, else 0. -/
def fyEq64 (d a b : RegNo) (f : Fy) : Fy := f.result d (boolWord (f.act.pair a == f.act.pair b)) 1 2

/-- LT64 (R144): single d = 1 if a < b, else 0. -/
def fyLt64 (d a b : RegNo) (f : Fy) : Fy :=
  f.result d (boolWord (decide ((f.act.pair a).toInt < (f.act.pair b).toInt))) 1 2

/-- SX64 (R144): single INT32 a, sign-extended into pair d. -/
def fySx64 (d a : RegNo) (f : Fy) : Fy := f.result64 d ((f.act.reg a).signExtend 64) 1 1

/-- ZX64 (R144): single UINT32 a, zero-extended into pair d. -/
def fyZx64 (d a : RegNo) (f : Fy) : Fy := f.result64 d ((f.act.reg a).setWidth 64) 1 1

/-- SAT32 (R144): pair a into single INT32 d, saturating. -/
def fySat32 (d a : RegNo) (f : Fy) : Fy :=
  f.result d (BitVec.ofInt 32 (clampInt (-2147483648) 2147483647 (f.act.pair a).toInt)) 1 1

/-- TOF64 (R144): pair a into single REAL32 d, round to nearest even. -/
def fyTof64 (d a : RegNo) (f : Fy) : Fy := f.result d (realOfInt (f.act.pair a).toInt) 1 3

/-- FTO64 (R144): single REAL32 a into pair d, round to nearest even, saturating. -/
def fyFto64 (d a : RegNo) (f : Fy) : Fy := f.result64 d (satS64 (realRound (f.act.reg a))) 1 3

/-- MOVI (R144): sets d to the literal word. -/
def fyMovi (d : RegNo) (w : Word) (f : Fy) : Fy := f.result d w 2 1

/-! ### What the commands do -/

/-- ADD64 (R144). -/
def execAdd64 (d a b : RegNo) (s : State) : Host.Outcome State Fault Refusal := runFy (fyAdd64 d a b) s

/-- SUB64 (R144). -/
def execSub64 (d a b : RegNo) (s : State) : Host.Outcome State Fault Refusal := runFy (fySub64 d a b) s

/-- MUL64 (R144). -/
def execMul64 (d a b : RegNo) (s : State) : Host.Outcome State Fault Refusal := runFy (fyMul64 d a b) s

/-- DIV64 (R144). -/
def execDiv64 (d a b : RegNo) (s : State) : Host.Outcome State Fault Refusal := runFy (fyDiv64 d a b) s

/-- REM64 (R144). -/
def execRem64 (d a b : RegNo) (s : State) : Host.Outcome State Fault Refusal := runFy (fyRem64 d a b) s

/-- NEG64 (R144). -/
def execNeg64 (d a : RegNo) (s : State) : Host.Outcome State Fault Refusal := runFy (fyNeg64 d a) s

/-- EQ64 (R144). -/
def execEq64 (d a b : RegNo) (s : State) : Host.Outcome State Fault Refusal := runFy (fyEq64 d a b) s

/-- LT64 (R144). -/
def execLt64 (d a b : RegNo) (s : State) : Host.Outcome State Fault Refusal := runFy (fyLt64 d a b) s

/-- SX64 (R144). -/
def execSx64 (d a : RegNo) (s : State) : Host.Outcome State Fault Refusal := runFy (fySx64 d a) s

/-- ZX64 (R144). -/
def execZx64 (d a : RegNo) (s : State) : Host.Outcome State Fault Refusal := runFy (fyZx64 d a) s

/-- SAT32 (R144). -/
def execSat32 (d a : RegNo) (s : State) : Host.Outcome State Fault Refusal := runFy (fySat32 d a) s

/-- TOF64 (R144). -/
def execTof64 (d a : RegNo) (s : State) : Host.Outcome State Fault Refusal := runFy (fyTof64 d a) s

/-- FTO64 (R144). -/
def execFto64 (d a : RegNo) (s : State) : Host.Outcome State Fault Refusal := runFy (fyFto64 d a) s

/-- MOVI (R144). -/
def execMovi (d : RegNo) (w : Word) (s : State) : Host.Outcome State Fault Refusal := runFy (fyMovi d w) s

end Sys2Proof.Machine
end

