-- ==== Sys2Proof/Machine/Integer.lean ====
section
/-! DEFINITION. The integer instructions, MAJOR 0x01 and 0x02 (R141, R142). -/

namespace Sys2Proof.Machine

/-- An INT32 result: saturated (R141). -/
def satS32 (i : Int) : Word := BitVec.ofInt 32 (clampInt (-2147483648) 2147483647 i)

/-- A UINT32 result: saturated (R141). -/
def satU32 (i : Int) : Word := BitVec.ofInt 32 (clampInt 0 4294967295 i)

/-- Signed division toward zero; by 0 the maximum, the minimum or 0 by the sign of the dividend (R141). -/
def divS32 (a b : Int) : Int :=
  if b = 0 then (if a > 0 then 2147483647 else if a < 0 then -2147483648 else 0) else a.tdiv b

/-- Unsigned division; by 0, 2^32 − 1, or 0 if the dividend is 0 (R141). -/
def divU32 (a b : Word) : Word :=
  if b.toNat = 0 then (if a.toNat = 0 then 0#32 else 0xFFFFFFFF#32) else word (a.toNat / b.toNat)

/-- Remainder with the sign of the dividend; 0 by 0 (R141). -/
def remS (a b : Int) : Int := if b = 0 then 0 else a.tmod b

/-- ADD of values: d = a + b, INT32, saturating (R142). -/
def valAdd (a b : Word) : Word := satS32 (a.toInt + b.toInt)

/-- SUB of values: d = a − b, INT32, saturating (R142). -/
def valSub (a b : Word) : Word := satS32 (a.toInt - b.toInt)

/-- ADDU of values: d = a + b, UINT32, saturating (R142). -/
def valAddu (a b : Word) : Word := satU32 ((a.toNat : Int) + b.toNat)

/-- SUBU of values: d = a − b, UINT32, saturating at 0 (R142). -/
def valSubu (a b : Word) : Word := satU32 ((a.toNat : Int) - b.toNat)

/-- AND of values: bitwise and (R142). -/
def valAnd (a b : Word) : Word := a &&& b

/-- OR of values: bitwise or (R142). -/
def valOr (a b : Word) : Word := a ||| b

/-- XOR of values: bitwise exclusive or (R142). -/
def valXor (a b : Word) : Word := a ^^^ b

/-- ANDN of values: a and not b, bitwise (R142). -/
def valAndn (a b : Word) : Word := a &&& ~~~ b

/-- SHL of values: a shifted left by b places; b from 32 upward gives 0 (R142). -/
def valShl (a b : Word) : Word := if b.toNat ≥ 32 then 0#32 else a <<< b.toNat

/-- SHR of values: a shifted right logically; b from 32 upward gives 0 (R142). -/
def valShr (a b : Word) : Word := if b.toNat ≥ 32 then 0#32 else a >>> b.toNat

/-- SAR of values: a shifted right arithmetically; b from 31 upward gives every bit equal to the sign bit (R142). -/
def valSar (a b : Word) : Word := a.sshiftRight (min b.toNat 31)

/-- MIN of values: smaller of a and b, INT32 (R142). -/
def valMin (a b : Word) : Word := if a.toInt ≤ b.toInt then a else b

/-- MAX of values: larger of a and b, INT32 (R142). -/
def valMax (a b : Word) : Word := if a.toInt ≤ b.toInt then b else a

/-- MINU of values: smaller, UINT32 (R142). -/
def valMinu (a b : Word) : Word := if a.toNat ≤ b.toNat then a else b

/-- MAXU of values: larger, UINT32 (R142). -/
def valMaxu (a b : Word) : Word := if a.toNat ≤ b.toNat then b else a

/-- MUL of values: d = a × b, INT32, saturating (R142). -/
def valMul (a b : Word) : Word := satS32 (a.toInt * b.toInt)

/-- MULU of values: d = a × b, UINT32, saturating (R142). -/
def valMulu (a b : Word) : Word := satU32 ((a.toNat : Int) * b.toNat)

/-- DIV of values: d = a / b, INT32 (R142). -/
def valDiv (a b : Word) : Word := satS32 (divS32 a.toInt b.toInt)

/-- DIVU of values: d = a / b, UINT32 (R142). -/
def valDivu (a b : Word) : Word := divU32 a b

/-- REM of values: remainder of a / b, INT32, with the sign of the dividend, 0 for a divisor 0 (R142). -/
def valRem (a b : Word) : Word := BitVec.ofInt 32 (remS a.toInt b.toInt)

/-- REMU of values: remainder, UINT32, 0 for a divisor 0 (R142). -/
def valRemu (a b : Word) : Word := word (if b.toNat = 0 then 0 else a.toNat % b.toNat)

/-- NEG of values: d = −a, INT32 (R142). -/
def valNeg (a : Word) : Word := satS32 (- a.toInt)

/-- ABS of values: d = |a|, INT32 (R142). -/
def valAbs (a : Word) : Word := satS32 a.toInt.natAbs

/-- EQ of values: d = 1 if a = b, else 0 (R142). -/
def valEq (a b : Word) : Word := boolWord (a == b)

/-- NE of values: d = 1 if a ≠ b, else 0 (R142). -/
def valNe (a b : Word) : Word := boolWord (a != b)

/-- LT of values: d = 1 if a < b, INT32 (R142). -/
def valLt (a b : Word) : Word := boolWord (decide (a.toInt < b.toInt))

/-- LE of values: d = 1 if a ≤ b, INT32 (R142). -/
def valLe (a b : Word) : Word := boolWord (decide (a.toInt ≤ b.toInt))

/-- LTU of values: d = 1 if a < b, UINT32 (R142). -/
def valLtu (a b : Word) : Word := boolWord (decide (a.toNat < b.toNat))

/-- LEU of values: d = 1 if a ≤ b, UINT32 (R142). -/
def valLeu (a b : Word) : Word := boolWord (decide (a.toNat ≤ b.toNat))

/-- NOT of values: d = 1 if a = 0, else 0 (R142). -/
def valNot (a : Word) : Word := boolWord (a == 0#32)

/-- ADD and ADDI (R142). -/
def fyAdd (d a : RegNo) (b : Src) (f : Fy) : Fy :=
  f.result d (valAdd (f.act.reg a) (f.act.src b)) (srcWords b) 1

/-- SUB and SUBI (R142). -/
def fySub (d a : RegNo) (b : Src) (f : Fy) : Fy :=
  f.result d (valSub (f.act.reg a) (f.act.src b)) (srcWords b) 1

/-- ADDU and ADDUI (R142). -/
def fyAddu (d a : RegNo) (b : Src) (f : Fy) : Fy :=
  f.result d (valAddu (f.act.reg a) (f.act.src b)) (srcWords b) 1

/-- SUBU and SUBUI (R142). -/
def fySubu (d a : RegNo) (b : Src) (f : Fy) : Fy :=
  f.result d (valSubu (f.act.reg a) (f.act.src b)) (srcWords b) 1

/-- AND and ANDI (R142). -/
def fyAnd (d a : RegNo) (b : Src) (f : Fy) : Fy :=
  f.result d (valAnd (f.act.reg a) (f.act.src b)) (srcWords b) 1

/-- OR and ORI (R142). -/
def fyOr (d a : RegNo) (b : Src) (f : Fy) : Fy :=
  f.result d (valOr (f.act.reg a) (f.act.src b)) (srcWords b) 1

/-- XOR and XORI (R142). -/
def fyXor (d a : RegNo) (b : Src) (f : Fy) : Fy :=
  f.result d (valXor (f.act.reg a) (f.act.src b)) (srcWords b) 1

/-- ANDN and ANDNI (R142). -/
def fyAndn (d a : RegNo) (b : Src) (f : Fy) : Fy :=
  f.result d (valAndn (f.act.reg a) (f.act.src b)) (srcWords b) 1

/-- SHL and SHLI (R142). -/
def fyShl (d a : RegNo) (b : Src) (f : Fy) : Fy :=
  f.result d (valShl (f.act.reg a) (f.act.src b)) (srcWords b) 1

/-- SHR and SHRI (R142). -/
def fyShr (d a : RegNo) (b : Src) (f : Fy) : Fy :=
  f.result d (valShr (f.act.reg a) (f.act.src b)) (srcWords b) 1

/-- SAR and SARI (R142). -/
def fySar (d a : RegNo) (b : Src) (f : Fy) : Fy :=
  f.result d (valSar (f.act.reg a) (f.act.src b)) (srcWords b) 1

/-- MIN and MINI (R142). -/
def fyMin (d a : RegNo) (b : Src) (f : Fy) : Fy :=
  f.result d (valMin (f.act.reg a) (f.act.src b)) (srcWords b) 1

/-- MAX and MAXI (R142). -/
def fyMax (d a : RegNo) (b : Src) (f : Fy) : Fy :=
  f.result d (valMax (f.act.reg a) (f.act.src b)) (srcWords b) 1

/-- MINU and MINUI (R142). -/
def fyMinu (d a : RegNo) (b : Src) (f : Fy) : Fy :=
  f.result d (valMinu (f.act.reg a) (f.act.src b)) (srcWords b) 1

/-- MAXU and MAXUI (R142). -/
def fyMaxu (d a : RegNo) (b : Src) (f : Fy) : Fy :=
  f.result d (valMaxu (f.act.reg a) (f.act.src b)) (srcWords b) 1

/-- MUL and MULI (R142). -/
def fyMul (d a : RegNo) (b : Src) (f : Fy) : Fy :=
  f.result d (valMul (f.act.reg a) (f.act.src b)) (srcWords b) 2

/-- MULU and MULUI (R142). -/
def fyMulu (d a : RegNo) (b : Src) (f : Fy) : Fy :=
  f.result d (valMulu (f.act.reg a) (f.act.src b)) (srcWords b) 2

/-- DIV and DIVI (R142). -/
def fyDiv (d a : RegNo) (b : Src) (f : Fy) : Fy :=
  f.result d (valDiv (f.act.reg a) (f.act.src b)) (srcWords b) 8

/-- DIVU and DIVUI (R142). -/
def fyDivu (d a : RegNo) (b : Src) (f : Fy) : Fy :=
  f.result d (valDivu (f.act.reg a) (f.act.src b)) (srcWords b) 8

/-- REM and REMI (R142). -/
def fyRem (d a : RegNo) (b : Src) (f : Fy) : Fy :=
  f.result d (valRem (f.act.reg a) (f.act.src b)) (srcWords b) 8

/-- REMU and REMUI (R142). -/
def fyRemu (d a : RegNo) (b : Src) (f : Fy) : Fy :=
  f.result d (valRemu (f.act.reg a) (f.act.src b)) (srcWords b) 8

/-- NEG (R142), R form only. -/
def fyNeg (d a : RegNo) (f : Fy) : Fy := f.result d (valNeg (f.act.reg a)) 1 1

/-- ABS (R142), R form only. -/
def fyAbs (d a : RegNo) (f : Fy) : Fy := f.result d (valAbs (f.act.reg a)) 1 1

/-- EQ and EQI (R142). -/
def fyEq (d a : RegNo) (b : Src) (f : Fy) : Fy :=
  f.result d (valEq (f.act.reg a) (f.act.src b)) (srcWords b) 1

/-- NE and NEI (R142). -/
def fyNe (d a : RegNo) (b : Src) (f : Fy) : Fy :=
  f.result d (valNe (f.act.reg a) (f.act.src b)) (srcWords b) 1

/-- LT and LTI (R142). -/
def fyLt (d a : RegNo) (b : Src) (f : Fy) : Fy :=
  f.result d (valLt (f.act.reg a) (f.act.src b)) (srcWords b) 1

/-- LE and LEI (R142). -/
def fyLe (d a : RegNo) (b : Src) (f : Fy) : Fy :=
  f.result d (valLe (f.act.reg a) (f.act.src b)) (srcWords b) 1

/-- LTU and LTUI (R142). -/
def fyLtu (d a : RegNo) (b : Src) (f : Fy) : Fy :=
  f.result d (valLtu (f.act.reg a) (f.act.src b)) (srcWords b) 1

/-- LEU and LEUI (R142). -/
def fyLeu (d a : RegNo) (b : Src) (f : Fy) : Fy :=
  f.result d (valLeu (f.act.reg a) (f.act.src b)) (srcWords b) 1

/-- NOT (R142), R form only. -/
def fyNot (d a : RegNo) (f : Fy) : Fy := f.result d (valNot (f.act.reg a)) 1 1

/-- CMOV and CMOVI (R142): if a ≠ 0 then d = b, otherwise d keeps its value. -/
def fyCmov (d a : RegNo) (b : Src) (f : Fy) : Fy :=
  f.result d (if f.act.reg a = 0#32 then f.act.reg d else f.act.src b) (srcWords b) 1

/-! ### What the commands do -/

/-- ADD (R142). -/
def execAdd (d a : RegNo) (b : Src) (s : State) : Host.Outcome State Fault Refusal := runFy (fyAdd d a b) s

/-- SUB (R142). -/
def execSub (d a : RegNo) (b : Src) (s : State) : Host.Outcome State Fault Refusal := runFy (fySub d a b) s

/-- ADDU (R142). -/
def execAddu (d a : RegNo) (b : Src) (s : State) : Host.Outcome State Fault Refusal := runFy (fyAddu d a b) s

/-- SUBU (R142). -/
def execSubu (d a : RegNo) (b : Src) (s : State) : Host.Outcome State Fault Refusal := runFy (fySubu d a b) s

/-- AND (R142). -/
def execAnd (d a : RegNo) (b : Src) (s : State) : Host.Outcome State Fault Refusal := runFy (fyAnd d a b) s

/-- OR (R142). -/
def execOr (d a : RegNo) (b : Src) (s : State) : Host.Outcome State Fault Refusal := runFy (fyOr d a b) s

/-- XOR (R142). -/
def execXor (d a : RegNo) (b : Src) (s : State) : Host.Outcome State Fault Refusal := runFy (fyXor d a b) s

/-- ANDN (R142). -/
def execAndn (d a : RegNo) (b : Src) (s : State) : Host.Outcome State Fault Refusal := runFy (fyAndn d a b) s

/-- SHL (R142). -/
def execShl (d a : RegNo) (b : Src) (s : State) : Host.Outcome State Fault Refusal := runFy (fyShl d a b) s

/-- SHR (R142). -/
def execShr (d a : RegNo) (b : Src) (s : State) : Host.Outcome State Fault Refusal := runFy (fyShr d a b) s

/-- SAR (R142). -/
def execSar (d a : RegNo) (b : Src) (s : State) : Host.Outcome State Fault Refusal := runFy (fySar d a b) s

/-- MIN (R142). -/
def execMin (d a : RegNo) (b : Src) (s : State) : Host.Outcome State Fault Refusal := runFy (fyMin d a b) s

/-- MAX (R142). -/
def execMax (d a : RegNo) (b : Src) (s : State) : Host.Outcome State Fault Refusal := runFy (fyMax d a b) s

/-- MINU (R142). -/
def execMinu (d a : RegNo) (b : Src) (s : State) : Host.Outcome State Fault Refusal := runFy (fyMinu d a b) s

/-- MAXU (R142). -/
def execMaxu (d a : RegNo) (b : Src) (s : State) : Host.Outcome State Fault Refusal := runFy (fyMaxu d a b) s

/-- MUL (R142). -/
def execMul (d a : RegNo) (b : Src) (s : State) : Host.Outcome State Fault Refusal := runFy (fyMul d a b) s

/-- MULU (R142). -/
def execMulu (d a : RegNo) (b : Src) (s : State) : Host.Outcome State Fault Refusal := runFy (fyMulu d a b) s

/-- DIV (R142). -/
def execDiv (d a : RegNo) (b : Src) (s : State) : Host.Outcome State Fault Refusal := runFy (fyDiv d a b) s

/-- DIVU (R142). -/
def execDivu (d a : RegNo) (b : Src) (s : State) : Host.Outcome State Fault Refusal := runFy (fyDivu d a b) s

/-- REM (R142). -/
def execRem (d a : RegNo) (b : Src) (s : State) : Host.Outcome State Fault Refusal := runFy (fyRem d a b) s

/-- REMU (R142). -/
def execRemu (d a : RegNo) (b : Src) (s : State) : Host.Outcome State Fault Refusal := runFy (fyRemu d a b) s

/-- NEG (R142). -/
def execNeg (d a : RegNo) (s : State) : Host.Outcome State Fault Refusal := runFy (fyNeg d a) s

/-- ABS (R142). -/
def execAbs (d a : RegNo) (s : State) : Host.Outcome State Fault Refusal := runFy (fyAbs d a) s

/-- CMOV (R142). -/
def execCmov (d a : RegNo) (b : Src) (s : State) : Host.Outcome State Fault Refusal := runFy (fyCmov d a b) s

/-- EQ (R142). -/
def execEq (d a : RegNo) (b : Src) (s : State) : Host.Outcome State Fault Refusal := runFy (fyEq d a b) s

/-- NE (R142). -/
def execNe (d a : RegNo) (b : Src) (s : State) : Host.Outcome State Fault Refusal := runFy (fyNe d a b) s

/-- LT (R142). -/
def execLt (d a : RegNo) (b : Src) (s : State) : Host.Outcome State Fault Refusal := runFy (fyLt d a b) s

/-- LE (R142). -/
def execLe (d a : RegNo) (b : Src) (s : State) : Host.Outcome State Fault Refusal := runFy (fyLe d a b) s

/-- LTU (R142). -/
def execLtu (d a : RegNo) (b : Src) (s : State) : Host.Outcome State Fault Refusal := runFy (fyLtu d a b) s

/-- LEU (R142). -/
def execLeu (d a : RegNo) (b : Src) (s : State) : Host.Outcome State Fault Refusal := runFy (fyLeu d a b) s

/-- NOT (R142). -/
def execNot (d a : RegNo) (s : State) : Host.Outcome State Fault Refusal := runFy (fyNot d a) s

end Sys2Proof.Machine
end

