-- ==== Sys2Proof/Machine/LoopCmd.lean ====
section
/-! DEFINITION. Loop commands: LCMD (R153, R154, R217) and what a command does at the commit that applies it (R194, R195, R217, R218, R222,
R224, R228). -/

namespace Sys2Proof.Machine

/-- Whether the activation has placed a command on the block (R154). -/
def Act.loopCommanded (a : Act) (block : Nat) : Bool :=
  a.effects.any fun e => match e with
    | .loopCmd b _ _ => b == block
    | _ => false

/-- The status of TUNE_START and INJECT_START against the committed loop state: LOOP_STATUS, LOOP_LINK, LOOP_CFG and the dipper (R217). -/
def startStatus (cmd : Nat) (status link cfg : Word) (dipperBusy : Bool) : Nat :=
  let running := bitAt status 16 || bitAt status 17
  if cmd = 2 then
    if statusMode status == 0 || bitAt status 14 || bitAt status 3 then 17
    else if bitAt link 17 && !bitAt cfg 3 then 18
    else if running || bitAt status 2 then 3
    else 0
  else if running || dipperBusy then 3 else 0

/-- The status of a loop command in a mode, against the committed loop state (R154, R217, R224). -/
def loopCmdStatus (mode cmd : Nat) (status link cfg tune : Word) (dipperBusy : Bool) : Nat :=
  if mode = 1 then 1
  else if cmd ≥ 2 ∧ mode ≠ 3 then 1
  else if cmd = 2 ∨ cmd = 6 then startStatus cmd status link cfg dipperBusy
  else if cmd = 3 ∨ cmd = 4 then (if tune.bits 2 0 = 3 then 0 else 19)
  else 0

/-- LCMD (R153, R154): the command is applied at the next commit; d receives the status, which is BUSY where an earlier
LCMD of the activation placed a command on the block. -/
def fyLcmd (d rb : RegNo) (block cmd : Nat) (f : Fy) : Fy :=
  f.upd fun a =>
    let l (off : Nat) := a.snap.loop block off
    let st := loopCmdStatus a.mode cmd (l 0xA0) (l 0x08) (l 0x00) (l 0xEC) a.snap.dipperBusy
    let st := if a.loopCommanded block then 3 else st
    let a := if st = 0 then a.effect (.loopCmd block cmd (a.reg rb)) else a.refuse 0x18 cmd st block
    (a.setReg d (word st)).retire 2 6

/-! ### At the commit -/

/-- Every field of the register at `addr`, whatever its access, takes its bits of `w`: a write by the module itself. -/
def storeRaw (t : Tab Word) (addr : Nat) (w : Word) : Tab Word :=
  (fieldsAt addr).foldl (init := t) fun t f => setField t (f.keyAt addr) (word (f.bitsOf w))

/-- A register word written by the module itself. -/
def M.putReg (s : M) (addr : Nat) (w : Word) : M := { s with fields := storeRaw s.fields addr w }

/-- A register word. -/
def M.getReg (s : M) (addr : Nat) : Word := readReg s.fields addr

/-- What the engine keeps of loop b, changed. -/
def M.updLoop (s : M) (b : Nat) (f : LoopHidden → LoopHidden) : M :=
  { s with run := { s.run with loopHid := s.run.loopHid.upd LoopHidden.none b f } }

/-- A stroke event of loop block b. -/
def M.loopEvent (s : M) (b code : Nat) (p0 p1 p2 : Nat) : M := s.strokeEvent (ev (0x0500 + b) code p0 p1 p2)

/-- A tuning run of loop b ended with an abort code, outside an evaluation (R222); after an abort at a boundary, 4 or 13, the next evaluation is fresh. -/
def M.endTune (s : M) (b code : Nat) : M :=
  if (s.run.loopHid.get LoopHidden.none b).tune.isSome then
    let cyc := s.nat (F.loopTuneStatusCycles b)
    let s := ((s.setN (F.loopTuneStatusState b) 4).setN (F.loopTuneStatusAbortCode b) code).setB (F.loopStatusTuning b) false
    let s := if code = 4 ∨ code = 13 then s.setB (F.loopStatusFresh b) true else s
    (s.updLoop b fun h => { h with tune := none, entry := true }).loopEvent b 0x0502 b code cyc
  else s

/-- An injection run of loop b aborted, outside an evaluation (R228). -/
def M.endInject (s : M) (b : Nat) : M :=
  if (s.run.loopHid.get LoopHidden.none b).inj.isSome then
    let n := s.nat (F.loopInjStatusSamples b)
    let s := (s.setN (F.loopInjStatusState b) 3).setB (F.loopStatusInjecting b) false
    let d := s.run.dipper
    let s := { s with run := { s.run with dipper := if d.block = some b then { d with state := 3 } else d } }
    (s.updLoop b fun h => { h with inj := none }).loopEvent b 0x0504 b 3 n
  else s

/-- AUTO (R194, R195): auto, the latch cleared; out of manual it is an entry to auto. -/
def M.cmdAuto (s : M) (b : Nat) : M :=
  let wasAuto := s.nat (F.loopStatusMode b) == 1
  let s := (s.setN (F.loopStatusMode b) 1).setN (F.loopStatusLatch b) 0
  if wasAuto then s else s.updLoop b fun h => { h with entry := true }

/-- MANUAL (R195, R222): manual on U_MAN, the latch cleared; a tuning run ends with NOT_AUTO. -/
def M.cmdManual (s : M) (b : Nat) : M :=
  let s := s.endTune b 2
  (s.setN (F.loopStatusMode b) 0).setN (F.loopStatusLatch b) 0

/-- TUNE_START (R217, R219): the run begins at the next evaluation; codes of the rule from 3 upward fall back to 1. -/
def M.cmdTuneStart (s : M) (b : Nat) (operand : Word) : M :=
  let rule := if operand.toNat ≥ 3 then 1 else operand.toNat
  let s := ((s.setN (F.loopTuneStatusState b) 0).setN (F.loopTuneStatusAbortCode b) 0).setN (F.loopTuneStatusCycles b) 0
  s.updLoop b fun h => { h with tune := some { rule := rule, begun := false, r0 := 0, negative := false, high := false, limit := 0, count := 0
                                               cycle := none, closed := [] } }

/-- The three words that TUNE_ACCEPT writes, which the digest counts as writes of the loop engine (R224). -/
def M.acceptWrites (s : M) (b : Nat) : List (Nat × Word) :=
  [(loopAddr b 0x20, s.reg (F.loopCandKp b)), (loopAddr b 0x24, s.reg (F.loopCandTi b)), (loopAddr b 0x28, s.reg (F.loopCandTd b))]

/-- TUNE_ACCEPT (R224): the candidate values into KP, TI and TD; STATE 0; the event. -/
def M.cmdTuneAccept (s : M) (b : Nat) : M :=
  let s := s.acceptWrites b |>.foldl (init := s) fun s w => s.putReg w.1 w.2
  (s.setN (F.loopTuneStatusState b) 0).loopEvent b 0x0503 0 0 0

/-- TUNE_DISCARD (R224). -/
def M.cmdTuneDiscard (s : M) (b : Nat) : M := s.setN (F.loopTuneStatusState b) 0

/-- INJECT_START (R227 to R229): the dipper is emptied and holds this run from now on. -/
def M.cmdInjectStart (s : M) (b : Nat) : M :=
  let s := ((s.setN (F.loopInjStatusState b) 1).setN (F.loopInjStatusSamples b) 0).setB (F.loopStatusInjecting b) true
  let cfg := (s.getReg (loopAddr b 0xF0)).toNat
  let s := { s with run := { s.run with dipper := { Dipper.empty with
      block := some b, cfg := cfg % 256, state := 1, bitEvals := cfg / 256 % 256, amp := s.reg (F.loopInjAmp b), h := s.reg (F.loopH b) } } }
  s.updLoop b fun h => { h with inj := some { begun := false, j := 0, shift := 0x1FF, bit := false, left := 0, bitEvals := cfg / 256 % 256
                                              amp := s.reg (F.loopInjAmp b), cfg := cfg } }

/-- A loop command applied at a commit (R153, R218); a block that is not declared has none. -/
def M.applyLoopCmd (s : M) (b cmd : Nat) (operand : Word) : M :=
  if !s.declared b then s else
  match cmd with
  | 0 => s.cmdAuto b
  | 1 => s.cmdManual b
  | 2 => s.cmdTuneStart b operand
  | 3 => if s.nat (F.loopTuneStatusState b) = 3 then s.cmdTuneAccept b else s
  | 4 => if s.nat (F.loopTuneStatusState b) = 3 then s.cmdTuneDiscard b else s
  | 5 => s.endTune b 1
  | 6 => s.cmdInjectStart b
  | 7 => s.endInject b
  | _ => s

/-! ### What the commands do -/

/-- AUTO (R153, R195). -/
def execAuto (d : RegNo) (block : Nat) (s : State) : Host.Outcome State Fault Refusal := runFy (fyLcmd d 0 block 0) s

/-- MANUAL (R153, R195). -/
def execManual (d : RegNo) (block : Nat) (s : State) : Host.Outcome State Fault Refusal := runFy (fyLcmd d 0 block 1) s

end Sys2Proof.Machine
end

