-- ==== Sys2Proof/Machine/SlotInstr.lean ====
section
/-! DEFINITION. Edge, timer and counter slots, MAJOR 0x10 to 0x12 (R150, R151). -/

namespace Sys2Proof.Machine

/-- An edge slot that nothing has set: its first execution stores its input and reports no edge (R78, R150). -/
def freshEdge : EdgeSlot := { prev := false, fresh := true }

/-- A timer slot that is idle (R78). -/
def idleTimer : TimerSlot := { et := 0, q := false, timing := false, prevIn := false, last := 0 }

/-- A counter slot at 0 (R78). -/
def zeroCounter : CounterSlot := { cv := 0, prev := false }

/-- An execution of edge slot `n` with input a: `edge prev a` is reported, unless the slot is FRESH, and the input is stored
(R150, R151). -/
def edgeStep (d ra : RegNo) (n : Nat) (edge : Bool → Bool → Bool) (f : Fy) : Fy :=
  let e := f.slots.edges.get freshEdge n
  let x := f.act.reg ra != 0#32
  let f := { f with slots := { f.slots with edges := f.slots.edges.set freshEdge n { prev := x, fresh := false } } }
  f.result d (boolWord (!e.fresh && edge e.prev x)) 2 2

/-- RISE (R151): d = a and not prev. -/
def fyRise (d ra : RegNo) (n : Nat) (f : Fy) : Fy := edgeStep d ra n (fun p x => x && !p) f

/-- FALL (R151): d = prev and not a. -/
def fyFall (d ra : RegNo) (n : Nat) (f : Fy) : Fy := edgeStep d ra n (fun p x => p && !x) f

/-- CHANGE (R151): d = (a ≠ prev). -/
def fyChange (d ra : RegNo) (n : Nat) (f : Fy) : Fy := edgeStep d ra n (fun p x => p != x) f

/-- An on-delay step (R151): IN, PT and the activations since the last execution. -/
def tonStep (t : TimerSlot) (x : Bool) (pt delta : Nat) : TimerSlot :=
  let t := if !x then { t with timing := false, et := 0 }
    else if !t.timing then { t with timing := true, et := 0 }
    else { t with et := min pt (t.et + delta) }
  { t with q := t.timing && decide (t.et ≥ pt) }

/-- An off-delay step (R151). -/
def tofStep (t : TimerSlot) (x : Bool) (pt delta : Nat) : TimerSlot :=
  let t := if x then { t with timing := false, et := 0, q := true }
    else if t.q && !t.timing then { t with timing := true, et := 0 }
    else if t.timing then { t with et := min pt (t.et + delta) }
    else t
  if t.timing && decide (t.et ≥ pt) then { t with q := false, timing := false } else t

/-- A pulse step (R151). -/
def tpStep (t : TimerSlot) (x : Bool) (pt delta : Nat) : TimerSlot :=
  let t := if t.timing then
      let t := { t with et := min pt (t.et + delta) }
      if t.et ≥ pt then { t with timing := false } else t
    else if x && !t.prevIn && decide (pt > 0) then { t with timing := true, et := 0 }
    else t
  { t with prevIn := x, q := t.timing }

/-- An execution of timer slot `n` (R150): delta is the number of activations since the slot's last execution. -/
def timerStep (d ra rb : RegNo) (n : Nat) (step : TimerSlot → Bool → Nat → Nat → TimerSlot) (f : Fy) : Fy :=
  let t := f.slots.timers.get idleTimer n
  let t := { step t (f.act.reg ra != 0#32) (f.act.reg rb).toNat (f.act.number - t.last) with last := f.act.number }
  let f := { f with slots := { f.slots with timers := f.slots.timers.set idleTimer n t } }
  f.result d (boolWord t.q) 2 3

/-- TON (R151). -/
def fyTon (d ra rb : RegNo) (n : Nat) (f : Fy) : Fy := timerStep d ra rb n tonStep f

/-- TOF (R151). -/
def fyTof (d ra rb : RegNo) (n : Nat) (f : Fy) : Fy := timerStep d ra rb n tofStep f

/-- TP (R151). -/
def fyTp (d ra rb : RegNo) (n : Nat) (f : Fy) : Fy := timerStep d ra rb n tpStep f

/-- TRD (R151): d = elapsed activations of the slot. -/
def fyTrd (d : RegNo) (n : Nat) (f : Fy) : Fy := f.result d (word (f.slots.timers.get idleTimer n).et) 2 2

/-- TRST (R151): slot set idle, elapsed 0, output false. -/
def fyTrst (n : Nat) (f : Fy) : Fy :=
  let t := { f.slots.timers.get idleTimer n with et := 0, q := false, timing := false }
  { act := f.act.retire 2 2, slots := { f.slots with timers := f.slots.timers.set idleTimer n t } }

/-- Counter slot `n` replaced. -/
def setCounter (f : Fy) (n : Nat) (c : CounterSlot) : Fy :=
  { f with slots := { f.slots with counters := f.slots.counters.set zeroCounter n c } }

/-- CTU (R151): count up on rising a, reset on b; d = (cv ≥ pv). -/
def fyCtu (d ra rb rp : RegNo) (n : Nat) (f : Fy) : Fy :=
  let c := f.slots.counters.get zeroCounter n
  let x := f.act.reg ra != 0#32
  let cv := if f.act.reg rb != 0#32 then 0 else if x && !c.prev then min (c.cv + 1) 2147483647 else c.cv
  (setCounter f n { cv := cv, prev := x }).result d (boolWord (decide (cv ≥ (f.act.reg rp).toInt))) 2 3

/-- CTD (R151): count down on rising a, load pv on b; d = (cv ≤ 0). -/
def fyCtd (d ra rb rp : RegNo) (n : Nat) (f : Fy) : Fy :=
  let c := f.slots.counters.get zeroCounter n
  let x := f.act.reg ra != 0#32
  let cv := if f.act.reg rb != 0#32 then (f.act.reg rp).toInt else if x && !c.prev then max (c.cv - 1) (-2147483648) else c.cv
  (setCounter f n { cv := cv, prev := x }).result d (boolWord (decide (cv ≤ 0))) 2 3

/-- CRD (R151): d = cv. -/
def fyCrd (d : RegNo) (n : Nat) (f : Fy) : Fy := f.result d (BitVec.ofInt 32 (f.slots.counters.get zeroCounter n).cv) 2 2

/-- CLD (R151): cv = a, read as INT32. -/
def fyCld (ra : RegNo) (n : Nat) (f : Fy) : Fy :=
  (setCounter f n { f.slots.counters.get zeroCounter n with cv := (f.act.reg ra).toInt }).upd fun a => a.retire 2 2

/-! ### What the commands do -/

/-- RISE (R151). -/
def execRise (d ra : RegNo) (n : Nat) (s : State) : Host.Outcome State Fault Refusal := runFy (fyRise d ra n) s

/-- FALL (R151). -/
def execFall (d ra : RegNo) (n : Nat) (s : State) : Host.Outcome State Fault Refusal := runFy (fyFall d ra n) s

/-- CHANGE (R151). -/
def execChange (d ra : RegNo) (n : Nat) (s : State) : Host.Outcome State Fault Refusal := runFy (fyChange d ra n) s

/-- TON (R151). -/
def execTon (d ra rb : RegNo) (n : Nat) (s : State) : Host.Outcome State Fault Refusal := runFy (fyTon d ra rb n) s

/-- TOF (R151). -/
def execTof (d ra rb : RegNo) (n : Nat) (s : State) : Host.Outcome State Fault Refusal := runFy (fyTof d ra rb n) s

/-- TP (R151). -/
def execTp (d ra rb : RegNo) (n : Nat) (s : State) : Host.Outcome State Fault Refusal := runFy (fyTp d ra rb n) s

/-- TRD (R151). -/
def execTrd (d : RegNo) (n : Nat) (s : State) : Host.Outcome State Fault Refusal := runFy (fyTrd d n) s

/-- TRST (R151). -/
def execTrst (n : Nat) (s : State) : Host.Outcome State Fault Refusal := runFy (fyTrst n) s

/-- CTU (R151). -/
def execCtu (d ra rb rp : RegNo) (n : Nat) (s : State) : Host.Outcome State Fault Refusal := runFy (fyCtu d ra rb rp n) s

/-- CTD (R151). -/
def execCtd (d ra rb rp : RegNo) (n : Nat) (s : State) : Host.Outcome State Fault Refusal := runFy (fyCtd d ra rb rp n) s

/-- CRD (R151). -/
def execCrd (d : RegNo) (n : Nat) (s : State) : Host.Outcome State Fault Refusal := runFy (fyCrd d n) s

/-- CLD (R151). -/
def execCld (ra : RegNo) (n : Nat) (s : State) : Host.Outcome State Fault Refusal := runFy (fyCld ra n) s

end Sys2Proof.Machine
end

