-- ==== Sys2Proof/Machine/Interp.lean ====
section
/-! DEFINITION. The Fytric engine: FY2 code words read by their encoding (R135 to R159) and run by the same meanings as the instruction
commands, with slices (R97) and breakpoints (R68). -/

namespace Sys2Proof.Machine

/-! ### Fields of a code word (R135) -/

/-- D, A and B of a code word. -/
def rnD (w : Word) : RegNo := BitVec.ofNat 7 (w.bits 25 19)
/-- Source register A. -/
def rnA (w : Word) : RegNo := BitVec.ofNat 7 (w.bits 18 12)
/-- Source register B. -/
def rnB (w : Word) : RegNo := BitVec.ofNat 7 (w.bits 11 5)

/-- The element count of what an address names without the reference list: a register array as its block's table gives it, 1024 for a loop block field,
1 for one register, as those of the two CAN blocks are, which have a table of one port (R145). DESIGN CHOICE (log entry 79): an address of a later element of an
array, or of a field of a loop block other than block 0, names that element alone. -/
def elementCount (ad : Nat) : Nat :=
  match fieldsAt ad with
  | [] => 1
  | f :: _ => if f.s2 ≠ 0 ∧ (ad - f.base) % f.s1 = 0 then f.c2 else if f.s1 ≠ 0 ∧ f.s1 ≠ 0x4000 ∧ ad = f.base then f.c1 else 1

/-- A register array as an access of a KIND and a SCALE sees it: its bytes are such that the index is clamped to its element count, whatever the
SCALE (R145). -/
def regArray (ad : Nat) (kind : AccessKind) (scale : BitVec 3) : ArrRef :=
  let last := match kind with
    | .word => 4
    | .pair => 8
  { base := ad, bytes := (elementCount ad - 1) * (4 * 2 ^ scale.toNat) + last }

/-- The array that the instruction at word `pc` names (R145): by the reference list, at its literal's address; without an entry the declared
constant or variable at a window or alias address, else a register array. -/
def namedArray (b : ImageBody) (pc ad : Nat) (kind : AccessKind) (scale : BitVec 3) : ArrRef :=
  match b.refs.find? fun r => r.1 == pc with
  | some r => { r.2 with base := ad }
  | none =>
    let home := if inSetAlias ad || inClrAlias ad then aliasTarget ad else ad
    match if ad < 0x40000000 then b.vars.find? fun v => v.addr == home else none with
    | some v => { base := ad, bytes := 4 * v.words, scalar := v.scalar }
    | none => regArray ad kind scale

/-- The CRC of a check-value instruction. -/
def crcKindOf (n : Nat) : CrcKind :=
  match n with
  | 0 => .crc8
  | 1 => .crc16
  | 2 => .crc32
  | _ => .crc32c

/-! ### Groups of instructions: cost and meaning -/

/-- A decoded instruction: what it costs when the slice budget is checked (R97, R139), and what it does. -/
abbrev Decoded := Option (Nat × (Fy → Fy))

/-- Integer instructions (R142). -/
def decodeInt (fn : Nat) (d a : RegNo) (b : Src) : Decoded :=
  match fn with
  | 0 => some (1, fyAdd d a b) | 1 => some (1, fySub d a b) | 2 => some (1, fyAddu d a b) | 3 => some (1, fySubu d a b)
  | 4 => some (1, fyAnd d a b) | 5 => some (1, fyOr d a b) | 6 => some (1, fyXor d a b) | 7 => some (1, fyAndn d a b)
  | 8 => some (1, fyShl d a b) | 9 => some (1, fyShr d a b) | 10 => some (1, fySar d a b) | 11 => some (1, fyMin d a b)
  | 12 => some (1, fyMax d a b) | 13 => some (1, fyMinu d a b) | 14 => some (1, fyMaxu d a b) | 15 => some (2, fyMul d a b)
  | 16 => some (2, fyMulu d a b) | 17 => some (8, fyDiv d a b) | 18 => some (8, fyDivu d a b) | 19 => some (8, fyRem d a b)
  | 20 => some (8, fyRemu d a b) | 23 => some (1, fyCmov d a b) | 24 => some (1, fyEq d a b) | 25 => some (1, fyNe d a b)
  | 26 => some (1, fyLt d a b) | 27 => some (1, fyLe d a b) | 28 => some (1, fyLtu d a b) | 29 => some (1, fyLeu d a b)
  | _ => none

/-- Integer instructions of the R form only (R142). -/
def decodeIntR (fn : Nat) (d a : RegNo) (b : Src) : Decoded :=
  match fn with
  | 21 => some (1, fyNeg d a) | 22 => some (1, fyAbs d a) | 30 => some (1, fyNot d a)
  | n => decodeInt n d a b

/-- Floating-point instructions (R143). -/
def decodeFloat (fn : Nat) (d a : RegNo) (b : Src) : Decoded :=
  match fn with
  | 0 => some (2, fyFadd d a b) | 1 => some (2, fyFsub d a b) | 2 => some (2, fyFmul d a b) | 3 => some (10, fyFdiv d a b)
  | 5 => some (2, fyFmin d a b) | 6 => some (2, fyFmax d a b) | 9 => some (2, fyFeq d a b) | 10 => some (2, fyFlt d a b)
  | 11 => some (2, fyFle d a b)
  | _ => none

/-- Floating-point instructions of the R form only (R143). -/
def decodeFloatR (fn : Nat) (d a : RegNo) (b : Src) : Decoded :=
  match fn with
  | 4 => some (12, fyFsqrt d a) | 7 => some (1, fyFabs d a) | 8 => some (1, fyFneg d a) | 12 => some (2, fyItof d a)
  | 13 => some (2, fyUtof d a) | 14 => some (2, fyFtoi d a) | 15 => some (2, fyFtoiz d a) | 16 => some (2, fyFtou d a)
  | n => decodeFloat n d a b

/-- INT64 instructions (R144). -/
def decodeInt64 (fn : Nat) (d a b : RegNo) : Decoded :=
  match fn with
  | 0 => some (2, fyAdd64 d a b) | 1 => some (2, fySub64 d a b) | 2 => some (4, fyMul64 d a b) | 3 => some (16, fyDiv64 d a b)
  | 4 => some (16, fyRem64 d a b) | 5 => some (2, fyNeg64 d a) | 6 => some (2, fyEq64 d a b) | 7 => some (2, fyLt64 d a b)
  | 8 => some (1, fySx64 d a) | 9 => some (1, fyZx64 d a) | 10 => some (1, fySat32 d a) | 11 => some (3, fyTof64 d a)
  | 12 => some (3, fyFto64 d a)
  | _ => none

/-- Control instructions (R147 to R149). -/
def decodeControl (fn : Nat) (d a : RegNo) (lit : Word) : Decoded :=
  match fn with
  | 0 => some (1, fyBr lit) | 1 => some (1, fyBrt a lit) | 2 => some (1, fyBrf a lit)
  | 3 => some (3, fyLoop d a (lit.bits 15 0) (lit.bits 31 16))
  | 4 => some (4, fyCall lit.toNat) | 5 => some (0, fyRet) | 6 => some (1, fyEnd) | 7 => some (1, fyNop)
  | _ => none

/-- Edge, timer and counter slots (R151). -/
def decodeSlot (major fn : Nat) (d a b : RegNo) (lit : Word) : Decoded :=
  let n := lit.bits 11 0
  let p : RegNo := BitVec.ofNat 7 (lit.bits 22 16)
  match major, fn with
  | 0x10, 0 => some (2, fyRise d a n) | 0x10, 1 => some (2, fyFall d a n) | 0x10, 2 => some (2, fyChange d a n)
  | 0x11, 0 => some (3, fyTon d a b n) | 0x11, 1 => some (3, fyTof d a b n) | 0x11, 2 => some (3, fyTp d a b n)
  | 0x11, 3 => some (2, fyTrd d n) | 0x11, 4 => some (2, fyTrst n)
  | 0x12, 0 => some (3, fyCtu d a b p n) | 0x12, 1 => some (3, fyCtd d a b p n) | 0x12, 2 => some (2, fyCrd d n)
  | 0x12, 3 => some (2, fyCld a n)
  | _, _ => none

/-- Check-value instructions (R159). -/
def decodeCvu (f : Fy) (fn : Nat) (d a b : RegNo) (arr : ArrRef) (slot : Nat) : Decoded :=
  let k := crcKindOf (fn % 4)
  let w := CrcKind_bytes k
  match fn / 4 with
  | 0 => some (cvuCost f.act arr 0, fyCrc d a k arr) | 1 => some (cvuCost f.act arr 0, fyCrcc d a b k arr)
  | 2 => some (cvuCost f.act arr (w + 1), fySeal d a k arr slot) | 3 => some (cvuCost f.act arr (w + 1), fyCheck d a k arr slot)
  | _ => none

/-- CAN instructions (R156). -/
def decodeCan (fn : Nat) (d : RegNo) (lit : Word) : Decoded :=
  let base := lit.bits 23 0
  let port := lit.bits 24 24
  match fn with
  | 0 => some (12, fyCantx d port (lit.bits 29 25) base) | 1 => some (12, fyCanpop d port (lit.bits 25 25) base)
  | 2 => some (12, fyCanmb d port (lit.bits 31 25) base)
  | _ => none

/-- KIND of a load or store. -/
def kindOf (fn : Nat) : AccessKind := if fn / 8 = 1 then .pair else .word

/-- The addressing of the load or store at word `pc` (R145). -/
def accessOf (b : ImageBody) (pc fn : Nat) (lit : Word) : Access :=
  let scale : BitVec 3 := BitVec.ofNat 3 (fn % 8)
  { arr := namedArray b pc lit.toNat (kindOf fn) scale, kind := kindOf fn, scale := scale }

/-- An instruction from the fields of its first word and from its literal (R136). -/
def decodeFields (b : ImageBody) (f : Fy) (major fn : Nat) (d a rb : RegNo) (lit : Word) : Decoded :=
  let acc : Access := accessOf b f.act.pc fn lit
  let buf := namedArray b f.act.pc (lit.bits 23 0) .word 0#3
  match major with
  | 0x01 => decodeIntR fn d a (.reg rb)
  | 0x02 => decodeInt fn d a (.lit lit)
  | 0x03 => decodeFloatR fn d a (.reg rb)
  | 0x04 => decodeFloat fn d a (.lit lit)
  | 0x05 => decodeInt64 fn d a rb
  | 0x06 => some (1, fyMovi d lit)
  | 0x08 => some (if fn / 8 = 1 then 3 else 2, fyLd d a acc)
  | 0x09 => some (if fn / 8 = 1 then 3 else 2, fySt rb a acc)
  | 0x0C => decodeControl fn d a lit
  | 0x10 => decodeSlot 0x10 fn d a rb lit
  | 0x11 => decodeSlot 0x11 fn d a rb lit
  | 0x12 => decodeSlot 0x12 fn d a rb lit
  | 0x14 => match fn with
    | 0 => some (2, fyStroke d) | 1 => some (1, fyTaskid d) | 2 => some (6, fyEvt d a (lit.bits 14 0))
    | _ => none
  | 0x18 => some (6, fyLcmd d rb (lit.bits 9 0) (lit.bits 15 12))
  | 0x1C => decodeCan fn d lit
  | 0x1D => if fn = 0 then some (40, fyHreq d (lit.bits 27 24) buf) else some (40, fyHres d (lit.bits 27 24) buf)
  | 0x1E => decodeCvu f fn d a rb buf (lit.bits 31 24)
  | _ => none

/-- The instruction at word `pc` of the image (R136). -/
def decodeAt (b : ImageBody) (f : Fy) : Decoded :=
  let w := b.code.getD f.act.pc 0#32
  decodeFields b f (w.bits 31 26) (w.bits 4 0) (rnD w) (rnA w) (rnB w) (b.code.getD (f.act.pc + 1) 0#32)

/-! ### Running an activation -/

/-- The armed breakpoint at the activation's next instruction, if any (R68): the lowest index. -/
def hitAt (breaks : Tab (Option Break)) (task pc : Nat) : Option Nat :=
  (breaks.find? fun e => e.2 == some (task, pc)).map (·.1)

/-- An activation run until it is done, until the next instruction would exceed the `slice` (R97), or until the fuel ends; with the first
armed breakpoint it reaches. A LOOP pass begun when nothing is left of the slice is charged to the next one. A word that is no instruction, which no accepted
image holds, ends it. -/
def runAct (b : ImageBody) (breaks : Tab (Option Break)) (slice : Option Nat) : Nat → Fy → Option Nat → Fy × Option Nat
  | 0, f, hit => (f.upd fun a => { a with done := true }, hit)
  | n + 1, f, hit =>
    if f.act.done then (f, hit)
    else
      match decodeAt b f with
      | none => (f.upd fun a => { a with done := true }, hit)
      | some (cost, step) =>
        match slice with
        | some left =>
          if cost > left then (f, hit)
          else
            let hit := hit.orElse fun _ => hitAt breaks f.act.task f.act.pc
            let g := step f
            let spent := g.act.charge - f.act.charge
            if spent > left then (g.upd fun a => { a with owed := spent - left }, hit) else runAct b breaks (some (left - spent)) n g hit
        | none =>
          let hit := hit.orElse fun _ => hitAt breaks f.act.task f.act.pc
          runAct b breaks none n (step f) hit

/-- The register file with the loop blocks of an image declared: LOOP_PERIOD.K_L of each (R183, R186). -/
def declareBlocks (b : ImageBody) (t : Tab Word) : Tab Word :=
  b.loops.foldl (init := t) fun t l => setField t (F.loopPeriodKL l.block) (word l.period)

end Sys2Proof.Machine
end

