-- ==== Sys2Proof/Machine/Lines.lean ====
section
/-! DEFINITION. Contacts and shared lines (chapter 02): PRESENT_n, PARTNER_PRESENT_n, the SAFE inputs and DBG_EN. -/

namespace Sys2Proof.Machine

/-- PRESENT_MATED (R35). -/
def presentMated (s : M) : M := { s with aon := { s.aon with mated := true } }

/-- PRESENT_PARTED (R46): a holder releases BUCKET_n and cuts its enables. -/
def presentParted (s : M) : M :=
  let s := { s with aon := { s.aon with mated := false } }
  if s.holds then s.release false else s

/-- PARTNER_ABSENT (R337): the roles of the first row. -/
def partnerAbsent (s : M) : M :=
  let s := s.setB F.idStrapsPartnerPresent false
  let s := { s with red := { s.red with absent := true } }
  if s.mode = 0 ∨ (s.mode = 1 ∧ s.role ≠ 3) ∨ s.role = 0 then s
  else if s.role = 1 then
    let s := if s.red.joining then s.abortJoin 8 0 else s
    s.toRole 0 13
  else if s.role = 2 then (if s.holds then s.toRole 0 13 else s.leaveArmed 0 13)
  else if s.role = 3 then ((s.abortJoin 8 0).toRole 0 13).coldAgain
  else
    let s := s.toRole 0 13
    if s.holds || s.on F.redStatusArmed || s.mode == 5 then s else { s with red := { s.red with wantBucket := 7 } }

/-- PARTNER_PRESENT (R337): a LONE module becomes DETACHED. -/
def partnerPresent (s : M) : M :=
  let s := s.setB F.idStrapsPartnerPresent true
  let s := { s with red := { s.red with absent := false } }
  if s.mode ≥ 2 ∧ s.role = 0 then s.toRole 4 14 else s

/-- SAFE_CAUSE that the asserted SAFE inputs give: 2 SAFE_A_n, 3 SAFE_B_n, 4 both, 0 neither (R82). -/
def M.safeInputs (s : M) : Nat :=
  match s.on F.idStrapsSafeA, s.on F.idStrapsSafeB with
  | true, true => 4
  | true, false => 2
  | false, true => 3
  | false, false => 0

/-- SAFE_INPUT_ASSERTED (R39, R65, R66, R375): the reading and its SEEN bit; in SAFE the cause is updated; the next cut takes the assertion, even one that
has ended by then. -/
def safeInputAsserted (b : Bool) (s : M) : M :=
  let s := s.setB (if b then F.idStrapsSafeB else F.idStrapsSafeA) true
  let s := s.setB (if b then F.hltSafeBSeen else F.hltSafeASeen) true
  let s := { s with ctl := { s.ctl with inputSeen := s.ctl.inputSeen ||| (if b then 2 else 1) } }
  if s.mode = 5 then s.setN F.modStatusSafeCause s.safeInputs else s

/-- Whether a SAFE input, B or A, reads asserted or was asserted since the last cut took its inputs. -/
def M.safeSeen (s : M) (b : Bool) : Bool :=
  if b then s.on F.idStrapsSafeB || bitAt (word s.ctl.inputSeen) 1 else s.on F.idStrapsSafeA || bitAt (word s.ctl.inputSeen) 0

/-- SAFE_INPUT_RELEASED (R39): releasing an input does not end SAFE. -/
def safeInputReleased (b : Bool) (s : M) : M := s.setB (if b then F.idStrapsSafeB else F.idStrapsSafeA) false

/-- DBG_EN_OPEN (R33, R66): breakpoints are cleared in RUN; in HOLD the event, and STOP at the boundary that the next cut announces, even where
the strap is fitted again by then. -/
def dbgEnOpen (s : M) : M :=
  let was := s.on F.idStrapsDbgEn
  let s := s.setB F.idStrapsDbgEn false
  if s.mode = 3 then { s with ctl := { s.ctl with breaks := [] } }
  else if s.mode = 4 ∧ was then ({ s with ctl := { s.ctl with dbgSeen := true } }).hw (ev 0x0010 0x1012)
  else s

/-- DBG_EN_FITTED (R33). -/
def dbgEnFitted (s : M) : M := s.setB F.idStrapsDbgEn true

/-! ### What the commands do -/

/-- PRESENT_MATED (R35). -/
def execPresentMated (s : State) : Host.Outcome State Fault Refusal := runM presentMated s

/-- PRESENT_PARTED (R46). -/
def execPresentParted (s : State) : Host.Outcome State Fault Refusal := runM presentParted s

/-- PARTNER_ABSENT (R337). -/
def execPartnerAbsent (s : State) : Host.Outcome State Fault Refusal := runM partnerAbsent s

/-- PARTNER_PRESENT (R337). -/
def execPartnerPresent (s : State) : Host.Outcome State Fault Refusal := runM partnerPresent s

/-- SAFE_INPUT_ASSERTED (R39). -/
def execSafeInputAsserted (b : Bool) (s : State) : Host.Outcome State Fault Refusal := runM (safeInputAsserted b) s

/-- DBG_EN_OPEN (R33). -/
def execDbgEnOpen (s : State) : Host.Outcome State Fault Refusal := runM dbgEnOpen s

/-- SAFE_INPUT_RELEASED (R39). -/
def execSafeInputReleased (b : Bool) (s : State) : Host.Outcome State Fault Refusal := runM (safeInputReleased b) s

/-- DBG_EN_FITTED (R33). -/
def execDbgEnFitted (s : State) : Host.Outcome State Fault Refusal := runM dbgEnFitted s

end Sys2Proof.Machine
end

