-- ==== Sys2Proof/Machine/Power.lean ====
section
/-! DEFINITION. Supplies, the standpipe, AON power and domain restarts (chapter 03), RESET_n and the end of a save. -/

namespace Sys2Proof.Machine

/-! ### AON and the standpipe -/

/-- FEED_A or FEED_B. -/
def feedState (b : Bool) : Nat := if b then F.pwrFeedFeedB else F.pwrFeedFeedA

/-- Whether a feed holds the rail at 19.2 V or more: one that is GOOD and whose latest reading says so, since a GOOD feed may have fallen to 18.5 V
(R47, R50). -/
def M.railGood (s : M) : Bool :=
  (s.nat (feedState false) == 0 && decide (s.nat F.pwrVoltFeedAV ≥ 1920)) || (s.nat (feedState true) == 0 && decide (s.nat F.pwrVoltFeedBV ≥ 1920))

/-- The time since when the rail has stood at 19.2 V or more, followed: it begins anew with the first GOOD feed, and after a dip (R50). -/
def M.followRail (s : M) : M :=
  let since := if !s.railGood || s.on F.pwrFeedDipActive then none else match s.aon.railSince with
    | some t => some t
    | none => some s.aon.now
  { s with aon := { s.aon with railSince := since } }

/-- The standpipe is drained (R51, R53): it holds less than 0.84 J from now on, how much the spec does not say. -/
def M.drainStandpipe (s : M) : M := (s.setB F.pwrFeedStandpipeReady false).setN F.pwrFeedStandpipePct (min 100 (Config.standpipePct s.aon.now))

/-- AON_POWER_UP (R50, R435): AON starts in RESET with the wall clock at 0 and quality 0, its queue empty. -/
def aonPowerUp (now : Nat) (s : M) : M :=
  if s.aon.powered then s
  else
    let t := max s.aon.now now
    let s := { s with aon := { s.aon with powered := true, now := t, wallOff := -(t : Int), queue := [], lost := 0, railSince := none } }
    ((s.followRail.setN F.wallQualQuality 0).set F.pwrDomainOn 1#32).showWall

/-- Power fails before the open record is written: what waits for the recorder is lost, and the place of the open record reads as a bad one (R384, R387). -/
def M.loseLog (s : M) : M :=
  { s with log := { s.log with records := s.log.records ++ (s.log.opened.map fun r => badRecord r.seq).toList, opened := none, queue := [] } }

/-- AON_POWER_DOWN (R50, R54, R384, R435): AON and all it holds in volatile form is lost; a save that has not completed leaves its area
invalid. DESIGN CHOICE (log entry 2): the feed states and PWR_VOLT keep what they last read; the spec does not say what they read at the next
AON power-up. -/
def aonPowerDown (s : M) : M :=
  let s := if s.aon.saving != 0 || s.mode != 0 then s.dropSave else s
  let s := if s.mode != 0 then s.halt else s
  let s := s.loseLog
  let s := (((s.setB F.pwrFeedStandpipeReady false).setN F.pwrFeedStandpipePct 0).setB F.pwrFeedDipActive false).set F.pwrDomainOn 0#32
  { s with aon := { s.aon with powered := false, joinAgain := false, saving := 0, waiting := false, queue := [], lost := 0, railSince := none, readyAt := none
                               healthySince := none } }

/-- STANDPIPE_READY (R49): it holds 0.84 J. It does not charge while a dip is in progress. It carries no time: it happens at the time of the last command
that carried one (log entry 12). -/
def standpipeReady (s : M) : M :=
  if s.on F.pwrFeedDipActive then s
  else
    { (s.setB F.pwrFeedStandpipeReady true).setN F.pwrFeedStandpipePct 100 with
      aon := { s.aon with readyAt := if s.mode = 0 then some s.aon.now else s.aon.readyAt } }

/-! ### Feeds (R47) -/

/-- The feed's voltage in units of 10 mV (R61), and what it means for the rail. -/
def M.feedVolt (s : M) (b : Bool) (v : Nat) : M := (s.setN (if b then F.pwrVoltFeedBV else F.pwrVoltFeedAV) (min 4000 v)).followRail

/-- A feed enters a state: 0 GOOD, 1 LOW, 2 LOST, 3 OVER, with the event of the state. -/
def M.enterFeed (s : M) (b : Bool) (st : Nat) : M :=
  let s := (s.setN (feedState b) st).followRail
  if st = 1 then s.hw (ev 0x0030 0x1040) else if st = 2 then s.hw (ev 0x0030 0x1041) else if st = 3 then s.hw (ev 0x0030 0x1042) else s

/-- FEED_GOOD (R47): LOW and LOST end; OVER ends only under its own rule. -/
def feedGood (b : Bool) (v : FeedRead) (s : M) : M :=
  let s := (s.at v.now).feedVolt b v.volts
  let st := s.nat (feedState b)
  if st = 1 ∨ st = 2 then s.enterFeed b 0 else s

/-- FEED_LOW (R47): entered from GOOD. -/
def feedLow (b : Bool) (v : FeedRead) (s : M) : M :=
  let s := (s.at v.now).feedVolt b v.volts
  if s.nat (feedState b) = 0 then s.enterFeed b 1 else s

/-- FEED_LOST (R47): entered from GOOD or LOW. -/
def feedLost (b : Bool) (v : FeedRead) (s : M) : M :=
  let s := (s.at v.now).feedVolt b v.volts
  if s.nat (feedState b) < 2 then s.enterFeed b 2 else s

/-- FEED_OVER (R47). -/
def feedOver (b : Bool) (v : FeedRead) (s : M) : M :=
  let s := (s.at v.now).feedVolt b v.volts
  if s.nat (feedState b) = 3 then s else s.enterFeed b 3

/-- FEED_OVER_END (R47): the state that the voltage of the moment calls for, with its event. -/
def feedOverEnd (b : Bool) (v : FeedRead) (s : M) : M :=
  let s := (s.at v.now).feedVolt b v.volts
  if s.nat (feedState b) = 3 then s.enterFeed b (if v.volts ≥ 1920 then 0 else if v.volts ≥ 1400 then 1 else 2) else s

/-! ### Dips and power loss (R51 to R54) -/

/-- DIP_BEGIN (R51): from now on the standpipe supplies the module. -/
def dipBegin (now : Nat) (s : M) : M :=
  let s := s.at now
  if s.on F.pwrFeedDipActive then s
  else ({ s.setB F.pwrFeedDipActive true with aon := { s.aon with dipSince := s.aon.now } }).followRail.drainStandpipe

/-- DIP_RIDDEN (R51): the length from the beginning of the dip in units of 10 µs. DESIGN CHOICE (log entry 77): a length that is no multiple of 10 µs is
rounded down. -/
def dipRidden (now : Nat) (s : M) : M :=
  let s := s.at now
  if s.on F.pwrFeedDipActive then
    let len := (s.aon.now - s.aon.dipSince) / 10000
    let s := ((s.setB F.pwrFeedDipActive false).followRail.bump F.pwrDipDipCount 65535 1).setN F.pwrDipLongestDip (max (s.nat F.pwrDipLongestDip) (min 65535 len))
    s.hw (ev 0x0030 0x1043 len)
  else s

/-- POWER_LOSS (R53, R54): the dip is over and the standpipe drained, the bucket released and the enables cut, the event with the last committed stroke, then the
save, for which MEM works on until SAVE_DONE; no save during priming; no effect in RESET. -/
def powerLoss (s : M) : M :=
  let s := (s.setB F.pwrFeedDipActive false).followRail.drainStandpipe
  if s.mode = 0 then s
  else
    let s := (s.release false).setB F.redStatusSafeDriver false
    let s := s.hw (ev 0x0030 0x1044 s.lastCommitted.lo.toNat s.lastCommitted.hi.toNat)
    let s := if s.red.joining || s.role == 3 then s.abortJoin 6 0 else s
    if s.mode ≥ 2 then
      if s.role = 3 then s.coldAgain
      else
        let s := s.beginSave 2
        { s with aon := { s.aon with saving := 2 } }.halt
    else s.dropSave.intoReset

/-- SAVE_DONE (R53, R75): the area is valid from now on, and the module rests in RESET with AON alone. -/
def saveDone (s : M) : M :=
  if s.aon.saving = 0 then s
  else
    let s := s.endSave
    { s with aon := { s.aon with saving := 0 } }.rest

/-! ### Domain restarts -/

/-- An accepted restart with its effects on the pair (R57): with a ROPE restart the link goes DOWN, and the rope is lost (R338). -/
def M.restartNow (s : M) (t : Nat) : M :=
  let s := s.startRestart t
  if t = 2 then ((s.setN F.redStatusLanes 0).setN F.redStatusRope 0).loseRope else s

/-- TARGET as a write makes it: codes above 5 fall back to 0. -/
def restartTarget (n : Nat) : Nat := if n > 5 then 0 else n

/-- The status of a restart that a Fytric write requests, as the module that holds the bucket judges it (R58, R59). -/
def M.judgeFytric (s : M) (t : Nat) : Nat :=
  if !s.repairable (if s.role = 2 then 1 else s.role) t then 2 else if s.restarting t then 3 else if s.ctl.leftOff.contains t then 4 else 0

/-- A restart asked for by a Fytric write carried out or refused with a status (R59); a refusal is INSTR_REFUSED of the stroke `stroke`. A module whose own
target is restarting has nothing to do. -/
def M.concludeRestart (s : M) (src : Half) (t st : Nat) (stroke : DWord) : M :=
  let s := s.showRestart t st
  if st = 0 then (if s.restarting t || s.ctl.leftOff.contains t then s else s.restartNow t)
  else s.enqueue { source := src, code := 0x00F0#16, p0 := 9#32, p1 := 0#32, p2 := word st, p3 := word t } stroke s.wall

/-- A restart requested by a Fytric write (R59): a shadow module acts on the status that the next manifest brings. DESIGN CHOICE (log entry 78): a restart of ROPE,
with which no manifest comes, it judges for itself. -/
def M.fytricRestart (s : M) (src : Half) (t : Nat) : M :=
  if t = 0 then s
  else if s.role = 2 ∧ t ≠ 2 then { s with red := { s.red with restartAsked := some (src, t) } }
  else
    let st := s.judgeFytric t
    if st = 0 then s.concludeRestart src t 0 s.stroke
    else (s.showRestart t st).strokeEvent { source := src, code := 0x00F0#16, p0 := 9#32, p1 := 0#32, p2 := word st, p3 := word t }

/-- The restart that a shadow module was asked for, with the holder's status from the manifest, or its own where it has taken the bucket (R59). -/
def M.answerRestart (s : M) (status : Option Nat) (stroke : DWord) : M :=
  match s.red.restartAsked with
  | none => s
  | some (src, t) => { s with red := { s.red with restartAsked := none } }.concludeRestart src t (status.getD (s.judgeFytric t)) stroke

/-- DOMAIN_RESTART (R57 to R59): acts on the receiving module; its sessions close after the reply to a restart of NET, which does not wait for the
replies of earlier requests. -/
def domainRestart (r : Req) (target : Nat) (s : M) : M :=
  s.receive r 0x0050 (some 2) fun x s =>
    let t := restartTarget target
    if t = 0 then (if s.mode < 2 then s.refuse r x 0x0050 1 else s.reply r 0)
    else
      let st := s.judgeRestart t
      let s := s.showRestart t st
      if st = 0 then (if t = 1 then (s.emit (.reply r 0 [])).restartNow t else (s.restartNow t).reply r 0)
      else s.refuse r x 0x0050 st

/-- DOMAIN_RETURN (R57): the target is powered again with its settings; a wellhead's items stay BAD until its link answers. -/
def domainReturn (t : Nat) (s : M) : M :=
  if t = 0 ∨ t > 5 then s
  else if s.restarting t then
    let s := (s.setRestarting t false).setDomain (targetDomain t) true
    let s := if s.hlt.accepted = t then s.setB F.pwrRestartStatusInProgress false else s
    if t = 1 then (s.unlatch 23).canReturn.identAll.showUsb else if t = 3 then s.dwPower else s
  else s

/-! ### RESET_n (R38, R66) -/

/-- RESET_ASSERT: RESET after the reset save; from PRIMING without one; RESET is kept while the line is low. -/
def resetAssert (s : M) : M :=
  let s := { s with aon := { s.aon with resetLow := true } }
  if s.mode = 0 then s
  else if s.mode = 1 then s.dropSave.intoReset
  else s.resetSave

/-- RESET_RELEASE: priming may begin once R50 holds. -/
def resetRelease (s : M) : M := { s with aon := { s.aon with resetLow := false } }

/-! ### What the commands do -/

/-- AON_POWER_UP (R50). -/
def execAonPowerUp (now : Nat) (s : State) : Host.Outcome State Fault Refusal := runPowerUp (aonPowerUp now) s

/-- AON_POWER_DOWN (R50). -/
def execAonPowerDown (s : State) : Host.Outcome State Fault Refusal := runM aonPowerDown s

/-- STANDPIPE_READY (R49). -/
def execStandpipeReady (s : State) : Host.Outcome State Fault Refusal := runM standpipeReady s

/-- FEED_GOOD (R47). -/
def execFeedGood (b : Bool) (v : FeedRead) (s : State) : Host.Outcome State Fault Refusal := runM (feedGood b v) s

/-- FEED_LOW (R47). -/
def execFeedLow (b : Bool) (v : FeedRead) (s : State) : Host.Outcome State Fault Refusal := runM (feedLow b v) s

/-- FEED_LOST (R47). -/
def execFeedLost (b : Bool) (v : FeedRead) (s : State) : Host.Outcome State Fault Refusal := runM (feedLost b v) s

/-- FEED_OVER (R47). -/
def execFeedOver (b : Bool) (v : FeedRead) (s : State) : Host.Outcome State Fault Refusal := runM (feedOver b v) s

/-- FEED_OVER_END (R47). -/
def execFeedOverEnd (b : Bool) (v : FeedRead) (s : State) : Host.Outcome State Fault Refusal := runM (feedOverEnd b v) s

/-- DIP_BEGIN (R51). -/
def execDipBegin (now : Nat) (s : State) : Host.Outcome State Fault Refusal := runM (dipBegin now) s

/-- DIP_RIDDEN (R51). -/
def execDipRidden (now : Nat) (s : State) : Host.Outcome State Fault Refusal := runM (dipRidden now) s

/-- POWER_LOSS (R53). -/
def execPowerLoss (s : State) : Host.Outcome State Fault Refusal := runM powerLoss s

/-- SAVE_DONE (R53). -/
def execSaveDone (s : State) : Host.Outcome State Fault Refusal := runM saveDone s

/-- RESET_ASSERT (R38). -/
def execResetAssert (s : State) : Host.Outcome State Fault Refusal := runM resetAssert s

/-- RESET_RELEASE (R38). -/
def execResetRelease (s : State) : Host.Outcome State Fault Refusal := runM resetRelease s

/-- DOMAIN_RETURN (R57). -/
def execDomainReturn (t : Nat) (s : State) : Host.Outcome State Fault Refusal := runM (domainReturn t) s

/-- DOMAIN_RESTART (R57). -/
def execDomainRestart (r : Req) (target : Nat) (s : State) : Host.Outcome State Fault Refusal := runM (domainRestart r target) s

end Sys2Proof.Machine
end

