-- ==== Sys2Proof/Machine/Ring.lean ====
section
/-! DEFINITION. The Wazar remote I/O ring: forwarding, stations, records into the snapshot, outputs from the commit (chapter 16). -/

namespace Sys2Proof.Machine

/-- Ring station n. -/
def M.stn (s : M) (n : Nat) : Station := s.ring.stations.get Station.start n

/-- Ring station n changed; RIO_STN_STAT.ACKED follows. -/
def M.updStn (s : M) (n : Nat) (f : Station → Station) : M :=
  let x := f (s.stn n)
  { s with ring := { s.ring with stations := s.ring.stations.set Station.start n x } }.setB (F.rioStnStatAcked n) (x.ackOk && s.on (F.rioStnCfgPresent n))

/-- Remote module m. -/
def M.rmod (s : M) (m : Nat) : RioMod := s.ring.mods.get RioMod.start m

/-- Remote module m changed. -/
def M.updMod (s : M) (m : Nat) (f : RioMod → RioMod) : M := { s with ring := { s.ring with mods := s.ring.mods.upd RioMod.start m f } }

/-- The declared modules with their index. -/
def M.modules (s : M) : List (ModuleDecl × Nat) := s.body.modules.zipIdx

/-- Whether the ring ports work: NET on, outside RESET (R300). -/
def M.ringOn (s : M) : Bool := s.domainOn 4 && s.mode != 0

/-- The controller address of the ring (R299). -/
def M.ctrlAddr (s : M) : Nat := s.nat F.idStrapsStationAddr

/-- A station's state (R305). -/
def M.stnState (s : M) (n : Nat) : Nat := s.nat (F.rioStnStatState n)

/-! ### Frames (R300, R302, R304, R312) -/

/-- Frames seen in the last 10 ms. -/
def recentSeen (now : Nat) (l : List Seen) : List Seen := l.filter fun x => decide (now ≤ x.time + 10000000)

/-- Whether a frame was seen on both ports. -/
def bothWays (a b : List Seen) : Bool := a.any fun x => b.any fun y => x.mac == y.mac && x.seq == y.seq

/-- RING_STATE with the event of a change (R312): 0 UNKNOWN, 1 CLOSED, 2 OPEN. -/
def M.setRing (s : M) (st : Nat) : M :=
  if s.nat F.rioStatRingState = st then s
  else
    let s := s.setN F.rioStatRingState st
    if st = 1 then s.hw (ev 0x0440 0x1411) else if st = 2 then s.hw (ev 0x0440 0x3410) else s

/-- A frame goes on at the other port with its HOPS decremented, unless HOPS reaches 0 (R300). -/
def M.forwardFrame (s : M) (port hops : Nat) : M := if hops ≤ 1 then s else s.emit (.wazarForward (3 - port) (hops - 1))

/-- A frame arrives: it is forwarded unless it is the module's own, by its source address, and one with this CTRL_ADDR counts for the ring state (R300,
R312). -/
def M.wazarSeen (s : M) (h : WazarHead) : M :=
  let s := s.at h.now
  let s := if h.mac = s.ownMac then s else s.forwardFrame h.port h.hops
  if h.ctrl ≠ s.ctrlAddr then s
  else
    let x : Seen := { mac := h.mac, seq := h.seq, time := s.aon.now }
    let a := recentSeen s.aon.now (if h.port = 1 then x :: s.ring.seen1 else s.ring.seen1)
    let b := recentSeen s.aon.now (if h.port = 2 then x :: s.ring.seen2 else s.ring.seen2)
    let s := { s with ring := { s.ring with seen1 := a, seen2 := b } }
    if bothWays a b then s.setRing 1 else s

/-- The receiver's check of R304: the module with the originator's SEQ recorded, or none for a duplicate or old copy. -/
def M.freshFrame (s : M) (h : WazarHead) : Option M :=
  let last := s.ring.heard.find? fun e => e.1 == h.mac
  let ok := match last with
    | none => true
    | some e => (h.start && e.2 != h.seq) || (let d := (h.seq + 65536 - e.2) % 65536; decide (1 ≤ d) && decide (d ≤ 32767))
  if ok then some { s with ring := { s.ring with heard := (h.mac, h.seq) :: s.ring.heard.filter fun e => e.1 != h.mac } } else none

/-- A frame counted as ignored (R300, R302, R306). -/
def M.unknownRing (s : M) : M := s.bump F.rioStatUnknownFrames 65535 1

/-- UNKNOWN_FRAME (R300, R302, R306): `port` is where it arrived; `drop` for another EtherType, which is not forwarded; HOPS decides otherwise. -/
def unknownFrame (port hops : Nat) (drop : Bool) (s : M) : M :=
  if !s.ringOn then s
  else
    (if drop then s else s.forwardFrame port hops).unknownRing

/-! ### Stations (R305, R306) -/

/-- A station searched for: IDENT_REQ at once (R305). -/
def M.searchStn (s : M) (n : Nat) : M := (s.setStn n 1).identReq n

/-- A claim on a station address; two addresses within 100 ms are a conflict (R306). -/
def M.claim (s : M) (n mac : Nat) : M :=
  let old := (s.stn n).claims
  let s := s.updStn n fun x => { x with claims := (mac, s.aon.now) :: x.claims.filter fun e => e.1 != mac }
  match old.find? fun e => e.1 != mac && decide (s.aon.now ≤ e.2 + 100000000) with
  | none => s
  | some e =>
    if s.stnState n = 4 then s
    else
      let s := s.setStn n 4
      s.hw (ev (0x0400 + n) 0x3404 n e.1 (e.1 / 4294967296 + mac % 65536 * 65536) (mac / 65536))

/-- A station restarts (R305, R313, R314). -/
def M.stnRestart (s : M) (n : Nat) : M :=
  let s := s.bump (F.rioStnCntRestarts n) 65535 1
  let s := s.updStn n fun x => { x with needStart := true, startFrom := none, ackOk := false }
  let s := s.modules.foldl (init := s) fun s m => if m.1.station = n then s.updMod m.2 fun r => { r with fresh := false } else s
  s.searchStn n

/-- The first slot of a station in which an identity differs from the declared modules (R305). -/
def M.slotDiffers (s : M) (n : Nat) (recs : List IdentRecord) : Option Nat :=
  ((s.modules.filter fun m => m.1.station == n &&
    !(recs.any fun r => r.slot == m.1.slot && r.inWords == m.1.inWords && r.outWords == m.1.outWords && r.code == m.1.code)).map fun m => m.1.slot).min?

/-- WAZAR_IDENT_RSP (R305): RUNNING or MISMATCH; START from a RUNNING station is a restart. -/
def wazarIdentRsp (x : WazarIdent) (s : M) : M :=
  if !s.ringOn then s
  else
    let s := s.wazarSeen x.head
    let n := x.head.stn
    match s.freshFrame x.head with
    | none => s.wrap F.rioCntDuplicates 16 1
    | some s =>
      if !s.on (F.rioStnCfgPresent n) then s.unknownRing
      else
        let s := s.claim n x.head.mac
        if s.stnState n = 4 then s
        else if x.head.start && s.stnState n == 2 then s.stnRestart n
        else
          match s.slotDiffers n x.records with
          | none => s.setStn n 2
          | some slot => if s.stnState n = 3 then s else (s.setStn n 3).hw (ev (0x0400 + n) 0x3403 n slot)

/-- Whether a record's CRC is right for the frame that brought it (R303). -/
def recordOk (r : RioRecord) (h : WazarHead) : Bool :=
  r.crc.toNat == recordCrc h.ctrl h.stn (recordBody r.slot r.subst r.fault r.version.toNat r.words)

/-- One record of an IN frame (R303, R307): one whose CRC fails is discarded on its own; one with a new VERSION is kept. -/
def M.acceptRecord (s : M) (h : WazarHead) (r : RioRecord) : M :=
  let n := h.stn
  if !recordOk r h then (s.bump F.rioCntRecordCrcFails 65535 1).hw (ev (0x0400 + n) 0x1402 n r.slot)
  else
    match s.modules.find? fun m => m.1.station == n && m.1.slot == r.slot && m.1.inWords == r.words.length with
    | none => s
    | some m =>
      s.updMod m.2 fun x =>
        if (x.kept.head?.map (·.version)) = some r.version then x
        else { x with kept := (r :: x.kept).take 4, time := s.aon.now, fresh := true }

/-- Whether STN_VERSION of an IN frame acknowledges a version that the station has been sent since its OUT frames carry START (R314): from the first of them to
the newest. -/
def M.acksStart (s : M) (n acked : Nat) : Bool :=
  match (s.stn n).startFrom with
  | none => false
  | some v => decide ((acked + 65536 - v) % 65536 ≤ (s.nat (F.rioStnStatOutVersion n) + 65536 - v) % 65536)

/-- WAZAR_IN (R305 to R310): links and acknowledgement shown, records of a RUNNING station accepted. -/
def wazarIn (x : WazarIn) (s : M) : M :=
  if !s.ringOn then s
  else
    let s := s.wazarSeen x.head
    let n := x.head.stn
    match s.freshFrame x.head with
    | none => s.wrap F.rioCntDuplicates 16 1
    | some s =>
      let acks := decide (x.acked = s.nat (F.rioStnStatOutVersion n))
      if !s.on (F.rioStnCfgPresent n) then
        let s := s.unknownRing
        if (s.stn n).removedUntil.isSome && acks then s.updStn n fun t => { t with ackOk := true } else s
      else
        let s := s.claim n x.head.mac
        if s.stnState n = 4 then s
        else
          let s := (s.setB (F.rioStnStatLinkA n) x.linkA).setB (F.rioStnStatLinkB n) x.linkB
          if s.stnState n ≠ 2 then s
          else if x.head.start then s.stnRestart n
          else
            let started := acks || s.acksStart n x.acked
            let s := s.updStn n fun t => { t with ackOk := t.ackOk || acks, needStart := t.needStart && !started }
            x.records.foldl (init := s) fun s r => s.acceptRecord x.head r

/-- WAZAR_OUT_RECEIVED (R304, R312): another CTRL_ADDR is a foreign controller, reported once per 10 s. -/
def wazarOutReceived (h : WazarHead) (s : M) : M :=
  if !s.ringOn then s
  else
    let s := s.wazarSeen h
    if h.mac = s.ownMac then s
    else
      match s.freshFrame h with
      | none => s.wrap F.rioCntDuplicates 16 1
      | some s =>
        if h.ctrl = s.ctrlAddr then s
        else
          match s.ring.foreignAt.filter fun t => decide (s.aon.now < t + 10000000000) with
          | some _ => s
          | none => { s with ring := { s.ring with foreignAt := some s.aon.now } }.hw (ev 0x0440 0x3412 h.ctrl)

/-- IDENT_REQ_TIMER (R305): sent again to a SEARCHING or MISMATCH station. -/
def identReqTimer (n : Nat) (s : M) : M :=
  if s.ringOn && (s.stnState n == 1 || s.stnState n == 3) then s.identReq n else s

/-- CONFLICT_END (R306): one address has used the station address alone for 2 s. -/
def conflictEnd (n : Nat) (s : M) : M := if s.stnState n = 4 then s.searchStn n else s

/-- RIO_RING_OPEN (R312): no frame of this CTRL_ADDR came both ways in the last 10 ms: OPEN where some were seen, else UNKNOWN. -/
def rioRingOpen (now : Nat) (s : M) : M :=
  if !s.ringOn then s
  else
    let s := s.at now
    let a := recentSeen s.aon.now s.ring.seen1
    let b := recentSeen s.aon.now s.ring.seen2
    let s := { s with ring := { s.ring with seen1 := a, seen2 := b } }
    if bothWays a b then s else s.setRing (if a.isEmpty && b.isEmpty then 0 else 2)

/-- ETHERNET_LINK_UP (R317): P1, P2 or P3; P3 at 1000 Mbit/s or below. -/
def ethernetLinkUp (port : Nat) (gig : Bool) (s : M) : M :=
  if !s.ringOn then s
  else if port = 1 then { s with ring := { s.ring with link1 := true } }
  else if port = 2 then { s with ring := { s.ring with link2 := true } }
  else (s.setB F.netP3StatLink true).setB F.netP3StatSpeed1g gig

/-- ETHERNET_LINK_DOWN (R312, R317): the ring opens at the port, which the next judgement of R312 finds; or P3 goes down. -/
def ethernetLinkDown (port : Nat) (s : M) : M :=
  if port = 1 then { s with ring := { s.ring with link1 := false } }
  else if port = 2 then { s with ring := { s.ring with link2 := false } }
  else s.setB F.netP3StatLink false

/-! ### Into the snapshot (R307, R308) -/

/-- Whether a module is STALE at the cut (R307). -/
def M.staleAt (s : M) (m : ModuleDecl × Nat) : Bool :=
  let r := s.rmod m.2
  s.stnState m.1.station != 2 || !r.fresh || decide (s.aon.now > r.time + s.nat (F.rioStnCfgTimeoutMs m.1.station) * 1000000)

/-- The remote-module section that the cut builds: an entry for each module whose version or STALE state changed (R92). -/
def M.cutRing (s : M) : List (Nat × Bool × Nat) :=
  s.modules.filterMap fun m =>
    let r := s.rmod m.2
    let stale := s.staleAt m
    let v := (r.kept.head?.map (·.version))
    if v = r.taken.map (·.version) ∧ stale = r.stale then none
    else some (m.2, stale, (v.getD 0#32).toNat % 65536)

/-- The record that an entry names: the one in the snapshot, or one of those kept (R95). -/
def RioMod.resolve (r : RioMod) (v : Nat) : Option (Option RioRecord) :=
  match r.kept.find? fun x => x.version.toNat % 65536 == v with
  | some x => some (some x)
  | none =>
    match r.taken with
    | some x => if x.version.toNat % 65536 = v then some (some x) else none
    | none => if v = 0 then some none else none

/-- A module's registers in a snapshot (R308, R316). -/
def M.showMod (s : M) (m : Nat) (newVersion : Bool) : M :=
  let r := s.rmod m
  let flag (f : RioRecord → Bool) : Bool := match r.taken with
    | some x => f x
    | none => false
  let s := (s.setB (F.rioModStatStale m) r.stale).setB (F.rioModStatSubstitute m) (flag (·.subst))
  let s := (s.setB (F.rioModStatFault m) (flag (·.fault))).setB (F.rioModStatBad m) (r.taken.isNone || flag (·.fault))
  if newVersion then s.setN (F.rioModStatAge m) 0 else if r.taken.isSome then s.bump (F.rioModStatAge m) 65535 1 else s

/-- ALL_STALE of a station in a snapshot, with the events of R313. -/
def M.showStn (s : M) (n : Nat) : M :=
  let all := s.modules.all fun m => m.1.station != n || (s.rmod m.2).stale
  let was := s.on (F.rioStnStatAllStale n)
  if all = was then s
  else
    let s := s.setB (F.rioStnStatAllStale n) all
    if all then (s.bump (F.rioStnCntTimeouts n) 65535 1).strokeEvent (ev (0x0400 + n) 0x2400 n) else s.strokeEvent (ev (0x0400 + n) 0x0401 n)

/-- The remote-module section of a manifest taken into the snapshot; none where an entry cannot be resolved (R95). -/
def M.applyRing (s : M) (es : List (Nat × Bool × Nat)) : Option M :=
  let step (a : Option M) (m : ModuleDecl × Nat) : Option M :=
    a.bind fun s =>
      match es.find? fun e => e.1 == m.2 with
      | none => some (s.showMod m.2 false)
      | some e =>
        match (s.rmod m.2).resolve e.2.2 with
        | none => none
        | some t =>
          let new := t.map (·.version) != (s.rmod m.2).taken.map (·.version)
          some ((s.updMod m.2 fun r => { r with taken := t, stale := e.2.1 }).showMod m.2 new)
  (s.modules.foldl step (some s)).map fun s => foldNat 64 s fun s n => if s.on (F.rioStnCfgPresent n) then s.showStn n else s

/-- The input items of the remote modules: value and quality words (R308). -/
def M.ringItems (s : M) : List (Nat × Word) :=
  s.modules.flatMap fun m =>
    let r := s.rmod m.2
    let q := match r.taken with
      | none => 3
      | some x => boolNat x.fault + 2 * boolNat r.stale + 16 * boolNat x.subst
    (List.range m.1.inWords).flatMap fun i =>
      let v := match r.taken with
        | none => 0#32
        | some x => x.words.getD i 0#32
      [(m.1.inAddr + 8 * i, v), (m.1.inAddr + 8 * i + 4, word q)]

/-! ### Outputs from the commit (R309, R310, R314) -/

/-- The committed output array of a module. -/
def M.outArray (s : M) (m : ModuleDecl) : List Word := (List.range m.outWords).map fun i => memWord s.mem (m.outAddr + 4 * i)

/-- The record of a module by the rows of R309: slot, words, SUBST. -/
def M.outRecord (s : M) (m : ModuleDecl × Nat) : Nat × List Word × Bool :=
  let held := (List.range m.1.outWords).map fun i => s.ctl.held.get 0#32 (64 * m.2 + i)
  let act (a : Nat) : List Word × Bool := if a = 0 then (held.map fun _ => 0#32, false) else (held, a == 2)
  let forced (i : Nat) : Option Word := (s.ctl.forces.find? fun f => f.1 == m.1.outAddr + 4 * i).map (·.2)
  let words := s.outArray m.1
  let r : List Word × Bool :=
    if (List.range m.1.outWords).any fun i => (forced i).isSome then (words.zipIdx.map fun x => (forced x.2).getD x.1, false)
    else if s.mode = 5 then act (s.nat (F.rioModCfgSafeAct m.2))
    else if s.mode = 2 then act (s.nat (F.rioModCfgStopAct m.2))
    else (words, s.on (F.rioModCfgSubstReq m.2))
  (m.1.slot, r)

/-- The records of a station, one for each of its modules: without data words for one that has none (R309, R310). -/
def M.stnRecords (s : M) (n : Nat) : List (Nat × List Word × Bool) := (s.modules.filter fun m => m.1.station == n).map s.outRecord

/-- A record as it stood before a commit: that of its slot in the version before, or zero without SUBST where the slot had none. -/
def recordBefore (was : List (Nat × List Word × Bool)) (r : Nat × List Word × Bool) : Nat × List Word × Bool :=
  match was.find? fun x => x.1 == r.1 && x.2.1.length == r.2.1.length with
  | some x => x
  | none => (r.1, r.2.1.map fun _ => 0#32, false)

/-- Records split over OUT frames of at most 1514 bytes, in order (R302, R310). -/
def outSplit (rs : List (Nat × List Word × Bool)) : List (List (Nat × List Word × Bool)) :=
  let r := rs.foldl (init := ([[]], 28)) fun (a : List (List (Nat × List Word × Bool)) × Nat) r =>
    let b := 12 + 4 * r.2.1.length
    match a.1 with
    | x :: l => if a.2 + b > 1514 then ([r] :: x :: l, 28 + b) else ((x ++ [r]) :: l, a.2 + b)
    | [] => ([[r]], 28 + b)
  r.1.reverse

/-- Bytes of the OUT frames that carry records: at least 60 a frame. -/
def outBytes (rs : List (Nat × List Word × Bool)) : Nat :=
  ((outSplit rs).map fun f => max 60 (28 + (f.map fun r => 12 + 4 * r.2.1.length).sum)).sum

/-- A station's output version at a commit: +1 where a word or SUBST flag of a module changes (R309). -/
def M.formOut (s : M) (n : Nat) : M :=
  let rs := s.stnRecords n
  let same := rs.all fun r => recordBefore (s.stn n).out r == r
  let s := s.updStn n fun x => { x with out := rs, ackOk := x.ackOk && same }
  if same then s else s.wrap (F.rioStnStatOutVersion n) 16 1

/-- Whether a station is to be sent its output (R310), or its removal (R314). -/
def M.wantsOut (s : M) (n : Nat) : Bool :=
  let x := s.stn n
  if s.on (F.rioStnCfgPresent n) then
    s.stnState n == 2 &&
      (!x.ackOk || decide (s.aon.now ≥ x.sentAt + s.nat (F.rioStnCfgTimeoutMs n) * 250000))
  else
    match x.removedUntil with
    | some t => !x.ackOk && decide (s.aon.now ≤ t)
    | none => false

/-- An OUT frame (R302, R303, R310): frame `index` of `frames` with the station's newest output version. -/
def M.outFrame (s : M) (n index frames : Nat) (recs : List (Nat × List Word × Bool)) : List Byte :=
  let v := s.nat (F.rioStnStatOutVersion n)
  wazarFrame s.ownMac 1 s.ring.seq s.ctrlAddr n (s.mode + 8 * boolNat (s.stn n).needStart) v (s.nat (F.rioStnCfgTimeoutMs n)) (16 * (frames - 1) + index)
    (recs.map fun r => let b := recordBody r.1 r.2.2 false v r.2.1; b ++ bytesLE 4 (recordCrc s.ctrlAddr n b))

/-- OUT frames to the stations of a list while the bytes of R310 last; those left are counted and go first next time. -/
def M.sendOut (s : M) : List Nat → Nat → M
  | [], _ => s
  | n :: r, room =>
    let b := outBytes (s.stn n).out
    if b > room then ({ s with ring := { s.ring with late := s.ring.late ++ [n] } }.bump F.rioOutDeferOutDeferred 65535 1).sendOut r room
    else
      let fs := outSplit (s.stn n).out
      let s := fs.zipIdx.foldl (init := s) fun s f =>
        { s with ring := { s.ring with seq := (s.ring.seq + 1) % 65536 } }.emit (.wazar (s.outFrame n f.2 fs.length f.1))
      let v := s.nat (F.rioStnStatOutVersion n)
      (s.updStn n fun x => { x with sentAt := s.aon.now, startFrom := if x.needStart then some (x.startFrom.getD v) else none }).sendOut r (room - b)

/-- The ring side of a commit: output versions formed in every module; frames sent by the one that drives the field; a new holder sends every
station's newest version with START (R309, R310, R314). -/
def M.commitRing (s : M) (fresh : Bool) : M :=
  let s := foldNat 64 s fun s n =>
    if s.on (F.rioStnCfgPresent n) then
      let s := s.formOut n
      if fresh then s.updStn n fun x => { x with needStart := true, startFrom := none, ackOk := false } else s
    else s
  if !s.drives || !s.domainOn 4 then s
  else
    let want := (List.range 64).filter s.wantsOut
    let late := s.ring.late.filter want.contains
    let s := { s with ring := { s.ring with late := [] } }
    s.sendOut (late ++ want.filter fun n => !late.contains n) (5000 * s.nat F.stkPeriodTbUs / 400)

/-- The output words held while STOP or SAFE lasts (R309, R434). -/
def M.holdRing (s : M) (direct : Bool) : M :=
  s.modules.foldl (init := s) fun s m =>
    let words := if direct then s.outArray m.1
      else match (s.stn m.1.station).out.find? fun r => r.1 == m.1.slot with
        | some r => r.2.1
        | none => s.outArray m.1
    words.zipIdx.foldl (init := s) fun s w => { s with ctl := { s.ctl with held := s.ctl.held.set 0#32 (64 * m.2 + w.2) w.1 } }

/-- A station that an online change removes (R314). -/
def M.removeStn (s : M) (n : Nat) : M :=
  let s := s.updStn n fun x => { x with out := x.out.map fun r => (r.1, r.2.1.map fun _ => 0#32, true), ackOk := false, removedUntil := some (s.aon.now + 1000000000) }
  (s.wrap (F.rioStnStatOutVersion n) 16 1).setStn n 0

/-! ### What the commands do -/

/-- WAZAR_IN (R307). -/
def execWazarIn (x : WazarIn) (s : State) : Host.Outcome State Fault Refusal := runM (wazarIn x) s

/-- WAZAR_IDENT_RSP (R305). -/
def execWazarIdentRsp (x : WazarIdent) (s : State) : Host.Outcome State Fault Refusal := runM (wazarIdentRsp x) s

/-- WAZAR_OUT_RECEIVED (R312). -/
def execWazarOutReceived (h : WazarHead) (s : State) : Host.Outcome State Fault Refusal := runM (wazarOutReceived h) s

/-- IDENT_REQ_TIMER (R305). -/
def execIdentReqTimer (n : Nat) (s : State) : Host.Outcome State Fault Refusal := runM (identReqTimer n) s

/-- RIO_RING_OPEN (R312). -/
def execRioRingOpen (now : Nat) (s : State) : Host.Outcome State Fault Refusal := runM (rioRingOpen now) s

/-- CONFLICT_END (R306). -/
def execConflictEnd (n : Nat) (s : State) : Host.Outcome State Fault Refusal := runM (conflictEnd n) s

/-- ETHERNET_LINK_UP (R317). -/
def execEthernetLinkUp (port : Nat) (gig : Bool) (s : State) : Host.Outcome State Fault Refusal := runM (ethernetLinkUp port gig) s

/-- ETHERNET_LINK_DOWN (R312). -/
def execEthernetLinkDown (port : Nat) (s : State) : Host.Outcome State Fault Refusal := runM (ethernetLinkDown port) s

/-- UNKNOWN_FRAME (R300). -/
def execUnknownFrame (port hops : Nat) (drop : Bool) (s : State) : Host.Outcome State Fault Refusal := runM (unknownFrame port hops drop) s

end Sys2Proof.Machine
end

