-- ==== Sys2Proof/Machine/Cut.lean ====
section
/-! DEFINITION. The cut: what a snapshot takes from each source, the manifest, and how host commands that act at a commit are judged
(R65, R88 to R95, R321 to R323, R342, R413 to R415). -/

namespace Sys2Proof.Machine

/-! ### The image header -/

/-- A word of the header of the running image (R109). -/
def M.headerWord (s : M) (off : Nat) : Nat :=
  match s.activeSlot with
  | some n => (memWord (s.store.slots.get ImgSlot.empty n).bytes off).toNat
  | none => 0

/-- A_MB of the running image (R94). -/
def M.aMb (s : M) : Nat := s.headerWord 0x10

/-- A_HART of the running image (R94). -/
def M.aHart (s : M) : Nat := s.headerWord 0x14

/-! ### Modbus tables (R321) -/

/-- Base address and elements of Modbus table i: coils, discrete inputs, holding registers, input registers. -/
def M.mbTable (s : M) (i : Nat) : Nat × Nat := s.body.tables.getD i (0, 0)

/-- The table that a function code reads or writes. -/
def mbTableOf (fn : Nat) : Nat :=
  match fn with
  | 1 => 0 | 5 => 0 | 15 => 0 | 2 => 1 | 4 => 3
  | _ => 2

/-- Whether a function code handles bits. -/
def mbBits (fn : Nat) : Bool := decide (mbTableOf fn < 2)

/-- Element j of a table. -/
def mbElement (bits : Bool) (mem : List Host.Cell) (base j : Nat) : Nat :=
  if bits then boolNat (bitAt (memWord mem (base + 4 * (j / 32))) (j % 32))
  else (memWord mem (base + 4 * (j / 2))).toNat / 65536 ^ (j % 2) % 65536

/-- What a read returns from the server image (R321). -/
def M.mbRead (s : M) (fn start quantity : Nat) : List Nat :=
  (List.range quantity).map fun i => mbElement (mbBits fn) s.mem (s.mbTable (mbTableOf fn)).1 (start + i)

/-- A word with one element of a table replaced. -/
def mbPut (bits : Bool) (w : Word) (j v : Nat) : Word :=
  if bits then putBit w (j % 32) (v != 0)
  else if j % 2 = 0 then (w &&& 0xFFFF0000#32) ||| word (v % 65536) else (w &&& 0x0000FFFF#32) ||| word (v % 65536 * 65536)

/-- Bytes of a write's manifest entry (R322); a read that waits behind a write has none. -/
def mbSize (w : MbWrite) : Nat :=
  if w.fn < 5 ∨ w.ex ≠ 0 then 0
  else
    let n := w.values.length
    let b := if mbBits w.fn then (n + 7) / 8 else 2 * n
    8 + (b + 3) / 4 * 4

/-- The requests that the cut takes, in order, and those held: the earliest writes that fit, and reads behind no held request of their
connection (R94, R322). -/
def takeMb : List MbWrite → Nat → Bool → List MbWrite → List MbWrite → List MbWrite × List MbWrite
  | [], _, _, taken, held => (taken, held)
  | w :: r, room, full, taken, held =>
    if w.fn < 5 ∨ w.ex ≠ 0 then
      if held.any fun h => h.conn == w.conn then takeMb r room full taken (held ++ [w]) else takeMb r room full (taken ++ [w]) held
    else if full || decide (mbSize w > room) then takeMb r room true taken (held ++ [w])
    else takeMb r (room - mbSize w) false (taken ++ [w]) held

/-- The word writes of the Modbus writes of a snapshot, in order of receipt, over memory as it stands. -/
def M.mbWords (s : M) (ws : List MbWrite) : List (Nat × Word) :=
  let r := ws.foldl (init := (s.mem, ([] : List (Nat × Word)))) fun (a : List Host.Cell × List (Nat × Word)) w =>
    if w.fn < 5 ∨ w.ex ≠ 0 then a
    else
      let bits := mbBits w.fn
      let base := (s.mbTable (mbTableOf w.fn)).1
      w.values.zipIdx.foldl (init := a) fun (a : List Host.Cell × List (Nat × Word)) v =>
        let j := w.start + v.2
        let ad := base + 4 * (j / if bits then 32 else 2)
        let x := mbPut bits (memWord a.1 ad) j v.1
        (memPutWord a.1 ad x, a.2 ++ [(ad, x)])
  r.2

/-- The reply to a request (R320, R322, R323), counted in MB_STAT: an exception; registers or bits read; otherwise the start and the value or the
quantity. A single coil is echoed as 0xFF00 or 0 (PRESUMED: the Modbus protocol). -/
def M.mbReply (s : M) (w : MbWrite) : M :=
  let values := match w.readPart with
    | some (a, n) => s.mbRead 3 a n
    | none => if w.fn < 5 then s.mbRead w.fn w.start w.values.length
      else [w.start, if w.fn = 5 then 0xFF00 * w.values.headD 0 else if w.fn = 6 then w.values.headD 0 else w.values.length]
  let s := s.wrap F.mbStatRequests 16 1
  if w.ex = 0 then s.emit (.modbus w.conn w.tag w.unit w.fn 0 values)
  else (s.bump F.mbStatExceptions 4095 1).emit (.modbus w.conn w.tag w.unit w.fn w.ex [])

/-- Requests that wait when the module becomes SHADOW or JOINING, answered in their order: a write with code 6 (R21, R324). -/
def M.refuseWrites (s : M) : M :=
  s.net.writes.foldl (init := { s with net := { s.net with writes := [] } }) fun s w =>
    s.mbReply { w with ex := if w.fn ≥ 5 ∧ w.ex = 0 then 6 else w.ex, readPart := if w.fn ≥ 5 then none else w.readPart }

/-! ### Host commands that act at a commit (R67, R125, R218, R413 to R415) -/

/-- The code of a host command that acts at a commit (R412). -/
def HostCmd.code : HostCmd → Nat
  | .run => 0x20 | .stop => 0x21 | .safe => 0x22 | .ack => 0x23 | .hold => 0x24
  | .varWrite _ => 0x12 | .forceSet _ _ => 0x28 | .forceClear _ => 0x29
  | .loop _ _ _ => 0x40 | .hartPass _ _ _ => 0x51 | .online _ _ => 0x31 | .detach => 0x60 | .switchover => 0x62

/-- Whether a word is a host-writable variable (R125). -/
def M.hostWritable (s : M) (a : Nat) : Bool :=
  a % 4 == 0 && s.body.vars.any fun v => v.hostWritable && decide (v.addr ≤ a) && decide (a < v.addr + 4 * v.words)

/-- The output words that a force may name: DIO_OUT, AIO_OUT, and the output arrays of remote modules (R70). -/
def M.isOutputWord (s : M) (a : Nat) : Bool :=
  a == 0x40010080 || (decide (0x40020000 ≤ a) && decide (a < 0x40020200) && a % 0x20 == 0x18) ||
    s.body.modules.any fun m => decide (m.outAddr ≤ a) && decide (a < m.outAddr + 4 * m.outWords) && (a - m.outAddr) % 4 == 0

/-- The value words of the input items (R118). -/
def M.isItemWord (s : M) (a : Nat) : Bool :=
  (s.body.items.any fun i => i.addr == a) ||
    s.body.modules.any fun m => decide (m.inAddr ≤ a) && decide (a < m.inAddr + 8 * m.inWords) && (a - m.inAddr) % 8 == 0

/-- The status of a mode command (R66, R67, R73, R413). DESIGN CHOICE (log entry 24): MODE_HOLD in HOLD is answered OK, as R66 has it, whatever DBG_EN reads;
R67's DBG_DISABLED is judged for a MODE_HOLD in RUN. -/
def M.modeStatus (s : M) (c : HostCmd) : Nat :=
  match c with
  | .safe => 0
  | .ack =>
    if s.mode ≠ 5 then 1
    else if s.safeInputs ≠ 0 ∨ s.red.digestSafe ≠ 0 then 8
    else if s.nat F.modStatusSafeCause = 1 ∧ s.aon.f3 then 9 else 0
  | .run =>
    if s.mode < 2 ∨ s.mode = 5 then 1 else if !ownRoles.contains s.role then 2
    else if s.mode = 2 ∧ s.nat F.modStatusStartFault ≠ 0 then 7 else 0
  | .stop => if s.mode < 2 ∨ s.mode = 5 then 1 else if !ownRoles.contains s.role then 2 else 0
  | _ =>
    if s.mode ≠ 3 ∧ s.mode ≠ 4 then 1 else if s.role ≠ 0 then 2 else if s.mode = 3 ∧ !s.on F.idStrapsDbgEn then 6 else 0

/-- Whether a DETACH, a SWITCHOVER or an online change is under way (R415). -/
def M.pairBusy (s : M) : Bool := s.red.roleAsked || s.store.change.isSome

/-- The status of DETACH (R337, R415). -/
def M.detachStatus (s : M) : Nat :=
  if s.mode < 2 then 1 else if s.role = 0 then 2 else if s.role = 1 ∧ s.pairBusy then 3 else 0

/-- The status of SWITCHOVER (R337, R415). -/
def M.switchStatus (s : M) : Nat :=
  if s.mode < 2 ∨ s.mode = 5 then 1
  else if s.role = 1 ∨ s.role = 2 then (if (s.role = 1 ∧ s.red.joining) ∨ s.nat F.redStatusPartnerRole = 3 ∨ s.pairBusy then 3 else if s.role = 2 ∨ s.inStep then 0 else 2)
  else 2

/-- State of an image slot (R126): 0 EMPTY, 1 LOADING, 2 CHECKING, 3 ACCEPTED, 4 REFUSED. -/
def M.slotState (s : M) (n : Nat) : Nat := s.nat (F.idImgSlotState n)

/-- The status of ACTIVATE ONLINE (R128, R131); `ready` says that the inactive slot of the shadow module holds the same identity ACCEPTED. -/
def M.onlineStatus (s : M) (slot : Nat) (ready : Bool) : Nat :=
  let block := s.nat (F.idImgSlotChangeBlock slot)
  if s.mode ≠ 2 ∧ s.mode ≠ 3 then 1
  else if !ownRoles.contains s.role then 2
  else if s.slotState slot ≠ 3 then 12
  else if block = 2 then 13 else if block ≠ 0 then 14
  else if s.pairBusy then 3
  else if s.role = 1 ∧ s.inStep ∧ !ready then 15
  else 0

/-- The status of a command that acts at a commit (R413, R414). -/
def M.cutStatus (s : M) (c : HostCmd) : Nat :=
  match c with
  | .varWrite ws =>
    if s.mode < 2 then 1 else if !ownRoles.contains s.role then 2 else if ws.all fun w => s.hostWritable w.1 then 0 else 10
  | .forceSet a _ => if s.mode ≠ 4 then 1 else if s.role ≠ 0 then 2 else if s.isItemWord a || s.isOutputWord a then 0 else 10
  | .forceClear _ => if s.mode ≠ 4 then 1 else if s.role ≠ 0 then 2 else 0
  | .loop b cmd _ =>
    if s.mode ≠ 3 then 1 else if !ownRoles.contains s.role then 2
    else
      let l (off : Nat) := s.getReg (loopAddr b off)
      loopCmdStatus s.mode cmd (l 0xA0) (l 0x08) (l 0x00) (l 0xEC) (s.run.dipper.state == 1)
  | .hartPass n _ _ => s.passStatus n
  | .online n ready => s.onlineStatus n ready
  | .detach => s.detachStatus
  | .switchover => s.switchStatus
  | c => s.modeStatus c

/-- The manifest entries of a command (R342). -/
def HostCmd.entries : HostCmd → List (Word × Word)
  | .varWrite ws => ws.map fun w => (word w.1, w.2)
  | .forceSet a v => [(word (a + 1), v)]
  | .forceClear a => [(word (a + 2), 0#32)]
  | .loop b cmd x => [(word (0x50000003 + 0x100 * b + 0x10 * cmd), x)]
  | _ => []

/-- The judging of a queue: entries left, whether one is held and how many, whether DETACH, SWITCHOVER or ACTIVATE ONLINE was accepted, what
stays queued, what is taken, and the manifest's entries. -/
structure Judging where
  room : Nat
  held : Bool
  count : Nat
  pairCmd : Bool
  rest : List HostReq
  taken : List HostReq
  entries : List (Word × Word)

/-- One command of the queue judged (R94, R414, R415). -/
def M.judgeOne (s : M) (j : Judging) (q : HostReq) : Judging :=
  let es := q.cmd.entries
  match q.cmd with
  | .hartPass _ _ _ => { j with rest := j.rest ++ [q] }
  | .detach | .switchover | .online _ _ =>
    let st := s.cutStatus q.cmd
    let st := if st = 0 ∧ j.pairCmd then 3 else st
    { j with taken := j.taken ++ [{ q with status := some st }], pairCmd := j.pairCmd || st == 0 }
  | c =>
    if !es.isEmpty && (j.held || decide (es.length > j.room)) then
      { j with held := true, count := j.count + es.length, rest := j.rest ++ [q] }
    else
      let st := s.cutStatus c
      let e := if st = 0 then es else []
      { j with taken := j.taken ++ [{ q with status := some st }], room := j.room - e.length, entries := j.entries ++ e }

/-- Whether a mode command was accepted among those taken. -/
def accepted (l : List HostReq) (c : HostCmd) : Bool := l.any fun q => q.cmd == c && q.status == some 0

/-- Mode commands that a stronger one of the same snapshot sets aside (R415). -/
def setAside (l : List HostReq) : List HostReq :=
  let safe := accepted l .safe
  let stop := accepted l .stop
  l.map fun q =>
    let lose := match q.cmd with
      | .stop | .ack => safe
      | .run | .hold => safe || stop
      | _ => false
    if lose && q.status == some 0 then { q with status := some 3 } else q

/-- ID_IMG_CHANGE.STATUS takes the status of a refused ACTIVATE ONLINE (R129). -/
def M.noteOnline (s : M) (c : HostCmd) (st : Nat) : M :=
  match c with
  | .online _ _ => s.setN F.idImgChangeStatus st
  | _ => s

/-- The host queue judged at the cut: commands taken with their status, refusals reported, entries for the manifest. -/
def M.judgeQueue (s : M) : M × List (Word × Word) :=
  let j := s.net.queue.foldl (init := ({ room := 32, held := false, count := 0, pairCmd := false, rest := [], taken := [], entries := [] } : Judging)) s.judgeOne
  let taken := setAside j.taken
  let s := { s with net := { s.net with queue := j.rest, taken := s.net.taken ++ taken } }
  let s := s.bump F.stkDeferModbusDeferred 65535 j.count
  let s := taken.foldl (init := s) fun s q => match q.status with
    | some 0 => s
    | some st => (s.refusal q.cmd.code st q.principal).noteOnline q.cmd st
    | none => s
  (s, j.entries)

/-! ### Mode changes (R65, R66) -/

/-- The SAFE inputs that a cut takes: the module's own, those asserted since the last cut among them, and its partner's from the last digest exchange
(R65, R71). -/
def M.safeAtCut (s : M) : Nat :=
  let p := if s.role = 1 then s.red.digestSafe else 0
  let a := s.safeSeen false || p % 2 == 1
  let b := s.safeSeen true || p / 2 % 2 == 1
  if a && b then 4 else if a then 2 else if b then 3 else 0

/-- The mode change that the causes taken by a cut announce: the new mode and the SAFE cause (R65, R66, R415). -/
def M.changeAtCut (s : M) (taken : List HostReq) : Option (Nat × Nat) :=
  let input := s.safeAtCut
  if s.mode = 5 then (if accepted taken .ack then some (2, 0) else none)
  else if input ≠ 0 then some (5, input)
  else if accepted taken .safe then some (5, 5)
  else if s.ctl.request = 2 then some (5, 6)
  else if (s.mode = 3 ∨ s.mode = 4) ∧ (accepted taken .stop ∨ s.ctl.request = 1 ∨ (s.mode = 4 ∧ s.ctl.dbgSeen)) then some (2, 0)
  else if s.mode = 3 ∧ accepted taken .hold ∧ s.role = 0 then some (4, 0)
  else if (s.mode = 2 ∨ s.mode = 4) ∧ accepted taken .run then some (3, 0)
  else none

/-- The mode side of a cut: in SAFE the cause follows the inputs; elsewhere the change is announced for the next boundary. A DBG_EN that HOLD finds open
is reported here (R33). -/
def M.cutMode (s : M) (taken : List HostReq) : M :=
  let s := if s.mode = 4 ∧ !s.on F.idStrapsDbgEn ∧ !s.ctl.dbgSeen then ({ s with ctl := { s.ctl with dbgSeen := true } }).hw (ev 0x0010 0x1012) else s
  let s := if s.mode = 5 ∧ s.safeAtCut ≠ 0 then s.setN F.modStatusSafeCause s.safeAtCut else s
  let c := s.changeAtCut taken
  let s := { s with ctl := { s.ctl with request := 0, inputSeen := 0, dbgSeen := false } }
  match c with
  | none => s
  | some (m, cause) =>
    { s with ctl := { s.ctl with nextMode := some (s.stroke + 1#64, m, cause), ackAt := if s.mode = 5 then some (s.stroke + 1#64) else s.ctl.ackAt } }

/-- ID_IMG_CHANGE shows a pending online change with the strokes left (R129, R132). -/
def M.showChange (s : M) : M :=
  match s.store.change with
  | none => s
  | some c =>
    let left := c.stroke.toNat - s.stroke.toNat
    ((s.setN F.idImgChangePending 1).setN F.idImgChangeTarget c.slot).setN F.idImgChangeStrokesLeft left

/-- The declared initial values of the variables of a new image that satisfy a test. -/
def initialValues (new : ImageBody) (which : VarDecl → Bool) : List (Nat × Word) :=
  (new.vars.filter which).flatMap fun v => (List.range v.words).map fun i => (v.addr + 4 * i, v.init.getD i 0#32)

/-- The initial values of the variables that the new image adds or whose type it changes (R133). -/
def newValues (old new : ImageBody) : List (Nat × Word) := initialValues new fun v => !(old.vars.any fun o => o.sym == v.sym && o.kind == v.kind)

/-- An online change begins to count down: the initial values of new variables, whose addresses the running image does not use, are written at once
(R132). DESIGN CHOICE (log entry 25): the spec only says that they are written during the countdown. -/
def M.beginChange (s : M) (slot : Nat) (at_ : DWord) : M :=
  let old := s.body
  let new := (s.store.slots.get ImgSlot.empty slot).body
  { s with mem := (initialValues new fun v => !(old.vars.any fun o => o.sym == v.sym)).foldl (init := s.mem) fun m (w : Nat × Word) => memPutWord m w.1 w.2
           store := { s.store with change := some { slot := slot, stroke := at_, copies := [] } } }

/-- The pair commands taken by a cut: DETACH and SWITCHOVER act two strokes later, an online change eight (R132, R350, R357); a DETACH aborts a join at
once (R356). -/
def M.cutPair (s : M) (taken : List HostReq) : M :=
  let s := if accepted taken .detach ∧ s.role = 1 ∧ s.red.joining then (s.abortJoin 3 0).toRole 4 11
    else if accepted taken .detach ∧ s.role = 1 then
      { s with red := { s.red with roleEvent := 2, roleAt := s.stroke + 2#64, roleAsked := true } }
    else if accepted taken .switchover ∧ s.role = 1 then
      { s with red := { s.red with roleEvent := 1, roleAt := s.stroke + 2#64, roleAsked := true } }
    else s
  match taken.findSome? fun q => match q.cmd, q.status with
    | .online n _, some 0 => some n
    | _, _ => none with
  | some n => (s.beginChange n (s.stroke + 8#64)).setN F.idImgChangeStatus 0
  | none => s

/-! ### The manifest (R92, R342) -/

/-- Whether Fytric code reads a register field from the manifest of the lead module (R60, R82, R107, R182, R250, R270, R281, R298, R316, R334,
R360, R377) and the straps (R92). -/
def frozenKey (k : Nat) : Bool :=
  let a := k / 32
  a == 0x40000040 || (decide (0x40001000 ≤ a) && decide (a < 0x40005000)) || (decide (0x40010000 ≤ a) && decide (a < 0x40080000)) ||
    (decide (0x400A0000 ≤ a) && decide (a < 0x400B0000))

/-- A module's registers with the frozen fields of a manifest over them. -/
def mergeFields (own : Tab Word) (man : List (Nat × Word)) : Tab Word :=
  man.foldl (init := own.filter fun e => !frozenKey e.1) fun t (e : Nat × Word) => if frozenKey e.1 then setField t e.1 e.2 else t

/-- Whether a register field is committed state that a pair shares, which the lead module transfers (R17, R353): what Fytric code may write, and what commits
and snapshots keep in the blocks of the stroke, the CAN ports, the ring's stations and modules, the check-value unit and HART. Status that a module has
from its own units, its own P3, PTP port and clock among them (R319, R329, R334), is its own. DESIGN CHOICE (log entry 96): the spec does not name the registers. -/
def sharedKey (k : Nat) : Bool :=
  let a := k / 32
  let written := (fieldsAt a).any fun f => f.lo == k % 32 && (match f.acc with
    | .rw => true
    | _ => false)
  let counted := (decide (0x40002000 ≤ a) && decide (a < 0x40003000) && (List.range 16).any fun n => k == F.stkTaskRuns n) || k == F.stkDigestLo || k == F.stkDigestHi
  let units := (decide (0x40040000 ≤ a) && decide (a < 0x40048000) && (List.range 2).any fun p =>
      k == F.canFifoStatFifo0Count p || k == F.canFifoStatFifo1Count p || (List.range 4).any fun j => k == F.canMbNew p j) ||
    (decide (0x40050100 ≤ a) && decide (a < 0x40059000)) || (decide (0x40090000 ≤ a) && decide (a < 0x400B0000))
  (decide (0x40001000 ≤ a) && decide (a < 0x400B0000)) && (written || counted || units)

/-- A module's registers with the shared ones of the lead module in place of its own (R353). -/
def mergeShared (own : Tab Word) (lead : List (Nat × Word)) : Tab Word :=
  lead.foldl (init := own.filter fun e => !sharedKey e.1) fun t (e : Nat × Word) => if sharedKey e.1 then setField t e.1 e.2 else t

/-- LINK_SKIP of the wellheads (R88): 1 DW, 2 AW0, 4 AW1. -/
def M.skipBits (s : M) : Nat := boolNat s.dw.lastBad + 2 * boolNat (s.awGet 0).lastBad + 4 * boolNat (s.awGet 1).lastBad

/-- Wellheads whose items are BAD throughout: 0 and 1 the analog ones, 2 DW; and 3 where the watchdog of the DW island has expired (R237, R242). -/
def M.deadWellheads (s : M) : List Nat :=
  (if s.awDead 0 then [0] else []) ++ (if s.awDead 1 then [1] else []) ++ (if s.dwDead then [2] else []) ++ (if s.dw.islandDead then [3] else [])

/-- Bytes of a manifest (R92). -/
def manifestBytes (m : Manifest) : Nat :=
  832 + 8 * m.hostWrites.length + 4 * m.remote.length + 8 * m.can.length + (m.modbus.map mbSize).sum + (m.hart.map fun e => 8 + e.frame.data.length).sum

/-- The mode commands that the header of a manifest names: 1 RUN, 2 STOP, 4 SAFE, 8 SAFE_ACK. -/
def commandBits (taken : List HostReq) : Nat :=
  boolNat (accepted taken .run) + 2 * boolNat (accepted taken .stop) + 4 * boolNat (accepted taken .safe) + 8 * boolNat (accepted taken .ack)

/-! ### The snapshot -/

/-- A forced item: the value replaced and FORCED added to its quality (R70, R118). -/
def forceItem (forces : List Force) (ad : Nat) (v : Word) (q : Nat) : List (Nat × Word) :=
  match forces.find? fun f => f.1 == ad with
  | some f => [(ad, f.2), (ad + 4, word (q ||| 4))]
  | none => [(ad, v), (ad + 4, word q)]

/-- The input items of the wellheads (R118, R235, R251, R258). -/
def wellheadItems (items : List ItemDecl) (f : Tab Word) (values : Tab Word) (m : Manifest) : List (Nat × Word) :=
  let skip (i : Nat) : Nat := 8 * (m.skips / 2 ^ i % 2)
  items.flatMap fun i =>
    match i.kind with
    | .dio => [(i.addr, boolWord (bitAt (getField f F.dioIn) i.chan)), (i.addr + 4, word (boolNat (bitAt (getField f F.dioBad) i.chan) + skip 0))]
    | .aio =>
      let bit (k : Nat) : Nat := boolNat (getField f k != 0#32)
      [(i.addr, values.get 0#32 i.chan), (i.addr + 4, word (bit (F.aioStatBad i.chan) + skip (1 + i.chan / 8) + 32 * bit (F.aioStatLimit i.chan)))]
    | .enc =>
      let bad := getField f (F.encStatLineFault i.chan) != 0#32 || getField f (F.encStatSsiFault i.chan) != 0#32 ||
        getField f (F.encStatIllegal i.chan) != 0#32 || m.dead.contains 2
      [(i.addr, getField f (F.encValue i.chan)), (i.addr + 4, word (boolNat bad + skip 0))]

/-- Value and quality words with the forces over them (R70). -/
def withForces (forces : List Force) : List (Nat × Word) → List (Nat × Word)
  | v :: q :: r => forceItem forces v.1 v.2 q.2.toNat ++ withForces forces r
  | l => l

/-- The forces after the entries of a manifest (R70, R342): kind 1 sets, kind 2 clears, address 0 of kind 2 clears every force. -/
def applyForces (forces : List Force) (es : List (Word × Word)) : List Force :=
  es.foldl (init := forces) fun fs (e : Word × Word) =>
    let a := e.1.toNat
    if a % 4 = 1 then (fs.filter fun f => f.1 != a - 1) ++ [(a - 1, e.2)]
    else if a % 4 = 2 then (if a = 2 then [] else fs.filter fun f => f.1 != a - 2)
    else fs

/-- Words written to memory, each as (address, value). -/
def putWords (mem : List Host.Cell) (ws : List (Nat × Word)) : List Host.Cell :=
  ws.foldl (init := mem) fun m (w : Nat × Word) => memPutWord m w.1 w.2

/-- The snapshot of the stroke in progress frozen from the manifest (R88, R90, R118): the registers and analog channels after conversion, the
items, host and Modbus writes, and what instructions read. A lead module keeps the converted channel registers. -/
def M.freeze (s : M) (m : Manifest) (base : Tab Word) (own : Bool) : M :=
  let s := { s with ctl := { s.ctl with forces := applyForces s.ctl.forces m.hostWrites } }
  let c := convertAio m.raw base s.aio
  let s := { s with aio := c.chans, fields := if own then c.f else s.fields }
  let items := withForces s.ctl.forces (wellheadItems s.body.items c.f c.values m ++ s.ringItems)
  let vars := m.hostWrites.filterMap fun (e : Word × Word) => if e.1.toNat % 4 = 0 then some (e.1.toNat, e.2) else none
  let kept := vars.filter fun w => !(s.ctl.forces.any fun f => f.1 == w.1)
  let writes := items ++ kept ++ s.mbWords m.modbus
  let slot := s.activeSlot.map fun n => s.store.slots.get ImgSlot.empty n
  let events := dwEvents s.run.snap.fields c.f ++ awEvents s.run.snap.fields c.f
  let snap : Snap := {
    stroke := s.stroke, fields := c.f, mem := putWords s.mem writes, fifos := s.fifos, boxes := s.boxes, hart := s.hartViews
    code := (slot.map (·.bytes)).getD [], codeLen := (slot.map (·.total)).getD 0, dipperBusy := s.run.dipper.state == 1
    hartOk := decide (s.aHart ≥ 264), awDead := m.dead.filter (· < 2) }
  let s := events.foldl M.strokeEvent s
  { s with run := { s.run with snap := snap, snapWrites := writes, manifest := some m } }

/-- The manifest's effects on units: ring versions, CAN frames and HART results taken. -/
def M.takeSections (s : M) (m : Manifest) : Option M := (s.applyRing m.remote).map fun s => (s.applyCan m.can).applyHart m.hart

/-- STK_MANIFEST.PEAK (R107). -/
def M.notePeak (s : M) (m : Manifest) : M := s.setN F.stkManifestPeak (max (s.nat F.stkManifestPeak) (manifestBytes m))

/-- The sections that the cut of a module's own data builds (R88, R92, R94): Modbus, the ring, CAN and HART. -/
def M.cutSections (s : M) : M × List MbWrite × List (Nat × Bool × Nat) × List CanEntry × List HartEntry :=
  let t := takeMb s.net.writes s.aMb false [] []
  let s := { s with net := { s.net with writes := t.2 } }
  let s := s.bump F.stkDeferModbusDeferred 65535 (t.2.filter fun w => decide (w.fn ≥ 5) && w.ex == 0).length
  let s := s.cutDw.cutAw
  let ring := s.cutRing
  let c := s.cutCan
  let h := M.cutHart c.1.hartQ c.1.aHart c.1
  (h.1, t.1, ring, c.2, h.2)

/-- The cut of a module that acts on its own data: LONE, LEAD or DETACHED (R87, R88, R92). -/
def M.cutOwn (s : M) : M :=
  let q := s.judgeQueue
  let before := s.net.taken.length
  let taken := q.1.net.taken.drop before
  let c := q.1.cutSections
  let s := ((c.1.cutMode taken).cutPair taken).showChange
  let m0 : Manifest := {
    stroke := s.stroke, modeAt := (s.ctl.nextMode.map (·.1)).getD 0#64, newMode := (s.ctl.nextMode.map (·.2.1)).getD 0
    safeCause := (s.ctl.nextMode.map (·.2.2)).getD 0, roleEvent := s.red.roleEvent, roleAt := s.red.roleAt
    changeAt := (s.store.change.map (·.stroke)).getD 0#64, changeSlot := (s.store.change.map (·.slot)).getD 0
    commands := commandBits taken, fields := [], raw := s.rawCodes, dead := s.deadWellheads, skips := s.skipBits, hostWrites := q.2
    remote := c.2.2.1, can := c.2.2.2.1, modbus := c.2.1.filter (fun w => decide (w.fn ≥ 5) && w.ex == 0), hart := c.2.2.2.2
    inputs := boolNat (q.1.safeSeen false) + 2 * boolNat (q.1.safeSeen true) + 4 * boolNat (s.role = 1 ∧ s.red.digestSafe ≠ 0) }
  let s := (s.takeSections m0).getD s
  let m := { m0 with fields := s.fields.filter fun e => frozenKey e.1 }
  let s := (s.notePeak m).freeze m s.fields true
  let s := c.2.1.foldl M.mbReply s
  if s.role = 1 then s.ropeOut (.manifest m) ((manifestBytes m + 2047) / 2048) else s

/-! ### The cut of a shadow module or a joiner (R65, R95, R354) -/

/-- What the header of a manifest announces: mode change, role event, online change. A Fytric request is the pair's: the lead module's snapshot has taken it
(R65, R82). -/
def M.takeHeader (s : M) (m : Manifest) : M :=
  let ctl := { s.ctl with request := 0 }
  let ctl := if m.modeAt = 0#64 ∨ s.role = 3 then ctl else { ctl with nextMode := some (m.modeAt, m.newMode, m.safeCause) }
  let red := { s.red with roleEvent := m.roleEvent, roleAt := m.roleAt }
  let s : M := { s with ctl := ctl, red := red }
  if m.changeAt ≠ 0#64 ∧ s.store.change.isNone then s.beginChange (if s.activeSlot = some 0 then 1 else 0) m.changeAt else s

/-- A manifest taken by a module that does not lead: its snapshot is that of the lead module, or none where a reference cannot be
resolved. -/
def M.cutShadow (s : M) (m : Manifest) : Option M :=
  let r := if s.role = 2 then s.resolveAll m.can else some (s, m.can)
  match r with
  | none => none
  | some (s, can) =>
    match s.takeSections { m with can := can } with
    | none => none
    | some s =>
      let s := (s.takeHeader m).showChange
      let s := if s.role = 2 then s.shadowReadback m.fields m.dead else s
      some (((s.notePeak m).freeze m (mergeFields s.fields m.fields) false).ageStores s.stroke.toNat)

end Sys2Proof.Machine
end

