-- ==== Sys2Proof/Machine/Exec.lean ====
section
/-! DEFINITION. The execution of a stroke: tasks with their activations and slices, the loop engine, breakpoints and the digest (R68, R69,
R96 to R101, R189). -/

namespace Sys2Proof.Machine

/-! ### What the image declares -/

/-- The loop engine's view of the LOOPS section. -/
def declsOf (b : ImageBody) : LoopDecls :=
  { blocks := (List.range 1024).filter fun n => b.loops.any fun l => l.block == n
    schedules := b.schedules.map fun (x : Nat × Nat × Nat) => (x.1, x.2.1, x.2.2)
    groups := b.groups.map fun (x : Nat × Nat × Nat) => (x.1, x.2.1, x.2.2) }

/-- Words of an instruction from its first word (R135): the I and X forms have a literal. -/
def wordsOf (w : Word) : Nat :=
  match w.bits 31 26 with
  | 0x01 => 1 | 0x03 => 1 | 0x05 => 1
  | 0x0C => if w.bits 4 0 ≥ 5 then 1 else 2
  | 0x14 => if w.bits 4 0 = 2 then 2 else 1
  | _ => 2

/-- Where control can go from the instruction at word `pc` (R147, R148). -/
def successors (b : ImageBody) (pc : Nat) : List Nat :=
  let w := b.code.getD pc 0#32
  let lit := b.code.getD (pc + 1) 0#32
  let next := pc + wordsOf w
  let target := branchTarget { Act.start with pc := pc } lit
  if w.bits 31 26 = 0x0C then
    match w.bits 4 0 with
    | 0 => [target] | 1 => [target, next] | 2 => [target, next]
    | 3 => [next, pc + 2 + lit.bits 31 16]
    | 4 => [lit.toNat, next] | 5 => [] | 6 => []
    | _ => [next]
  else [next]

/-- The words of code that a task can reach, subroutines included. -/
def reachable (b : ImageBody) : Nat → List Nat → List Nat → List Nat
  | 0, seen, _ => seen
  | _, seen, [] => seen
  | n + 1, seen, pc :: r =>
    if seen.contains pc || decide (pc ≥ b.code.length) then reachable b n seen r else reachable b n (pc :: seen) (successors b pc ++ r)

/-! ### Code words and blocks (R110, R135) -/

/-- The code word at `pc`. -/
def codeAt (b : ImageBody) (pc : Nat) : Word := b.code.getD pc 0#32

/-- MAJOR of the instruction at `pc`. -/
def majorAt (b : ImageBody) (pc : Nat) : Nat := (codeAt b pc).bits 31 26

/-- FN of the instruction at `pc`. -/
def fnAt (b : ImageBody) (pc : Nat) : Nat := (codeAt b pc).bits 4 0

/-- The literal behind the instruction at `pc`. -/
def litAt (b : ImageBody) (pc : Nat) : Word := codeAt b (pc + 1)

/-- The instructions from `pc` up to `stop`, in rising order. -/
def startsIn (b : ImageBody) : Nat → Nat → Nat → List Nat
  | 0, _, _ => []
  | n + 1, pc, stop => if pc ≥ stop then [] else pc :: startsIn b n (pc + wordsOf (codeAt b pc)) stop

/-- The instructions of a block of code (first word, end). -/
def startsOf (b : ImageBody) (k : Nat × Nat) : List Nat := startsIn b (k.2 - k.1) k.1 k.2

/-- Entries of tasks and of the parts of the priming section. -/
def mainEntries (b : ImageBody) : List Nat := b.tasks.map (·.entry) ++ b.configEntry :: b.initEntry.toList

/-- Entries of subroutines: the blocks that are neither (R149). -/
def subEntries (b : ImageBody) : List Nat := (b.blocks.map (·.1)).filter fun e => !(mainEntries b).contains e

/-- The block that begins at an entry. -/
def blockAt (b : ImageBody) (entry : Nat) : Nat × Nat := (b.blocks.find? fun k => k.1 == entry).getD (entry, entry)

/-- Whether the instruction at `pc` is the control instruction `fn` (R147). -/
def isControl (b : ImageBody) (pc fn : Nat) : Bool := majorAt b pc == 0x0C && fnAt b pc == fn

/-- The subroutines that a block calls. -/
def calleesOf (b : ImageBody) (k : Nat × Nat) : List Nat := ((startsOf b k).filter fun p => isControl b p 4).map fun p => (litAt b p).toNat

/-- The blocks that run for an entry: its own and those it calls. -/
def blocksFrom (b : ImageBody) : Nat → List Nat → List Nat → List Nat
  | 0, seen, _ => seen
  | _, seen, [] => seen
  | n + 1, seen, e :: r => if seen.contains e then blocksFrom b n seen r else blocksFrom b n (e :: seen) (calleesOf b (blockAt b e) ++ r)

/-- The instructions that run for an entry. -/
def instrsFrom (b : ImageBody) (entry : Nat) : List Nat :=
  (blocksFrom b (b.code.length + b.blocks.length + 1) [] [entry]).reverse.flatMap fun e => startsOf b (blockAt b e)

/-! ### The check-value unit's queue (R160) -/

/-- occ(l_max) of the instruction at word `pc`; 0 where it is no check-value instruction (R160). -/
def cvuOcc (b : ImageBody) (pc : Nat) : Nat :=
  let w := b.code.getD pc 0#32
  if w.bits 31 26 = 0x1E then
    let fn := w.bits 4 0
    let low := if fn / 4 ≥ 2 then CrcKind_bytes (crcKindOf (fn % 4)) + 1 else 0
    let arr := namedArray b pc ((b.code.getD (pc + 1) 0#32).bits 23 0) .word 0#3
    4 + (max low (min arr.bytes 4096) + 7) / 8
  else 0

/-- q_e of R160: the sum over the other engines of the largest occ of any check-value instruction of their tasks and of the subroutines these call. -/
def cvuWait (b : ImageBody) (engine : Nat) : Nat :=
  let largest (e : Nat) : Nat :=
    ((b.tasks.filter fun t => t.engine == e).flatMap fun t => (instrsFrom b t.entry).map (cvuOcc b)).foldl max 0
  (((List.range 4).filter (· != engine)).map largest).sum

/-! ### Publishing -/

/-- Effects of the writes to registers that start an action at the commit (R82, R146). -/
def actionsOf (src : Half) (ws : List (Nat × Word)) : List (Half × Effect) :=
  ws.filterMap fun (w : Nat × Word) => if startsAction w.1 || w.1 == 0x40001010 then some (src, .regAction w.1 w.2) else none

/-- Whether an effect still applies: a mailbox is marked read only while it holds the frame that the activation saw (R156). -/
def M.stands (s : M) (a : Act) : Effect → Bool
  | .canMb p b => (a.snap.boxes.get none (boxKey p b)).map (·.frame) == (s.boxes.get none (boxKey p b)).map (·.frame)
  | _ => true

/-- What an ended activation hands to the next commit (R90, R97). -/
def M.publish (s : M) (a : Act) : M :=
  let es := (a.effects.filter fun e => s.stands a e).map fun e => (a.source, e)
  { s with run := { s.run with pend := { writes := s.run.pend.writes ++ a.writes, effects := s.run.pend.effects ++ es ++ actionsOf a.source a.writes }
                               ended := s.run.ended ++ [a.task] } }

/-! ### Tasks (R96 to R98) -/

/-- Whether a task falls due in the stroke in progress (R96). -/
def M.taskDue (s : M) (t : TaskDecl) : Bool :=
  let n := max 1 t.period
  (s.stroke.toNat + n - t.phase % n) % n == 0 && getField s.run.snap.fields (F.stkTaskCfgEnable t.num) != 0#32

/-- A fresh activation of a task in the stroke in progress (R96, R138, R150). -/
def M.beginTask (s : M) (t : TaskDecl) : M :=
  let n := s.run.begun.get 0 t.num + 1
  let a : Act := { Act.start with
    task := t.num, engine := t.engine, pc := t.entry, number := n, waitBu := cvuWait s.body t.engine, snap := s.run.snap }
  { s with run := { s.run with acts := (s.run.acts.filter fun x => x.task != t.num) ++ [a], begun := s.run.begun.set 0 t.num n } }

/-- The breakpoints that stop tasks: in role LONE with DBG_EN fitted (R33, R68). -/
def M.armedBreaks (s : M) : Tab (Option Break) := if s.role = 0 ∧ s.on F.idStrapsDbgEn then s.ctl.breaks else []

/-- An activation in progress run in this stroke: to its end, or for one slice; it is published when it has ended, a sliced one after the last
stroke of its period (R97). -/
def M.advance (s : M) (t : TaskDecl) (a : Act) : M :=
  let r := runAct s.body s.armedBreaks (if t.sliced then some (t.budget - a.owed) else none) 15000000 { act := { a with owed := 0 }, slots := s.fy.slots } none
  let b := { r.1.act with slices := a.slices + 1 }
  let hit := match s.ctl.hit, r.2 with
    | some x, some y => some (min x y)
    | none, y => y
    | x, none => x
  let s := { s with fy := { s.fy with slots := r.1.slots }, ctl := { s.ctl with hit := hit }
                    run := { s.run with digest := s.run.digest + digestOf (b.writes.drop a.writes.length) } }
  let rest := s.run.acts.filter fun x => x.task != t.num
  if !t.sliced || decide (b.slices ≥ t.period) then { s with run := { s.run with acts := rest } }.publish b
  else { s with run := { s.run with acts := rest ++ [b] } }

/-- A task in the stroke in progress (the pseudocode of R97). -/
def M.runTask (s : M) (t : TaskDecl) : M :=
  let s := if s.taskDue t then s.beginTask t else s
  match s.run.acts.find? fun a => a.task == t.num with
  | some a => s.advance t a
  | none => s

/-- The tasks of an image in the order in which a stroke runs them: by engine, then by number (R96). -/
def taskOrder (b : ImageBody) : List TaskDecl :=
  (List.range 4).flatMap fun e => (List.range 16).flatMap fun n => b.tasks.filter fun t => t.engine == e && t.num == n

/-- A breakpoint reached in the stroke (R68, R69): recorded with its event; from RUN it announces HOLD, in HOLD it ends the step. -/
def M.noteHit (s : M) : M :=
  match s.ctl.hit with
  | none => s
  | some i =>
    let s := { s with ctl := { s.ctl with hit := none } }
    let s := ((s.setB F.modHoldBpValid true).setN F.modHoldBpIndex i).set64 F.modHoldStrokeLo F.modHoldStrokeHi s.stroke
    let s := s.strokeEvent (ev 0x0010 0x0013 i s.stroke.lo.toNat s.stroke.hi.toNat)
    if s.mode = 4 then { s with ctl := { s.ctl with holdSteps := 0 } }
    else
      match s.ctl.nextMode with
      | some _ => s
      | none => { s with ctl := { s.ctl with nextMode := some (s.stroke + 1#64, 4, 0) } }

/-- The activation that instruction commands act on, of task 0: restarted on a new snapshot when it has ended or has not begun. Its number counts those
that have begun, kept under key 16 (R150). -/
def M.renewFy (s : M) : M :=
  let a := s.fy.act
  if a.done || a.charge == 0 then
    { s with fy := { s.fy with act := { Act.start with
        snap := s.run.snap, number := s.run.begun.get 0 16 + 1, waitBu := cvuWait s.body 0 } } }
  else s

/-- The activation of instruction commands over: it counts when an instruction of it has run (R150). -/
def M.endFy (s : M) : M :=
  let n := s.run.begun.get 0 16
  { s with
    run := { s.run with begun := if s.fy.act.charge = 0 then s.run.begun else s.run.begun.set 0 16 (n + 1) }
    fy := { s.fy with act := Act.start } }

/-- The stroke executed (R63, R69, R98, R100): tasks in RUN, or in HOLD while a step lasts; loops in RUN and HOLD. -/
def M.runStroke (s : M) : M :=
  let step := s.mode == 4 && decide (s.ctl.holdSteps > 0)
  let tasks := s.mode == 3 || step
  let s := { s with
    run := { s.run with digest := 0#64, ended := [], executed := true, partner := none, compare := 0 }
    ctl := { s.ctl with stepping := step, holdSteps := s.ctl.holdSteps - boolNat step } }
  let s := if tasks then ((taskOrder s.body).foldl M.runTask s).noteHit else s
  let d := declsOf s.body
  let l := loopStroke s.run.snap d s.run.loopHid s.mode s.run.barred
  let s := { s with run := { s.run with loops := l, digest := s.run.digest + digestOf (loopWrites s.run.snap d l), barred := [] } }
  s.renewFy

/-- The stroke executed, unless an F3 fault has halted ENG and LOOP, which execute nothing more until RESET (R362). -/
def M.execute (s : M) : M := if s.aon.f3 then s else s.runStroke

/-! ### What the commit that ends the stroke will apply -/

/-- Whether tasks executed in the stroke in progress. -/
def M.tasksRan (s : M) : Bool := s.run.executed && (s.mode == 3 || (s.mode == 4 && s.ctl.stepping))

/-- Writes and effects waiting for the commit, with those of the activation of instruction commands when it has ended in a stroke in which tasks
execute. -/
def M.pendAll (s : M) : Pend :=
  let a := s.fy.act
  if a.done && s.tasksRan then
    { writes := s.run.pend.writes ++ a.writes
      effects := s.run.pend.effects ++ ((a.effects.filter fun e => s.stands a e).map fun e => (a.source, e)) ++ actionsOf a.source a.writes }
  else s.run.pend

/-- The loop commands of the host in the snapshot (R218, R342): block, command, operand. -/
def M.hostLoops (s : M) : List (Nat × Nat × Word) :=
  ((s.run.manifest.map (·.hostWrites)).getD []).filterMap fun (e : Word × Word) =>
    let a := e.1.toNat
    if a % 4 = 3 then some ((a - 0x50000000) / 0x100 % 1024, a / 0x10 % 16, e.2) else none

/-- The loop commands of tasks (R153). -/
def taskLoops (es : List (Half × Effect)) : List (Nat × Nat × Word) :=
  es.filterMap fun (e : Half × Effect) => match e.2 with
    | .loopCmd b c x => some (b, c, x)
    | _ => none

/-- The loop commands that a commit applies: of the host where no task commands the same block, then of tasks (R218). -/
def M.loopCmds (s : M) (es : List (Half × Effect)) : List (Nat × Nat × Word) :=
  let ts := taskLoops es
  (s.hostLoops.filter fun h => !(ts.any fun t => t.1 == h.1)) ++ ts

/-- The digest of the stroke in progress (R101, R224): task and loop writes, and the words that an accepted candidate writes. -/
def M.strokeDigest (s : M) : DWord :=
  let p := s.pendAll
  let accepts := (s.loopCmds p.effects).filter fun c => c.2.1 == 3 && s.nat (F.loopTuneStatusState c.1) == 3
  s.run.digest + (if s.fy.act.done && s.tasksRan then digestOf s.fy.act.writes else 0#64) + digestOf (accepts.flatMap fun c => s.acceptWrites c.1)

end Sys2Proof.Machine
end

