-- ==== Sys2Proof/Machine/Commit.lean ====
section
/-! DEFINITION. The commit: task writes, loop results and commands, effects of tasks, mode changes, outputs, retained records, checkpoints and
stroke events (R63 to R66, R87, R91, R106, R174, R188, R218, R238). -/

namespace Sys2Proof.Machine

/-! ### Words -/

/-- A word stored by the module itself, in memory or in a register. -/
def M.storeWord (s : M) (ad : Nat) (w : Word) : M :=
  if inSram ad then { s with mem := memPutWord s.mem ad w }
  else if inSys ad || inLoop ad then s.putReg ad w else s

/-- Whether a write gives an output back to the program that stands on its stop value since an online change (R133): to its AIO_OUT, or to its
DIO_CFG. -/
def endsOrphan (n ad : Nat) : Bool := if n < 16 then ad == 0x40020018 + 0x20 * n else ad == F.dioCfgDir (n - 16) / 32

/-- A plain write of a task applied (R11, R90, R117). -/
def M.plainWrite (s : M) (ad : Nat) (w : Word) : M :=
  if inSram ad then { s with mem := memPutWord s.mem ad w }
  else if inSys ad || inLoop ad then
    let s := { s with fields := writeReg (decide (s.aHart ≥ 264)) s.fields ad w }
    { s with ctl := { s.ctl with orphans := s.ctl.orphans.filter fun n => !endsOrphan n ad } }
  else s

/-- Whether a write clears bits: the bit-clear alias, or DIO_OUT_CLR (R91, R238). -/
def isClear (ad : Nat) : Bool := inClrAlias ad || ad == 0x40010088

/-- Whether a write sets bits: the bit-set alias, or DIO_OUT_SET (R91, R238). -/
def isSet (ad : Nat) : Bool := inSetAlias ad || ad == 0x40010084

/-- A clear applied (R91, R238). -/
def M.clearBits (s : M) (ad : Nat) (w : Word) : M :=
  if ad = 0x40010088 then s.set F.dioOut (s.reg F.dioOut &&& ~~~w)
  else { s with mem := memPutWord s.mem (aliasTarget ad) (memWord s.mem (aliasTarget ad) &&& ~~~w) }

/-- A set applied (R91, R238). -/
def M.setBits (s : M) (ad : Nat) (w : Word) : M :=
  if ad = 0x40010084 then s.set F.dioOut (s.reg F.dioOut ||| w)
  else { s with mem := memPutWord s.mem (aliasTarget ad) (memWord s.mem (aliasTarget ad) ||| w) }

/-- Plain writes of tasks applied (R91). -/
def M.applyPlain (s : M) (ws : List (Nat × Word)) : M :=
  (ws.filter fun (w : Nat × Word) => !isClear w.1 && !isSet w.1).foldl (init := s) fun s (w : Nat × Word) => s.plainWrite w.1 w.2

/-- Then, after the plain writes of every owner, each clear and at last each set (R91, R167, R238). -/
def M.applyBits (s : M) (ws : List (Nat × Word)) : M :=
  let s := (ws.filter fun (w : Nat × Word) => isClear w.1).foldl (init := s) fun s (w : Nat × Word) => s.clearBits w.1 w.2
  (ws.filter fun (w : Nat × Word) => isSet w.1).foldl (init := s) fun s (w : Nat × Word) => s.setBits w.1 w.2

/-! ### Effects of tasks -/

/-- The action of a write-only register (R57, R82, R174, R239, R244, R247, R291, R295). -/
def M.doAction (s : M) (onBus : List Nat) (src : Half) (ad : Nat) (w : Word) : M :=
  if ad = 0x40004014 then s.fytricRestart src (restartTarget (w.bits 2 0))
  else if ad = 0x40001010 then
    let r := w.bits 1 0
    if r = 1 ∧ s.mode = 5 then s.strokeEvent { source := src, code := 0x00F0#16, p0 := 9#32, p1 := 0#32, p2 := 1#32, p3 := 1#32 }
    else if r = 1 ∨ r = 2 then { s with ctl := { s.ctl with request := max s.ctl.request r } } else s
  else if ad = 0x4000380C then (if bitAt w 12 then { s with saves := { s.saves with asked := true } } else s)
  else if ad = 0x40010094 then s.unlatchDio w
  else if ad = 0x40010098 then s.ackGroups (w.bits 7 4)
  else if 0x40030000 ≤ ad ∧ ad < 0x40030040 ∧ ad % 16 = 12 then s.loadEnc ((ad - 0x40030000) / 16) w
  else if ad = 0x4004002C then s.abortTx onBus 0 w
  else if ad = 0x4004402C then s.abortTx onBus 1 w
  else if ad = 0x40040030 then (if bitAt w 0 then s.recoverCan 0 else s)
  else if ad = 0x40044030 then (if bitAt w 0 then s.recoverCan 1 else s)
  else s

/-- An effect applied at the commit; loop commands and events have their own steps. -/
def M.doEffect (s : M) (onBus : List Nat) (e : Half × Effect) : M :=
  match e.2 with
  | .canTx p b x => s.placeTx onBus p b x
  | .canPop p q => s.popFifo p q
  | .canMb p b => s.readBox p b
  | .hartStart n cmd data => s.startHart n cmd data (e.1.toNat % 256) none
  | .hartTaken n => s.hresTaken n
  | .cvu r f g =>
    ((s.wrap F.cvuCount 32 r).bump F.cvuStatCheckFails 65535 f).bump F.cvuStatCheckGaps 65535 g
  | _ => s

/-- Every effect applied: the actions of registers first, so that an abort comes before the frames of the same commit (R291). -/
def M.doEffects (s : M) (onBus : List Nat) (es : List (Half × Effect)) : M :=
  let s := es.foldl (init := s) fun s (e : Half × Effect) => match e.2 with
    | .regAction ad w => s.doAction onBus e.1 ad w
    | _ => s
  es.foldl (init := s) fun s e => s.doEffect onBus e

/-! ### Loop results and commands (R192, R213, R218, R222, R227 to R229) -/

/-- The dipper after a result (R229): a sample of its run, and the state of the run; the first evaluation settles the settings of the run (R227, R230). -/
def M.dip (s : M) (r : LoopResult) : M :=
  let d := s.run.dipper
  if d.block = some r.block then
    let w := r.words
    let d := match d.samples.isEmpty, r.hidden.inj with
      | true, some i => if i.begun then { d with cfg := i.cfg, bitEvals := i.bitEvals, amp := i.amp } else d
      | _, _ => d
    let d := if r.sampled then
        { d with samples := { rEff := w.rEff, y := w.y, u := w.u, inj := r.inj } :: d.samples, stroke0 := if d.samples.isEmpty then s.stroke else d.stroke0 }
      else d
    { s with run := { s.run with dipper := if d.state = 1 then { d with state := w.injStat.bits 1 0 } else d } }
  else s

/-- A loop's result committed. -/
def M.commitLoop (s : M) (r : LoopResult) : M :=
  let s := (resultWrites s.run.snap r).foldl (init := s) fun s (w : Nat × Word) => s.putReg w.1 w.2
  let s := (outputWrites s.run.snap r).foldl (init := s) fun s (w : Nat × Word) => s.storeWord w.1 w.2
  r.events.foldl (init := (s.updLoop r.block fun _ => r.hidden).dip r) M.strokeEvent

/-- The loop engine's results committed. -/
def M.commitLoops (s : M) : M :=
  let d := declsOf s.body
  let s := s.run.loops.results.foldl (init := s) M.commitLoop
  (s.run.loops.groups.flatMap (groupWrites d)).foldl (init := s) fun s (w : Nat × Word) => s.storeWord w.1 w.2

/-- Host loop commands that a task's command to the same block sets aside (R218). -/
def M.setAsideLoops (s : M) (ts : List (Nat × Nat × Word)) : M :=
  s.net.taken.zipIdx.foldl (init := s) fun s x =>
    match x.1.cmd, x.1.status with
    | .loop b _ _, some 0 =>
      if ts.any fun t => t.1 == b then
        ({ s with net := { s.net with taken := s.net.taken.set x.2 { x.1 with status := some 3 } } }).refusal 0x40 3 x.1.principal
      else s
    | _, _ => s

/-- The declared blocks of the running image. -/
def M.blocks (s : M) : List Nat := (declsOf s.body).blocks

/-- Runs that a boundary ends (R222, R228); a loop whose tuning run it ends is not evaluated in the stroke that begins. -/
def M.endRuns (s : M) (code : Nat) : M :=
  s.blocks.foldl (init := s) fun s b =>
    let tuning := (s.run.loopHid.get LoopHidden.none b).tune.isSome
    let s := if tuning then { s with run := { s.run with barred := b :: s.run.barred } } else s
    (s.endTune b code).endInject b

/-! ### Modes (R63 to R66, R434) -/

/-- The output values held while STOP or SAFE lasts (R434). -/
def M.holdAll (s : M) (direct : Bool) : M := ((s.holdDw direct).holdAw direct).holdRing direct

/-- Activations in progress abandoned (R98). -/
def M.stopTasks (s : M) : M := { s.endFy with run := { s.endFy.run with acts := [] } }

/-- SAFE left for STOP (R73, R336): the latch cleared, the safe driver becomes the holder; a module that neither drives nor is in step waits for the bucket
under row 8 of R347. -/
def M.leaveSafe (s : M) : M :=
  let s := (s.setB F.modStatusSafeLatched false).setN F.modStatusSafeCause 0
  let s := { s with ctl := { s.ctl with ackAt := none } }
  if s.on F.redStatusSafeDriver then (s.setB F.redStatusSafeDriver false).take
  else if s.role = 0 ∨ s.role = 4 then { s with red := { s.red with wantBucket := 8 } } else s

/-- A mode change at a boundary (R65, R66). -/
def M.changeMode (s : M) (m cause : Nat) : M :=
  let was := s.mode
  if was = m then s
  else
    let s := if m = 2 ∨ m = 5 then (s.holdAll false).stopTasks else s
    let s := if was = 4 then (s.setB F.modHoldBpValid false) |> fun s => { s with ctl := { s.ctl with forces := [], holdSteps := 0, stepping := false } } else s
    if m = 5 then s.enterSafe cause
    else
      let s := s.setN F.modStatusMode m
      let s := if was = 5 then s.leaveSafe else s
      let s := if m = 3 ∧ (was = 2 ∨ was = 5) then s.blocks.foldl (init := s) fun s b => s.updLoop b fun h => { h with entry := true } else s
      s.showListen

/-- The mode change announced for boundary k1, if any (R87 step 1b). -/
def M.boundaryMode (s : M) (k1 : DWord) : M :=
  match s.ctl.nextMode with
  | none => s
  | some (at1, m, cause) =>
    if at1.toNat ≤ k1.toNat then { s with ctl := { s.ctl with nextMode := none } }.changeMode m cause else s

/-- After a mode change: a mode without runs ends them, and STOP and SAFE make every loop fresh (R191, R222, R228). -/
def M.modeLoops (s : M) (was : Nat) : M :=
  if was = s.mode then s
  else
    let s := if s.mode ≠ 3 then s.endRuns 4 else s
    if s.mode = 2 ∨ s.mode = 5 then s.blocks.foldl (init := s) fun s b => s.setB (F.loopStatusFresh b) true else s

/-! ### Retained records (R172, R188) -/

/-- The loop records of the cistern; a block that is not declared reads as 0 (R183), and so does its record. -/
def M.writeRecords (s : M) : M :=
  let s := { s with mem := s.mem.filter fun c => !(decide (0x00FF0000 ≤ c.1) && decide (c.1 < 0x00FF8000)) }
  s.blocks.foldl (init := s) fun s b =>
    let a := 0x00FF0000 + 32 * b
    let ws := [word (s.nat (F.loopStatusMode b) + s.nat (F.loopStatusLatch b) * 1048576), s.reg (F.loopSp b), s.reg (F.loopUMan b), s.reg (F.loopI b),
      s.reg (F.loopU b), 0#32, 0#32, 0#32]
    ws.zipIdx.foldl (init := s) fun s (w : Word × Nat) => { s with mem := memPutWord s.mem (a + 4 * w.2) w.1 }

/-- The edge-slot bits of the cistern. -/
def M.writeEdges (s : M) : M :=
  let mem := s.mem.filter fun c => !(decide (0x00FF8000 ≤ c.1) && decide (c.1 < 0x00FF8200))
  { s with mem := s.fy.slots.edges.foldl (init := mem) fun m (e : Nat × EdgeSlot) =>
      if e.2.prev && decide (e.1 < 4096) then
        let a := 0x00FF8000 + e.1 / 8
        memPut m a (memByte m a ||| (1#8 <<< (e.1 % 8)))
      else m }

/-! ### Checkpoints (R174) -/

/-- Strokes between periodic checkpoints. -/
def M.ckptEvery (s : M) : Nat :=
  let tb := max 1 (s.nat F.stkPeriodTbUs)
  max 1 ((s.nat F.memCkptCfgIntervalS * 1000000 + tb - 1) / tb)

/-- The checkpoint side of the commit at S of stroke k1: while one runs a periodic one that falls due is skipped and counted, a forced or requested one held. -/
def M.commitCkpt (s : M) (k1 : Nat) : M :=
  let due := k1 % s.ckptEvery == 0
  let v := s.saves
  if v.running.isSome then
    let s := if due then s.bump F.memCkptStatusSkipped 65535 1 else s
    { s with saves := { v with asked := false, waiting := v.waiting || v.asked } }
  else if due || v.asked || v.waiting then { s with saves := { v with asked := false, waiting := false } }.beginSave 1
  else s

/-! ### Stroke events and answers (R106, R332, R414) -/

/-- An event placed behind those of the same or a lower source. -/
def placeEvent (e : Event) : List Event → List Event
  | [] => [e]
  | x :: r => if e.source.toNat < x.source.toNat then e :: x :: r else x :: placeEvent e r

/-- Events in ascending order of source, each source in its own order (R106). -/
def sortEvents (l : List Event) : List Event := l.foldl (init := []) fun r e => placeEvent e r

/-- The events among effects. -/
def eventsOf (es : List (Half × Effect)) : List Event :=
  es.filterMap fun (e : Half × Effect) => match e.2 with
    | .event x => some x
    | _ => none

/-- Whether a command starts a run. -/
def HostCmd.startsRun : HostCmd → Bool
  | .loop _ cmd _ => cmd == 2 || cmd == 6
  | _ => false

/-- The host commands taken by the ended stroke's snapshot answered; one that came over the rope is answered over it (R337, R414). A run that starts at this
commit and is aborted by the online change of the same boundary gives TUNE_ABORTED_CHANGE (R133, R222, R228). -/
def M.answer (s : M) (changes : Bool) : M :=
  let l := s.net.taken
  let s := { s with net := { s.net with taken := [] } }
  l.foldl (init := s) fun s q =>
    let st := q.status.getD 0
    let st := if changes && st == 0 && q.cmd.startsRun then 20 else st
    match q.req with
    | some r => s.reply r st
    | none => s.ropeOut (.ropeReply q.cmd.code st)

/-! ### Outputs (R87, R237, R261, R309) -/

/-- Connections closed where MB_CFG.ENABLE was cleared (R324), and with every session of P3 where its addressing changed (R318). -/
def M.commitMb (s : M) (old : Tab Word) : M :=
  let off := getField old F.mbCfgEnable != 0#32 && !s.on F.mbCfgEnable
  let moved := [F.netIp (s.nat F.idStrapsSlot), F.netMaskPrefix, F.netGw].any fun k => getField old k != s.reg k
  let s := if off || moved then { s with net := { s.net with conns := [], writes := [] } } else s
  if moved then s.closeTcp else s

/-- PTP and the lock of the timebase where PTP_EN or LOCK_SRC was changed (R83, R325). -/
def M.commitTime (s : M) (old : Tab Word) : M :=
  let was := getField old F.ptpCfgPtpEn != 0#32
  let s := if s.on F.ptpCfgPtpEn && !was then s.setN F.ptpStatPortState (if s.domainOn 4 then 1 else 4)
    else if was && !s.on F.ptpCfgPtpEn then s.loseSync.setN F.ptpStatPortState 0 else s
  let src := s.nat F.stkTimebaseLockSrc
  if getField old F.stkTimebaseLockSrc = word src then s
  else if src = 0 then
    (if s.role = 2 ∨ s.role = 3 then s else s.set F.stkTimebaseFreqAdj 0#32).setN F.stkTimebaseLockState 0
  else s.setN F.stkTimebaseLockState 1

/-- CAN frames that SAFE kept, discarded at the boundary of SAFE_ACK (R292). -/
def M.dropStale (s : M) (was : Nat) (onBus : List Nat) : M :=
  if was = 5 ∧ s.mode ≠ 5 ∧ s.drives then foldNat 2 s fun s p => s.dropTx onBus p true else s

/-- Output values passed to the wellheads and the ring, and the enables of a module that drives the field; `ports` is the CAN side, which a new holder's take
itself leaves alone (R293). -/
def M.passOn (s : M) (old : Tab Word) (ports : M → M) : M :=
  let fresh := s.drives && !s.aon.enables
  let took := fresh || s.holds && getField old F.redStatusHolder == 0#32
  let s := { s with aon := { s.aon with enables := s.drives } }
  let s := ports (((s.commitDw old).commitAw old took).commitRing fresh)
  ((s.commitHart old took).commitMb old).commitTime old

/-- Output values passed on at a commit. -/
def M.passOutputs (s : M) (old : Tab Word) (onBus : List Nat) : M := s.passOn old fun s => s.commitCan onBus

/-! ### The commit of a stroke (R87 step 1b) -/

/-- What the ended stroke stores: the words of its snapshot, plain writes, loop results, then clears and sets (R87, R91, R167). -/
def M.commitStores (s : M) (p : Pend) : M :=
  let s := { s with mem := putWords s.mem s.run.snapWrites }
  ((s.applyPlain p.writes).commitLoops).applyBits p.writes

/-- Writes, loop results, commands and effects of the ended stroke; `fyTask` is the task of an ended activation of instruction commands. -/
def M.commitWork (s : M) (onBus : List Nat) (p : Pend) (fyTask : Option Nat) : M :=
  let s := s.commitStores p
  let ts := taskLoops p.effects
  let cmds := s.loopCmds p.effects
  let s := s.setAsideLoops ts
  let s := cmds.foldl (init := s) fun s (c : Nat × Nat × Word) => s.applyLoopCmd c.1 c.2.1 c.2.2
  let s := s.doEffects onBus p.effects
  let s := { s with run := { s.run with pend := { s.run.pend with effects := (eventsOf p.effects).map (fun (e : Event) => (e.source, Effect.event e)) ++ s.run.pend.effects } } }
  let s := s.run.ended.foldl (init := s) fun s t => s.wrap (F.stkTaskRuns t) 32 1
  match fyTask with
  | some t => (s.wrap (F.stkTaskRuns t) 32 1).endFy
  | none => s

/-- What a commit leaves behind it: retained records, what a save and the next start find of it, the number of the stroke, the checkpoint, the stroke events with the
stroke and the wall clock that they carry (R381), the answers. -/
def M.commitEnd (s : M) (k1 last at1 wall : DWord) : M :=
  let s := s.writeRecords.writeEdges
  let now : LastCommit := { mode := s.mode, cells := retainedCells s.mem, identity := s.activeIdentity }
  let s := ({ s with run := { s.run with committed := last, last := some now } }).commitCkpt k1.toNat
  let es := sortEvents (eventsOf s.run.pend.effects)
  let s := { s with run := { s.run with pend := Pend.empty, snapWrites := [], loops := { results := [], groups := [] }, ended := []
                                        slots0 := s.fy.slots, begun0 := s.run.begun } }
  let s := es.foldl (init := s) fun s e => s.enqueue e at1 wall
  s.answer (match s.store.change with
    | some c => decide (c.stroke.toNat ≤ k1.toNat)
    | none => false)

/-- The commit of the stroke in progress at S of stroke k1. -/
def M.commit (s : M) (k1 : DWord) (onBus : List Nat) : M :=
  let old := s.fields
  let was := s.mode
  let d := s.strokeDigest
  let p := s.pendAll
  let fyTask := if s.fy.act.done && s.tasksRan then some s.fy.act.task else none
  let s := { s with run := { s.run with pend := Pend.empty }, fy := if s.tasksRan then s.fy else { s.fy with act := Act.start } }
  let s := ((s.boundaryMode k1).dropStale was onBus).commitWork onBus p fyTask
  let s := ((s.modeLoops was).finishPass ((s.run.manifest.map (·.hart)).getD [])).passOutputs old onBus
  (s.set64 F.stkDigestLo F.stkDigestHi d).commitEnd k1 s.stroke s.stroke s.run.wallAt

end Sys2Proof.Machine
end

