-- ==== Sys2Proof/Machine/Verify.lean ====
section
/-! DEFINITION. The verifier's analysis of an image (R93, R99, R112, R115, R118 to R125, R137, R140, R145 to R161, R190, R203, R211): each cause
of refusal as the first instruction that shows it, the worst-case paths, and the settings that CONFIG gives the ports and modems. -/

namespace Sys2Proof.Machine

/-! ### Code -/

/-- Every instruction of the image. -/
def allInstrs (b : ImageBody) : List Nat := b.blocks.flatMap (startsOf b)

/-! ### OPCODE (R137, R153) -/

/-- What a register field of an instruction must be (R137): unused and 0, any register, a destination pair, a source pair or 0 (R119, R144). -/
inductive RegUse where
  | none | any | pairTo | pairFrom
  deriving DecidableEq, Repr

/-- Whether a register number fits its use. -/
def RegUse.fits (u : RegUse) (r : Nat) : Bool :=
  match u with
  | .none => r == 0
  | .any => true
  | .pairTo => r % 2 == 0 && decide (2 ≤ r)
  | .pairFrom => r % 2 == 0

/-- The uses of D, A and B by the integer and floating-point functions (R142, R143); B is 0 in the I form. -/
def arithUses (float immediate : Bool) (fn : Nat) : Option (RegUse × RegUse × RegUse) :=
  let one := if float then [4, 7, 8, 12, 13, 14, 15, 16].contains fn else [21, 22, 30].contains fn
  if decide (fn > 30) || (float && decide (fn > 16)) || (immediate && one) then Option.none
  else some (.any, .any, if immediate || one then .none else .any)

/-- The uses of D, A and B by the INT64 functions (R144). -/
def int64Uses (fn : Nat) : Option (RegUse × RegUse × RegUse) :=
  match fn with
  | 5 => some (.pairTo, .pairFrom, .none)
  | 6 => some (.any, .pairFrom, .pairFrom) | 7 => some (.any, .pairFrom, .pairFrom)
  | 8 => some (.pairTo, .any, .none) | 9 => some (.pairTo, .any, .none)
  | 10 => some (.any, .pairFrom, .none) | 11 => some (.any, .pairFrom, .none)
  | 12 => some (.pairTo, .any, .none)
  | n => if n < 5 then some (.pairTo, .pairFrom, .pairFrom) else Option.none

/-- The uses of D, A and B by the control functions (R147). -/
def controlUses (fn : Nat) : Option (RegUse × RegUse × RegUse) :=
  match fn with
  | 1 => some (.none, .any, .none) | 2 => some (.none, .any, .none) | 3 => some (.any, .any, .none)
  | n => if n < 8 then some (.none, .none, .none) else Option.none

/-- The uses of D, A and B by the slot functions (R151). -/
def slotUses (major fn : Nat) : Option (RegUse × RegUse × RegUse) :=
  match major, fn with
  | 0x10, n => if n < 3 then some (.any, .any, .none) else Option.none
  | 0x11, 3 => some (.any, .none, .none) | 0x11, 4 => some (.none, .none, .none)
  | 0x11, n => if n < 3 then some (.any, .any, .any) else Option.none
  | _, 2 => some (.any, .none, .none) | _, 3 => some (.none, .any, .none)
  | _, n => if n < 2 then some (.any, .any, .any) else Option.none

/-- The uses of D, A and B of an instruction; none for a reserved MAJOR or FN (R136). -/
def usesOf (major fn : Nat) : Option (RegUse × RegUse × RegUse) :=
  match major with
  | 0x01 => arithUses false false fn | 0x02 => arithUses false true fn | 0x03 => arithUses true false fn | 0x04 => arithUses true true fn
  | 0x05 => int64Uses fn
  | 0x06 => if fn = 0 then some (.any, .none, .none) else Option.none
  | 0x08 => if fn < 8 then some (.any, .any, .none) else if fn < 16 then some (.pairTo, .any, .none) else Option.none
  | 0x09 => if fn < 8 then some (.none, .any, .any) else if fn < 16 then some (.none, .any, .pairFrom) else Option.none
  | 0x0C => controlUses fn
  | 0x10 => slotUses 0x10 fn | 0x11 => slotUses 0x11 fn | 0x12 => slotUses 0x12 fn
  | 0x14 => match fn with
    | 0 => some (.pairTo, .none, .none) | 1 => some (.any, .none, .none) | 2 => some (.any, .any, .none)
    | _ => Option.none
  | 0x18 => if fn = 0 then some (.any, .none, .any) else Option.none
  | 0x1C => if fn < 3 then some (.any, .none, .none) else Option.none
  | 0x1D => if fn < 2 then some (.any, .none, .none) else Option.none
  | 0x1E => if fn < 16 then some (.any, .any, if fn / 4 = 1 then .any else .none) else Option.none
  | _ => Option.none

/-- Whether the packed fields of a literal are within their ranges and its reserved bits are 0 (R148, R151 to R153, R156, R157, R159). -/
def literalFits (b : ImageBody) (pc : Nat) : Bool :=
  let lit := litAt b pc
  let fn := fnAt b pc
  match majorAt b pc with
  | 0x0C => fn != 3 || (decide (1 ≤ lit.bits 15 0) && decide (1 ≤ lit.bits 31 16))
  | 0x10 => lit.bits 31 12 == 0 | 0x11 => lit.bits 31 12 == 0
  | 0x12 => if fn < 2 then lit.bits 31 23 == 0 && lit.bits 15 12 == 0 else lit.bits 31 12 == 0
  | 0x14 => fn != 2 || (lit.bits 31 15 == 0 && decide (1 ≤ (rnA (codeAt b pc)).toNat) && decide ((rnA (codeAt b pc)).toNat ≤ 124))
  | 0x18 => lit.bits 31 15 == 0 && lit.bits 11 10 == 0 && b.loops.any fun l => l.block == lit.bits 9 0
  | 0x1C => if fn = 0 then lit.bits 31 30 == 0 else if fn = 1 then lit.bits 31 26 == 0 else true
  | 0x1D => lit.bits 31 28 == 0
  | 0x1E => decide (fn / 4 ≥ 2) || lit.bits 31 24 == 0
  | _ => true

/-- Whether the instruction at `pc` of a block that ends at `stop` has none of the defects of R137. -/
def legalAt (b : ImageBody) (stop pc : Nat) : Bool :=
  let w := codeAt b pc
  match usesOf (majorAt b pc) (fnAt b pc) with
  | some (d, a, c) =>
    decide (pc + wordsOf w ≤ stop) && d.fits (rnD w).toNat && a.fits (rnA w).toNat && c.fits (rnB w).toNat && literalFits b pc
  | Option.none => false

/-- The first instruction with a defect of R137. -/
def badOpcode (b : ImageBody) : Option Nat := b.blocks.findSome? fun k => (startsOf b k).find? fun p => !legalAt b k.2 p

/-! ### CONTROL_FLOW (R147 to R149) -/

/-- The LOOP bodies of a block, as (first word, end). -/
def bodiesOf (b : ImageBody) (k : Nat × Nat) : List (Nat × Nat) :=
  ((startsOf b k).filter fun p => isControl b p 3).map fun p => (p + 2, p + 2 + (litAt b p).bits 31 16)

/-- Whether `pc` lies in a body. -/
def within (x : Nat × Nat) (pc : Nat) : Bool := decide (x.1 ≤ pc) && decide (pc < x.2)

/-- Whether a LOOP body is made of whole instructions of the block, nested at most four deep, and no body overlaps another in part. DESIGN CHOICE (log entry 81):
the four levels are counted within one task or subroutine; the spec does not say whether a CALL inside a body carries the caller's levels on. -/
def bodyFits (b : ImageBody) (k x : Nat × Nat) : Bool :=
  let all := bodiesOf b k
  decide (x.2 ≤ k.2) && (x.2 == k.2 || (startsOf b k).contains x.2) && decide ((all.filter fun y => within y (x.1 - 2)).length < 4) &&
    all.all fun y => decide (x.2 ≤ y.1) || decide (y.2 ≤ x.1) || (decide (y.1 ≤ x.1) && decide (x.2 ≤ y.2)) || (decide (x.1 ≤ y.1) && decide (y.2 ≤ x.2))

/-- Whether a branch from `p` may go to `t`: to an instruction of the block, and into no LOOP body that does not hold the branch. -/
def targetFits (b : ImageBody) (k : Nat × Nat) (p t : Nat) : Bool :=
  (startsOf b k).contains t && (bodiesOf b k).all fun x => !within x t || within x p

/-- Whether the control instruction at `p` stays within the block, or calls an entry of CODE. -/
def flowFits (b : ImageBody) (k : Nat × Nat) (p : Nat) : Bool :=
  if majorAt b p ≠ 0x0C then true
  else
    match fnAt b p with
    | 3 => bodyFits b k (p + 2, p + 2 + (litAt b p).bits 31 16)
    | 4 => (subEntries b).contains (litAt b p).toNat
    | n => if n < 3 then targetFits b k p (p + 2 + (litAt b p).toNat) else true

/-- Whether a block ends in END or RET. -/
def endsWell (b : ImageBody) (k : Nat × Nat) : Bool :=
  match (startsOf b k).getLast? with
  | some p => isControl b p 5 || isControl b p 6
  | Option.none => false

/-- Whether no chain of calls from a block is deeper than `n`, or returns to a subroutine already in it (R149). -/
def chainFits (b : ImageBody) : Nat → List Nat → Nat → Bool
  | 0, _, e => (calleesOf b (blockAt b e)).isEmpty
  | n + 1, seen, e => (calleesOf b (blockAt b e)).all fun c => !seen.contains c && chainFits b n (c :: seen) c

/-- The first instruction, or the first word of a block, whose control flow R147 to R149 refuse. -/
def badFlow (b : ImageBody) : Option Nat :=
  b.blocks.findSome? fun k =>
    if !endsWell b k || !chainFits b 8 (if (subEntries b).contains k.1 then [k.1] else []) k.1 then some k.1
    else (startsOf b k).find? fun p => !flowFits b k p

/-! ### The arrays that literals name (R117, R145) -/

/-- The data SRAM address that an instruction's literal carries, with the bytes that the instruction needs there (R145, R156, R157, R159). -/
def bufferOf (b : ImageBody) (pc : Nat) : Option (Nat × Nat) :=
  let lit := litAt b pc
  match majorAt b pc with
  | 0x08 => if inSram lit.toNat then some (lit.toNat, if fnAt b pc / 8 = 1 then 8 else 4) else Option.none
  | 0x09 => if inSram lit.toNat then some (lit.toNat, if fnAt b pc / 8 = 1 then 8 else 4) else Option.none
  | 0x1C => some (lit.bits 23 0, 76)
  | 0x1D => some (lit.bits 23 0, if fnAt b pc = 0 then 8 else 264)
  | 0x1E => some (lit.bits 23 0, if fnAt b pc / 4 ≥ 2 then CrcKind_bytes (crcKindOf (fnAt b pc % 4)) + 1 else 1)
  | _ => Option.none

/-- Whether an instruction whose literal carries a data SRAM address has its entry in the reference list, with that base (R145). -/
def refFits (b : ImageBody) (pc : Nat) : Bool :=
  match bufferOf b pc with
  | some x => b.refs.any fun r => r.1 == pc && r.2.base == x.1
  | Option.none => true

/-- Whether an array is one that LAYOUT declares. -/
def declared (b : ImageBody) (x : ArrRef) : Bool := b.vars.any fun v => v.addr == x.base && 4 * v.words == x.bytes && v.scalar == x.scalar

/-- Whether the literal of a load or store outside data SRAM names something: a variable through an alias, a constant, a register, or a loop block
field (R117, R145). -/
def namesSomething (b : ImageBody) (ad : Nat) : Bool :=
  if inSetAlias ad || inClrAlias ad then b.vars.any fun v => v.addr == aliasTarget ad
  else if inCodeWindow ad then b.vars.any fun v => v.addr == ad
  else ad % 4 == 0 && !(fieldsAt ad).isEmpty

/-- Whether the literal of an instruction is the base of a declared array large enough, and a store's lies where stores may go. -/
def literalBounded (b : ImageBody) (pc : Nat) : Bool :=
  match bufferOf b pc with
  | some x => (let n := namedArray b pc x.1 (kindOf (fnAt b pc)) 0#3; declared b n && decide (x.2 ≤ n.bytes))
  | Option.none =>
    if majorAt b pc = 0x08 then namesSomething b (litAt b pc).toNat
    else if majorAt b pc = 0x09 then namesSomething b (litAt b pc).toNat && !inCodeWindow (litAt b pc).toNat
    else true

/-- The first instruction that UNBOUNDED_STORE refuses (R112). -/
def badBounds (b : ImageBody) : Option Nat := (allInstrs b).find? fun p => !literalBounded b p

/-! ### OWNERSHIP (R122, R123, R125, R146, R149 to R153, R156, R157, R161, R185, R211, R212) -/

/-- The bytes from `addr` to before `stop` of one owner. -/
abbrev Span := Nat × Nat

/-- The whole array that owns a word: the widest declared one that holds it (R145, R146). -/
def outerOf (b : ImageBody) (ad : Nat) : Span :=
  b.vars.foldl (init := (ad / 4 * 4, ad / 4 * 4 + 4)) fun (x : Span) v =>
    if v.addr ≤ ad ∧ ad < v.addr + 4 * v.words ∧ x.2 - x.1 < 4 * v.words then (v.addr, v.addr + 4 * v.words) else x

/-- The words that a store of an access may reach: with an index every element, with KIND PAIR two words of each (R145, R146). -/
def wordsStored (x : Access) (indexed : Bool) : List Nat :=
  (List.range (if indexed then elements x else 1)).flatMap fun i =>
    let a := x.arr.base + i * strideOf x
    match x.kind with
    | .word => [a]
    | .pair => [a, a + 4]

/-- Whether the loop block that holds an address is declared (R183). -/
def inDeclaredLoop (b : ImageBody) (ad : Nat) : Bool := b.loops.any fun l => l.block == (ad - 0x50000000) / 0x100

/-- What a store to one register claims: none where it is refused, every field being RO or RC; nothing where its fields are W1S and W1C, whose
writes commute (R123), or where the store is ignored (R117, R183); else the word. -/
def registerClaim (b : ImageBody) (ad : Nat) : Option (List Span) :=
  let fs := fieldsAt ad
  if fs.isEmpty || (inLoop ad && !inDeclaredLoop b ad) then some []
  else if fs.all fun f => f.acc == .ro || f.acc == .rc then Option.none
  else if fs.all fun f => f.acc == .ro || f.acc == .rc || f.acc == .w1s || f.acc == .w1c then some []
  else some [(ad, ad + 4)]

/-- What a store to several registers claims. -/
def registerClaims (b : ImageBody) (ads : List Nat) : Option (List Span) := (ads.mapM (registerClaim b)).map List.flatten

/-- What the instruction at `pc` claims of memory and registers for the task that executes it. -/
def claimOf (b : ImageBody) (pc : Nat) : Option (List Span) :=
  let lit := litAt b pc
  let fn := fnAt b pc
  match majorAt b pc with
  | 0x09 =>
    let ad := lit.toNat
    if inSram ad then some [outerOf b ad]
    else if inSys ad || inLoop ad then registerClaims b (wordsStored (accessOf b pc fn lit) ((rnA (codeAt b pc)).toNat != 0))
    else some []
  | 0x1C => if fn = 0 then some [] else some [outerOf b (lit.bits 23 0)]
  | 0x1D => if fn = 0 then some [] else some [outerOf b (lit.bits 23 0)]
  | 0x1E => if fn / 4 = 2 then some [outerOf b (lit.bits 23 0)] else some []
  | _ => some []

/-- The object of one owner that the instruction at `pc` uses (R150, R153, R156, R157, R161), as (kind, number). -/
def objectOf (b : ImageBody) (pc : Nat) : Option (Nat × Nat) :=
  let lit := litAt b pc
  let fn := fnAt b pc
  match majorAt b pc with
  | 0x10 => some (0x10, lit.bits 11 0) | 0x11 => some (0x11, lit.bits 11 0) | 0x12 => some (0x12, lit.bits 11 0)
  | 0x18 => some (0x18, lit.bits 9 0)
  | 0x1C => some (0x1C0 + fn, if fn = 0 then lit.bits 29 24 else lit.bits 31 24)
  | 0x1D => some (0x1D, lit.bits 27 24)
  | 0x1E => if fn / 4 ≥ 2 then some (0x1E, lit.bits 31 24) else Option.none
  | _ => Option.none

/-- What low-select groups claim (R211, R212): destinations, and the words of their records that the loop engine writes. -/
def groupClaims (b : ImageBody) : List Span := b.groups.flatMap fun (g : Nat × Nat × Nat) => [(g.2.2, g.2.2 + 4), (g.2.1 + 8, g.2.1 + 32)]

/-- The claims of the loop engine (R185, R211, R212). -/
def loopClaims (b : ImageBody) : List Span :=
  ((b.loops.filter fun l => bitAt l.link 31).map fun l => (l.out, l.out + 4)) ++ groupClaims b

/-- The claims of the snapshot (R122, R125): input items, words that remote modules fill, host-writable words. -/
def snapClaims (b : ImageBody) : List Span :=
  (b.items.map fun i => (i.addr, i.addr + 8)) ++ (b.modules.map fun m => (m.inAddr, m.inAddr + 8 * m.inWords)) ++
    (b.vars.filter fun v => v.hostWritable).map fun v => (v.addr, v.addr + 4 * v.words)

/-- Whether two spans share a byte. -/
def spansMeet (x y : Span) : Bool := decide (x.1 < y.2) && decide (y.1 < x.2)

/-- A task's use of code: task, instruction. -/
def taskInstrs (b : ImageBody) : List (Nat × Nat) := b.tasks.flatMap fun t => (instrsFrom b t.entry).map fun p => (t.num, p)

/-- Whether OWNERSHIP gives a word of a span to another writer (R110, R122). -/
def ownedElse (b : ImageBody) (w : Writer) (s : Span) : Bool := b.owners.any fun (o : Nat × Nat × Writer) => spansMeet s (o.1, o.2.1) && o.2.2 != w

/-- Whether an instruction of a task has a second writer: OWNERSHIP names another for a word it writes; another task, the loop engine or the snapshot writes a word it writes; another task uses its
slot, stream, buffer, channel or loop block; or its stream is used by both SEAL and CHECK. -/
def claimClashes (b : ImageBody) (all : List (Nat × Nat)) (x : Nat × Nat) : Bool :=
  match claimOf b x.2 with
  | Option.none => true
  | some ss =>
    (ss.any fun s => ownedElse b (.task x.1) s || (loopClaims b ++ snapClaims b).any (spansMeet s)) ||
      all.any fun y =>
        (y.1 != x.1 && ((ss.any fun s => ((claimOf b y.2).getD []).any (spansMeet s)) || (objectOf b x.2).any fun o => objectOf b y.2 == some o)) ||
          ((objectOf b x.2).any fun o => o.1 == 0x1E && objectOf b y.2 == some o && fnAt b x.2 / 4 != fnAt b y.2 / 4)

/-- Whether the loop engine and the snapshot both write a word, or OWNERSHIP gives a word of theirs to another writer. -/
def enginesClash (b : ImageBody) : Bool :=
  ((loopClaims b).any fun s => ownedElse b .loops s || (snapClaims b).any (spansMeet s)) || (snapClaims b).any (ownedElse b .snapshot)

/-- The first instruction of a task with a second writer, or of the priming section that stores to a field no cyclic task may write (R116). -/
def badOwner (b : ImageBody) : Option Nat :=
  let all := taskInstrs b
  match all.find? (claimClashes b all) with
  | some x => some x.2
  | Option.none =>
    match (instrsFrom b b.configEntry ++ b.initEntry.toList.flatMap (instrsFrom b)).find? fun p => (claimOf b p).isNone with
    | some p => some p
    | Option.none => if enginesClash b then some 0 else Option.none

/-! ### Costs and worst-case paths (R139, R140, R148, R160) -/

/-- The cost of the instruction at `pc` (R139), with q_e for a check-value instruction; a LOOP's first charge holds its first pass, a CALL's not the
callee. -/
def costAt (b : ImageBody) (q pc : Nat) : Nat :=
  if majorAt b pc = 0x1E then 6 + cvuOcc b pc + q
  else if isControl b pc 3 then 4
  else ((decodeAt b { act := { Act.start with pc := pc }, slots := Slots.empty }).map (·.1)).getD 0

/-- A worst-case path up to a limit: its cost, and the places at or beyond the limit where paths arrive. -/
abbrev Path := Nat × List Nat

/-- The path from `p` by the table of the later instructions. -/
def pathFrom (t : Tab Path) (stop p : Nat) : Path := if p ≥ stop then (0, [p]) else t.get (0, []) p

/-- The worst-case paths from every instruction in `starts` up to `stop` (R140): the dearer way of a branch, every LOOP at its bound as
3 + N × (1 + B) + C (R148), every CALL as 4 BU and its callee. `depth` bounds the nesting of LOOPs. -/
def paths (b : ImageBody) (q : Nat) (callee : Nat → Nat) : Nat → List Nat → Nat → Tab Path
  | 0, _, _ => []
  | depth + 1, starts, stop =>
    (starts.filter fun p => decide (p < stop)).foldr (init := []) fun p t =>
      let next := p + wordsOf (codeAt b p)
      let lit := litAt b p
      let target := next + lit.toNat
      let c := costAt b q p
      let one : Path :=
        if majorAt b p ≠ 0x0C then (let x := pathFrom t stop next; (c + x.1, x.2))
        else
          match fnAt b p with
          | 0 => (let x := pathFrom t stop target; (c + x.1, x.2))
          | 3 =>
            let tail := next + lit.bits 31 16
            let inner := pathFrom (paths b q callee depth (starts.filter fun s => decide (next ≤ s)) tail) tail next
            let outs := (inner.2 ++ [tail]).map (pathFrom t stop)
            (3 + lit.bits 15 0 * (1 + inner.1) + (outs.map (·.1)).foldl max 0, (outs.flatMap (·.2)).eraseDups)
          | 4 => (let x := pathFrom t stop next; (c + callee lit.toNat + x.1, x.2))
          | 5 => (c, []) | 6 => (c, [])
          | 7 => (let x := pathFrom t stop next; (c + x.1, x.2))
          | _ => (let x := pathFrom t stop next; let y := pathFrom t stop target; (c + max x.1 y.1, (x.2 ++ y.2).eraseDups))
      (p, one) :: t

/-- The worst-case path of a block with its callees; `n` bounds the depth of calls. -/
def worstFrom (b : ImageBody) (q : Nat) : Nat → Nat → Nat
  | 0, _ => 0
  | n + 1, entry =>
    let k := blockAt b entry
    (pathFrom (paths b q (worstFrom b q n) 5 (startsOf b k) k.2) k.2 k.1).1

/-- The worst-case path of a task (R140). -/
def worstOf (b : ImageBody) (t : TaskDecl) : Nat := worstFrom b (cvuWait b t.engine) 9 t.entry

/-- The largest cost of one instruction of a task or its callees (R99). -/
def dearestOf (b : ImageBody) (t : TaskDecl) : Nat := ((instrsFrom b t.entry).map (costAt b (cvuWait b t.engine))).foldl max 0

/-- The charge of an engine (R99). -/
def engineCharge (b : ImageBody) (e : Nat) : Nat :=
  ((b.tasks.filter fun t => t.engine == e).map fun t => (if t.sliced then t.budget else worstOf b t) + 20).sum

/-- Whether a sliced task cannot complete within its slices, or holds an instruction dearer than its budget (R99, R140). -/
def sliceShort (b : ImageBody) (t : TaskDecl) : Bool :=
  t.sliced && (decide (dearestOf b t > t.budget) || decide (worstOf b t > t.period * (t.budget + 1 - dearestOf b t)))

/-- The first word of a task that R99 refuses, for an image of base period `tb`. -/
def badBudget (b : ImageBody) (tb : Nat) : Option Nat :=
  match b.tasks.find? (sliceShort b) with
  | some t => some t.entry
  | Option.none => (b.tasks.find? fun t => decide (engineCharge b t.engine > 150 * (tb - 30))).map (·.entry)

/-- The worst-case cost of the priming section, which runs alone (R112, R160). -/
def primingCost (b : ImageBody) : Nat := worstFrom b 0 9 b.configEntry + (b.initEntry.toList.map (worstFrom b 0 9)).sum

/-! ### Published words (R124, R173) -/

/-- The arrays that the instruction at `pc` loads from or computes a check value over. -/
def readsOf (b : ImageBody) (pc : Nat) : List Span :=
  match bufferOf b pc with
  | some x =>
    let m := majorAt b pc
    if m = 0x08 ∨ m = 0x1E ∨ ((m = 0x1C ∨ m = 0x1D) ∧ fnAt b pc = 0) then [outerOf b x.1] else []
  | Option.none =>
    let ad := (litAt b pc).toNat
    if majorAt b pc = 0x08 ∧ (inSetAlias ad || inClrAlias ad) then [outerOf b (aliasTarget ad)] else []

/-- What the ring and the Modbus server read of data SRAM (R309, R321): output arrays and tables. -/
def portReads (b : ImageBody) : List Span :=
  (b.modules.map fun m => (m.outAddr, m.outAddr + 4 * m.outWords)) ++
    b.tables.zipIdx.map fun t => (t.1.1, t.1.1 + 4 * ((t.1.2 + 31) / (if t.2 < 2 then 32 else 2)))

/-- What the loop engine reads of data SRAM (R186, R203, R212): values with their quality words, tables, records. -/
def engineReads (b : ImageBody) : List Span :=
  (b.loops.flatMap fun l => [(l.pv, l.pv + 8), (l.ff, l.ff + 8), (l.satw, l.satw + 4)]) ++
    (b.schedules.flatMap fun (s : Nat × Nat × Nat) => [(s.2.1, s.2.1 + 192), (s.2.2, s.2.2 + 8)]) ++
    b.groups.map fun (g : Nat × Nat × Nat) => (g.2.1, g.2.1 + 8)

/-- Whether some stroke ends activations of both tasks: their last strokes fall in one residue class of the greatest common divisor of their periods
(R96, R97). -/
def endTogether (t u : TaskDecl) : Bool :=
  let last (x : TaskDecl) : Nat := if x.sliced then x.phase + (x.period - 1) else x.phase
  let g := Nat.gcd t.period u.period
  last t % g == last u % g

/-- The largest total of a volume over tasks whose activations can all end in one stroke. -/
def heaviest (volume : TaskDecl → Nat) : List TaskDecl → List TaskDecl → Nat
  | [], _ => 0
  | t :: r, chosen =>
    let without := heaviest volume r chosen
    if chosen.all (endTogether t) then max without (volume t + heaviest volume r (t :: chosen)) else without

/-- The largest total of a volume over loops that can be due in one stroke, counted as R190 counts them. -/
def heaviestLoops (b : ImageBody) (volume : LoopDecl → Nat) : Nat :=
  ((b.loops.map (·.period)).eraseDups.map fun p =>
    let mine := b.loops.filter fun l => l.period == p
    (mine.map fun l => ((mine.filter fun m => m.phase == l.phase).map volume).sum).foldl max 0).sum

/-- The bytes of spans of data SRAM that satisfy a test. -/
def bytesOf (keep : Span → Bool) (ss : List Span) : Nat := ((ss.eraseDups.filter fun s => inSram s.1 && keep s).map fun s => s.2 - s.1).sum

/-- The bytes that one commit may copy (R124, R173): arrays of data SRAM that a task or the loop engine writes and another agent reads, and retained
variables whoever writes them, over the activations and loops that can end in one stroke. -/
def publishedBytes (b : ImageBody) : Nat :=
  let all := taskInstrs b
  let byTask (t : Option Nat) (s : Span) : Bool := all.any fun y => some y.1 != t && (readsOf b y.2).any (spansMeet s)
  let kept (s : Span) : Bool := b.vars.any fun v => v.retained && spansMeet s (v.addr, v.addr + 4 * v.words)
  let ported (s : Span) : Bool := (portReads b).any (spansMeet s)
  let task (t : TaskDecl) : Nat :=
    bytesOf (fun s => byTask (some t.num) s || (engineReads b).any (spansMeet s) || ported s || kept s)
      (((instrsFrom b t.entry).flatMap fun p => (claimOf b p).getD []))
  let engine (s : Span) : Bool := byTask Option.none s || ported s || kept s
  let loop (l : LoopDecl) : Nat := if bitAt l.link 31 then bytesOf engine [(l.out, l.out + 4)] else 0
  heaviest task b.tasks [] + heaviestLoops b loop + bytesOf engine (groupClaims b) + bytesOf kept (snapClaims b)

/-! ### Loops, resources, durations (R112, R120, R190, R203, R211) -/

/-- Loops that can be due in one stroke (R190). -/
def dueAtOnce (b : ImageBody) : Nat :=
  ((b.loops.map (·.period)).eraseDups.map fun p =>
    let mine := b.loops.filter fun l => l.period == p
    ((mine.map fun l => (mine.filter fun m => m.phase == l.phase).length).foldl max 0)).sum

/-- Whether an address is a word of a declared variable of data SRAM. -/
def inVariable (b : ImageBody) (ad : Nat) : Bool := inSram ad && b.vars.any fun v => decide (v.addr ≤ ad) && decide (ad < v.addr + 4 * v.words)

/-- Whether an address is a REAL32 word of data SRAM, a scalar or an element of an array. -/
def isRealWord (b : ImageBody) (ad : Nat) : Bool :=
  inSram ad && ad % 4 == 0 && b.vars.any fun v => v.kind % 8 == 3 && decide (v.addr ≤ ad) && decide (ad < v.addr + 4 * v.words)

/-- Whether a destination is a REAL32 word of data SRAM or an analog output value register (R185, R211). -/
def isDestination (b : ImageBody) (ad : Nat) : Bool :=
  isRealWord b ad || (decide (0x40020018 ≤ ad) && decide (ad < 0x40020200) && ad % 0x20 == 0x18)

/-- Whether the LOOPS section is malformed (R185, R186, R203, R211): a period, phase or destination that is none, a schedule without a declared table or a quality word, a group without record or destination,
members of one group that share an index or differ in K_L or PHASE. DESIGN CHOICE (log entry 82): a scheduling variable has a quality word where a declared
variable of data SRAM holds the word behind it, since LAYOUT has no mark for one (R110). -/
def badLoops (b : ImageBody) : Bool :=
  let member (l : LoopDecl) : Bool := bitAt l.link 17
  let group (l : LoopDecl) : Nat := l.link.bits 13 9
  (b.schedules.any fun (s : Nat × Nat × Nat) => s.2.1 % 64 != 0 || !(b.vars.any fun v => v.addr == s.2.1 && inSram v.addr && decide (48 ≤ v.words)) ||
      !isRealWord b s.2.2 || !inVariable b (s.2.2 + 4)) ||
    (b.groups.any fun (g : Nat × Nat × Nat) => g.2.1 % 32 != 0 || !inSram g.2.1 || !((List.range 8).all fun i => b.vars.any fun v => v.addr == g.2.1 + 4 * i && v.words == 1 && v.scalar) ||
      !isDestination b g.2.2) ||
    b.loops.any fun l =>
      l.period == 0 || decide (l.period > 65535) || decide (l.phase ≥ l.period) || decide (l.block > 1023) || (bitAt l.link 31 && !isDestination b l.out) ||
      (bitAt l.link 8 && !(b.schedules.any fun (s : Nat × Nat × Nat) => s.1 == l.link.bits 7 0)) ||
        (member l && (!(b.groups.any fun (g : Nat × Nat × Nat) => g.1 == group l) ||
          b.loops.any fun m => m.block != l.block && member m && group m == group l &&
            (m.link.bits 16 14 == l.link.bits 16 14 || m.period != l.period || m.phase != l.phase)))

/-- Whether a variable lies outside data SRAM, in the system part of the cistern, or, retained, outside its variable part (R112, R172); a constant
lies in the code store window. -/
def badPlace (v : VarDecl) : Bool :=
  let last := v.addr + 4 * v.words
  if inCodeWindow v.addr then v.retained || decide (last > 0x10C00000)
  else decide (last > 0x00FF0000) || (v.retained && decide (v.addr < 0x00E00000))

/-- Whether TASKS declares what R96 does not allow: a number, engine, period or phase out of range, or a task twice. -/
def badTasks (b : ImageBody) : Bool :=
  b.tasks.any fun t => decide (t.num > 15) || decide (t.engine > 3) || t.period == 0 || decide (t.period > 65535) || decide (t.phase ≥ t.period) ||
    decide ((b.tasks.filter fun u => u.num == t.num).length > 1)

/-- The tasks that execute an instruction. -/
def tasksOf (b : ImageBody) (pc : Nat) : List TaskDecl := b.tasks.filter fun t => (instrsFrom b t.entry).contains pc

/-- n of the tasks that execute an instruction with a DURATION constant; 1 where only the priming section does (R120). -/
def durationPeriod (b : ImageBody) (pc : Nat) : Nat := (((tasksOf b pc).head?).map (·.period)).getD 1

/-- Whether tasks of different periods call a subroutine that holds a DURATION constant (R120); `off` is the constant's literal word. -/
def durationClash (b : ImageBody) (off : Nat) : Bool := (tasksOf b (off - 1)).any fun t => t.period != durationPeriod b (off - 1)

/-- Too many tasks or slots, a variable out of place, a DURATION constant in code of different periods (R112, code 15); more than 1024 remote modules, or a station,
slot or module that is none (R299; DESIGN CHOICE, log entry 83: R112 names no verdict for these). -/
def badResources (b : ImageBody) : Bool :=
  decide (b.tasks.length > 16) || ([1, 2, 3].any fun k => decide ((b.symbols.filter fun x => x.kind == k).length > 4096)) || b.vars.any badPlace ||
    b.durations.any (durationClash b) || decide (b.modules.length > 1024) ||
    b.modules.any fun m => decide (m.station > 63) || decide (m.slot > 63) || decide ((b.modules.filter fun o => o.station == m.station && o.slot == m.slot).length > 1)

/-- DURATION constants converted at load: from µs to activations (R120). -/
def loadDurations (tb : Nat) (b : ImageBody) : ImageBody :=
  { b with code := b.durations.foldl (init := b.code) fun c off =>
      let d := (codeAt b off).toNat
      let a := max 1 (max 1 (durationPeriod b (off - 1)) * tb)
      c.set off (word ((d + a - 1) / a)) }

/-! ### CONFIG executed with the Identity block unknown (R115) -/

/-- Whether an address lies in the Identity block. -/
def inIdentity (ad : Nat) : Bool := decide (0x40000000 ≤ ad) && decide (ad < 0x40001000)

/-- Whether a register is CAN_CTRL, CAN_NBT, CAN_DBT or HART_CFG of some port or channel. -/
def isFixedSetting (ad : Nat) : Bool :=
  ((decide (0x40040000 ≤ ad) && decide (ad < 0x40048000)) && decide (ad % 0x4000 < 12)) || (decide (0x400A0000 ≤ ad) && decide (ad < 0x400A0100) && ad % 16 == 0)

/-- What is known of CONFIG as it runs: the context, the registers, words and slots whose values depend on the Identity block, the words written, and
whether it has read what it may not or made a fixed setting depend on the Identity block. -/
structure Scan where
  fy : Fy
  regs : List Nat
  words : List Nat
  slots : List (Nat × Nat)
  written : List Nat
  bad : Bool
  deriving DecidableEq, Repr

/-- Whether a fixed setting may still be stored to from one of these places on. -/
def mayFix (b : ImageBody) (froms : List Nat) : Bool :=
  (reachable b (4 * b.code.length + 4) [] froms).any fun p => majorAt b p == 0x09 && isFixedSetting (litAt b p).toNat

/-- The words that the instruction at the context's place reads, and those it writes; with an `unknown` index, every word that it may. CAN and HART
instructions do nothing in the priming section (R116, R156, R157). -/
def touched (b : ImageBody) (f : Fy) (unknown : Bool) : List Nat × List Nat :=
  let pc := f.act.pc
  let lit := litAt b pc
  let fn := fnAt b pc
  let words (ad n : Nat) : List Nat := (List.range ((n + 3) / 4)).map fun i => ad / 4 * 4 + 4 * i
  let acc := accessOf b pc fn lit
  let ra := rnA (codeAt b pc)
  let ea := if unknown then wordsStored acc true else words (effAddr f.act ra acc) (accessBytes acc)
  let buf := words (lit.bits 23 0) (namedArray b pc (lit.bits 23 0) .word 0#3).bytes
  match majorAt b pc with
  | 0x08 => (ea, [])
  | 0x09 => ([], ea)
  | 0x1E => (buf, if fn / 4 = 2 then buf else [])
  | _ => ([], [])

/-- The registers that a field names. -/
def regsNamed (u : RegUse) (r : Nat) : List Nat :=
  match u with
  | .none => []
  | .any => [r]
  | .pairTo => [r, r + 1]
  | .pairFrom => [r, r + 1]

/-- Whether source A of the instruction at the context's place depends on the Identity block. -/
def unknownA (b : ImageBody) (x : Scan) : Bool :=
  let pc := x.fy.act.pc
  match usesOf (majorAt b pc) (fnAt b pc) with
  | some (_, ua, _) => (regsNamed ua (rnA (codeAt b pc)).toNat).any x.regs.contains
  | Option.none => false

/-- The values of source A for which the instruction at the context's place goes on in different ways, where it depends on the Identity block: both ways
of a branch, every count of a LOOP. -/
def waysOf (b : ImageBody) (x : Scan) : List Nat :=
  let pc := x.fy.act.pc
  if majorAt b pc ≠ 0x0C ∨ !unknownA b x then []
  else
    match fnAt b pc with
    | 1 => [0, 1]
    | 2 => [0, 1]
    | 3 => List.range ((litAt b pc).bits 15 0 + 1)
    | _ => []

/-- One instruction of CONFIG; a CMOV whose condition is known to be false leaves its register what it was. -/
def scanOne (b : ImageBody) (x : Scan) : Scan :=
  let a := x.fy.act
  let pc := a.pc
  let w := codeAt b pc
  let fn := fnAt b pc
  match decodeAt b x.fy, usesOf (majorAt b pc) fn with
  | some (_, step), some (ud, _, ub) =>
    let byA := unknownA b x
    let t := touched b x.fy byA
    let unknown (r : Nat) : Bool := x.regs.contains r
    let byReg := byA || (regsNamed ub (rnB w).toNat).any unknown || (majorAt b pc == 0x12 && decide (fn < 2) && unknown ((litAt b pc).bits 22 16))
    let bySlot := (objectOf b pc).any fun o => x.slots.contains o
    let byWord := t.1.any fun ad => inIdentity ad || x.words.contains ad
    let tainted := byReg || bySlot || byWord
    let badRead := t.1.any fun ad => !(inIdentity ad || inCodeWindow ad || x.written.contains ad)
    let badStore := tainted && t.2.any isFixedSetting
    let branches := majorAt b pc = 0x0C ∧ fn < 4 ∧ byA
    let badBranch := branches && mayFix b (successors b pc ++ a.calls)
    let ds := regsNamed ud (rnD w).toNat
    let idle := (majorAt b pc == 1 || majorAt b pc == 2) && fn == 23 && !byA && a.reg (rnA w) == 0#32
    { fy := step x.fy
      regs := if idle then x.regs else if tainted then ds ++ x.regs else x.regs.filter fun r => !ds.contains r
      words := if tainted then t.2 ++ x.words else x.words.filter fun ad => !t.2.contains ad
      slots := if tainted then (objectOf b pc).toList ++ x.slots else x.slots
      written := if byA then x.written else t.2 ++ x.written
      bad := x.bad || badRead || badStore || badBranch }
  | _, _ => { x with fy := x.fy.upd fun a => { a with done := true } }

/-- CONFIG run to its end, by every way that a value of the Identity block may send it (R115): what the first way leaves, `bad` where any is. -/
def scanRun (b : ImageBody) : Nat → Scan → Scan
  | 0, x => x
  | n + 1, x =>
    if x.fy.act.done || x.bad then x
    else
      match waysOf b x with
      | [] => scanRun b n (scanOne b x)
      | ways =>
        let go (v : Nat) : Scan := scanRun b n (scanOne b { x with fy := x.fy.upd fun a => a.setReg (rnA (codeAt b a.pc)) (word v) })
        let first := go 0
        { first with bad := ways.any fun v => (go v).bad }

/-- The run of CONFIG that the verifier makes, on registers at their Cold values and on the image `code` of `len` bytes. -/
def scanConfig (b : ImageBody) (code : Tab Byte) (len : Nat) : Scan :=
  let snap : Snap := { Snap.empty with fields := declareBlocks b [], code := code, codeLen := len, hartOk := true }
  scanRun b 6000000
    { fy := { act := { Act.start with priming := true, pc := b.configEntry, snap := snap }, slots := Slots.empty }, regs := [], words := [], slots := [], written := []
      bad := false }

/-- The ports that CONFIG enables, with the P and PD of their timing (R93, R284). -/
def ratesOf (x : Scan) : List (Nat × Nat) :=
  let n (k : Nat) : Nat := (getField x.fy.act.snap.fields k).toNat
  ((List.range 2).filter fun p => n (F.canCtrlEnable p) != 0).map fun p =>
    let np := nominalP (n (F.canNbtNbrp p)) (n (F.canNbtNtseg1 p)) (n (F.canNbtNtseg2 p))
    (np, dataPd np (n (F.canDbtDbrp p)) (n (F.canDbtDtseg1 p)) (n (F.canDbtDtseg2 p)))

/-- Whether CONFIG enables HART on a channel (R94). -/
def hartIn (x : Scan) : Bool := (List.range 16).any fun n => getField x.fy.act.snap.fields (F.hartCfgHartEn n) != 0#32

/-- The manifest bound of R93, for an image of base period `tb` with its Modbus and HART allowances. -/
def manifestBound (b : ImageBody) (x : Scan) (tb aMb aHart : Nat) : Nat :=
  832 + 256 + 4 * b.modules.length + 8 * ((ratesOf x).map fun c => 40 * tb / max 1 (min (47 * c.1) (29 * c.1 + 27 * c.2)) + 1).sum + aMb + aHart

end Sys2Proof.Machine
end

