-- ==== Sys2Proof/Machine/Prime.lean ====
section
/-! DEFINITION. Priming: the kind of start, the image and firmware that run, registers and retained state, the priming section, and how a
priming ends (R32, R36, R56, R74 to R81, R93, R114 to R116, R127, R179, R284, R408). -/

namespace Sys2Proof.Machine

/-! ### What the image gives the registers (R93, R99, R107, R186, R316) -/

/-- The registers of the stroke block that the image gives (R107); a task that is present starts enabled. -/
def M.imageStroke (s : M) : M :=
  let b := s.body
  let g := (s.activeSlot.map fun n => s.store.slots.get ImgSlot.empty n).getD ImgSlot.empty
  let tb := s.headerWord 0x0C
  let s := ((s.setN F.stkPeriodTbUs tb).setN F.stkPeriodWUs (tb - 30)).setN F.stkManifestBound (manifestBound b (scanConfig b g.bytes g.total) tb s.aMb s.aHart)
  let s := foldNat 4 s fun s e => (s.setN (F.stkEngBudgetBu e) (150 * (tb - 30))).setN (F.stkEngChargeBu e) (engineCharge b e)
  foldNat 16 s fun s n =>
    match b.tasks.find? fun t => t.num == n with
    | none => [F.stkTaskCfgPresent n, F.stkTaskCfgEnable n, F.stkTaskCfgSliced n, F.stkTaskCfgEngine n, F.stkTaskCfgPeriodN n, F.stkTaskPhasePhase n,
        F.stkTaskCostCostBu n].foldl (init := s) fun s k => s.setN k 0
    | some t =>
      [(F.stkTaskCfgPresent n, 1), (F.stkTaskCfgEnable n, 1), (F.stkTaskCfgSliced n, boolNat t.sliced), (F.stkTaskCfgEngine n, t.engine),
        (F.stkTaskCfgPeriodN n, t.period), (F.stkTaskPhasePhase n, t.phase), (F.stkTaskCostCostBu n, if t.sliced then t.budget else worstOf b t)].foldl (init := s)
        fun s (x : Nat × Nat) => s.setN x.1 x.2

/-- The wiring fields of a declared loop (R186); LOOP_H is K_L × T_B in seconds, in binary32. -/
def M.imageLoop (s : M) (l : LoopDecl) : M :=
  let n := l.block
  let h := realMul (realOfInt (l.period * s.headerWord 0x0C : Nat)) 0x358637BD#32
  let s := ((s.setN (F.loopPeriodPhase n) l.phase).setN (F.loopPeriodKL n) l.period).putReg (loopAddr n 0x08) l.link
  [(F.loopPvAddr n, word l.pv), (F.loopFfAddr n, word l.ff), (F.loopOutAddr n, word l.out), (F.loopSatwAddr n, word l.satw), (F.loopH n, h)].foldl (init := s)
    fun s (x : Nat × Word) => s.set x.1 x.2

/-- The registers of the ring block that the image gives (R10, R316): a declared module starts BAD and STALE, and so does its station; the registers of modules that
are not declared read 0. -/
def M.imageRing (s : M) : M :=
  let ms := s.modules
  let s := { s with fields := s.fields.filter fun e => !(decide (0x40051000 ≤ e.1 / 32) && decide (e.1 / 32 < 0x40059000)) }
  let s := foldNat 64 s fun s n =>
    let mine := ms.filter fun m => m.1.station == n
    match mine.head? with
    | none => (((s.setB (F.rioStnCfgPresent n) false).setN (F.rioStnCfgFirstModule n) 0).setN (F.rioStnCfgModules n) 0).setB (F.rioStnStatAllStale n) false
    | some m => (((s.setB (F.rioStnCfgPresent n) true).setN (F.rioStnCfgFirstModule n) m.2).setN (F.rioStnCfgModules n) mine.length).setB (F.rioStnStatAllStale n) true
  ms.foldl (init := s) fun s m =>
    let n := m.2
    [(F.rioModCfgStation n, m.1.station), (F.rioModCfgSlot n, m.1.slot), (F.rioModCfgInWords n, m.1.inWords), (F.rioModCfgOutWords n, m.1.outWords),
      (F.rioModType n, m.1.code.toNat), (F.rioModInAddr n, if m.1.inWords = 0 then 0 else m.1.inAddr), (F.rioModOutAddr n, if m.1.outWords = 0 then 0 else m.1.outAddr), (F.rioModStatBad n, 1), (F.rioModStatStale n, 1)].foldl (init := s)
      fun s (x : Nat × Nat) => s.setN x.1 x.2

/-- Every register that the running image gives. -/
def M.loadImage (s : M) : M := (s.body.loops.foldl (init := s.imageStroke) M.imageLoop).imageRing

/-- RED_LEASE as the image's T_B and the settings give it (R343, R360), before any renewal. -/
def M.imageLease (s : M) : M :=
  let us := s.leaseStrokes * s.nat F.stkPeriodTbUs
  (s.setN F.redLeaseLease10us (us / 10)).setN F.redLeaseGuard10us ((us + 100) / 10)

/-! ### The kind of start (R74) and the image that runs (R127) -/

/-- The slot that a priming runs, and whether it is a fallback. -/
def M.slotToRun (s : M) : Option (Nat × Bool) :=
  let next := if s.on (F.idImgSlotNext 1) then 1 else 0
  if s.slotState next = 3 then some (next, false) else if s.slotState (1 - next) = 3 then some (1 - next, true) else none

/-- COLD_REASON of R74: the first condition for a warm start that fails; 0 where all hold. -/
def M.coldReason (s : M) (slot : Option Nat) (calOk : Bool) : Nat :=
  if s.aon.coldAsked then 1
  else if s.aon.f3 then 2
  else if s.nat F.modStartFailedWarm ≥ 3 then 3
  else
    match s.saves.newer with
    | none => 4
    | some a =>
      let same := match slot with
        | some n => (s.saves.areas.get Area.empty a).identity == s.identityOf n
        | none => false
      if !same then 5 else if !(!s.store.cal.isEmpty && calOk) then 6 else 0

/-! ### Registers and retained state (R78, R179, R188) -/

/-- Whether a priming keeps a field or takes it from hardware (the Cold and Warm columns); loop blocks are rebuilt whole. -/
def keptField (cold : Bool) (k : Nat) : Bool :=
  decide (k / 32 < 0x50000000) && (fieldsAt (k / 32)).any fun f => f.lo == k % 32 && (if cold then f.coldKept else f.warmKept)

/-- The registers as a start of the given kind leaves them (R10, R78, R82). DESIGN CHOICE (log entry 2): MIN_MARGIN, whose Cold value is hw, starts at the top
of its range, so that the first measurement becomes the lowest since the cold start. -/
def M.startRegs (s : M) (reason : Nat) : M :=
  let cold := reason != 0
  let s := { s with fields := s.fields.filter fun e => keptField cold e.1 }
  let s := (((s.setN F.modStatusMode 1).setN F.modStatusColdReason reason).setB F.modStatusLastStart (!cold)).setN F.modStatusSafeCause
    (if s.on F.modStatusSafeLatched then 7 else 0)
  if cold then (s.set64 F.stkCountLo F.stkCountHi 0).setN F.stkPaceMinMargin 3000
  else foldNat 2 s fun s w => s.setB (F.awStatCalReused w) true

/-- The loop fields of a warm start, from a loop record (R188). -/
def M.loadRecord (s : M) (b : Nat) : M :=
  let at4 (i : Nat) : Word := memWord s.mem (0x00FF0000 + 32 * b + 4 * i)
  let st := at4 0
  let s := (s.setN (F.loopStatusMode b) (st.bits 1 0)).setN (F.loopStatusLatch b) (st.bits 21 20)
  [(F.loopSp b, at4 1), (F.loopUMan b, at4 2), (F.loopI b, at4 3), (F.loopU b, at4 4)].foldl (init := s) fun s (x : Nat × Word) => s.set x.1 x.2

/-- The edge slots of a warm start, from the cistern. -/
def restoredEdges (mem : List Host.Cell) : Tab EdgeSlot :=
  (List.range 4096).map fun i => (i, { prev := bitAt ((memByte mem (0x00FF8000 + i / 8)).setWidth 32) (i % 8), fresh := false })

/-- Step 4 of a warm start (R179): the cistern, PREV_MODE, the loop records and edge slots, and the stroke counter. -/
def M.restore (s : M) : M :=
  match s.saves.newer with
  | none => s
  | some n =>
    let a := s.saves.areas.get Area.empty n
    let last := s.aon.lastStroke
    let s := ({ s with mem := a.cells }.setN F.modPrevPrevMode a.prevMode).set64 F.stkCountLo F.stkCountHi (if last.toNat < a.stroke.toNat then a.stroke else last)
    let s := s.blocks.foldl (init := s) M.loadRecord
    let s := { s with fy := { s.fy with slots := { Slots.empty with edges := restoredEdges s.mem } }, run := { s.run with committed := s.stroke } }
    if a.stroke.toNat < last.toNat then
      { s with saves := { s.saves with older := true } }.hw (ev 0x0040 0x1054 a.stroke.lo.toNat a.stroke.hi.toNat last.lo.toNat last.hi.toNat)
    else s

/-- The units as a priming starts them (R78). -/
def M.startUnits (s : M) (x : PrimingIn) (cold : Bool) : M :=
  let areas := x.areaBad.foldl (init := s.saves.areas) fun t n => t.upd Area.empty n fun a => { a with crcOk := false }
  { s with
    mem := [], run := Run.start, ctl := { Ctl.start with cold := cold, primeAt := s.aon.readyAt.getD s.aon.now }, dw := Dw.start, aio := [], aw := [], hart := [], hartQ := []
    can := [], fifos := [], boxes := [], ring := Ring.start, fy := Fy.empty, net := { Net.start with locked := s.net.locked, failures := s.net.failures, vbus := s.net.vbus }
    red := { Red.start with absent := !s.on F.idStrapsPartnerPresent }, hlt := { Health.start with retriedStart := s.hlt.retriedStart }
    saves := { Saves.factory with areas := areas, seq := s.saves.seq }, store := { s.store with change := none, forwarding := none } }

/-! ### The priming section (R114 to R116) -/

/-- The priming snapshot: registers, memory, and input items, of which the remote ones are STALE (R115). -/
def M.primingSnap (s : M) : Snap :=
  let s := s.cutDw.cutAw
  let c := convertAio s.rawCodes s.fields s.aio
  let m : Manifest := {
    stroke := 0, modeAt := 0, newMode := 0, safeCause := 0, roleEvent := 0, roleAt := 0, changeAt := 0, changeSlot := 0, commands := 0, fields := []
    raw := [], dead := s.deadWellheads, skips := s.skipBits, hostWrites := [], remote := [], can := [], modbus := [], hart := [] }
  let slot := s.activeSlot.map fun n => s.store.slots.get ImgSlot.empty n
  { Snap.empty with
    stroke := s.stroke, fields := c.f, mem := putWords s.mem (wellheadItems s.body.items c.f c.values m ++ s.ringItems)
    code := (slot.map (·.bytes)).getD [], codeLen := (slot.map (·.total)).getD 0, hartOk := decide (s.aHart ≥ 264) }

/-- A part of the priming section run from its entry on FE0. -/
def M.runPart (s : M) (snap : Snap) (entry : Nat) : Act :=
  (runAct s.body [] none 6000000 { act := { Act.start with priming := true, pc := entry, snap := snap }, slots := s.fy.slots } none).1.act

/-- What a part of the priming section wrote, stored (R116); its actions and events, and its words of the cistern (R173), wait for the first commit. INIT works on
what CONFIG has stored there. -/
def M.storePart (s : M) (a : Act) : M :=
  let held := s.run.pend.writes.filter fun (w : Nat × Word) => inSram w.1
  let t := a.writes.foldl (init := { Snap.empty with fields := s.fields, mem := putWords s.mem held, hartOk := decide (s.aHart ≥ 264) }) fun t (w : Nat × Word) => t.storeNow w.1 w.2
  let later := a.writes.filter fun (w : Nat × Word) => w.1 == 0x40010084 || w.1 == 0x40010088
  let home (ad : Nat) : Nat := if inSetAlias ad || inClrAlias ad then aliasTarget ad else ad
  let kept := ((a.writes.map fun (w : Nat × Word) => home w.1).filter fun ad => inSram ad && decide (0x00E00000 ≤ ad)).eraseDups
  let mem := (kept ++ held.map (·.1)).foldl (init := t.mem) fun m ad => memPutWord m ad (memWord s.mem ad)
  let later := later ++ kept.map fun ad => (ad, memWord t.mem ad)
  let es := (a.effects.map fun e => (a.source, e)) ++ a.writes.filterMap fun (w : Nat × Word) => if startsAction w.1 then some (a.source, Effect.regAction w.1 w.2) else none
  { s with fields := t.fields, mem := mem, run := { s.run with pend := { writes := s.run.pend.writes ++ later, effects := s.run.pend.effects ++ es } } }

/-- Step 6 (R56, R76, R114, R284): CONFIG, then the bit timing of the ports, INIT in a cold start, then the enable bits. -/
def M.primingSection (s : M) (cold : Bool) : M :=
  let b := s.body
  let c := s.runPart s.primingSnap b.configEntry
  let s := s.storePart c
  let s := foldNat 2 s fun s p => s.applyTiming s.fields p
  let s := match cold, b.initEntry with
    | true, some e => s.storePart (s.runPart c.snap e)
    | _, _ => s
  let off := [(F.pwrCtrlRopeEn, 2), (F.pwrCtrlDwEn, 3), (F.pwrCtrlAw0En, 4), (F.pwrCtrlAw1En, 5)].filterMap fun (x : Nat × Nat) => if s.on x.1 then none else some x.2
  off.foldl (init := { s with ctl := { s.ctl with leftOff := off } }) fun s t =>
    let s := s.setDomain (targetDomain t) false
    if t = 3 then s.dwDown else s

/-- Step 7 (R78, R200): every declared loop FRESH; in a cold start manual on its initial output, in a warm one an entry to auto first. -/
def M.startLoops (s : M) (cold : Bool) : M :=
  s.blocks.foldl (init := s) fun s b =>
    let s := s.setB (F.loopStatusFresh b) true
    if cold then ((s.setN (F.loopStatusMode b) 0).setN (F.loopStatusLatch b) 1).set (F.loopU b) (s.reg (F.loopInitOut b))
    else s.updLoop b fun h => { h with entry := true }

/-! ### CHANGE_BLOCK (R129, R130) -/

/-- Whether two variables share a word. -/
def varsMeet (v w : VarDecl) : Bool := decide (v.addr < w.addr + 4 * w.words) && decide (w.addr < v.addr + 4 * v.words)

/-- Condition 3 of R130: every symbol in both images has the same address, or the same block or slot index, in both. -/
def sameSymbols (old new : ImageBody) : Bool :=
  (old.vars.all fun v => (new.vars.all fun w => w.sym != v.sym || w.addr == v.addr) && (new.symbols.all fun w => w.sym != v.sym)) &&
    (old.symbols.all fun v => (new.symbols.all fun w => w.sym != v.sym || (w.kind == v.kind && w.index == v.index)) && (new.vars.all fun w => w.sym != v.sym))

/-- Condition 4 of R130: nothing that the active image uses for one symbol serves another in the new one. A variable of the new image lies on words that the
active image does not use, or uses for the same symbol, beside which an array and its members may share them. -/
def noReuse (old new : ImageBody) : Bool :=
  (new.vars.all fun w => old.vars.all fun v => !varsMeet v w ||
    (List.range w.words).all fun i =>
      let ad := w.addr + 4 * i
      let holds (x : VarDecl) : Bool := decide (x.addr ≤ ad) && decide (ad < x.addr + 4 * x.words)
      !holds v || old.vars.any fun o => o.sym == w.sym && holds o) &&
    (old.symbols.all fun v => new.symbols.all fun w => w.sym == v.sym || w.kind != v.kind || w.index != v.index)

/-- A word of the header of a slot's image (R108). -/
def M.slotWord (s : M) (slot off : Nat) : Nat := (memWord (s.store.slots.get ImgSlot.empty slot).bytes off).toNat

/-- CHANGE_BLOCK of a slot against the ACTIVE image (R130): the first condition that fails. -/
def M.changeBlock (s : M) (slot : Nat) : Nat :=
  match s.activeSlot with
  | none => 0
  | some a =>
    let body (n : Nat) := (s.store.slots.get ImgSlot.empty n).body
    if [0x20, 0x24, 0x28, 0x2C].any fun o => s.slotWord slot o != s.slotWord a o then 1
    else if s.slotWord slot 0x0C ≠ s.slotWord a 0x0C then 2
    else if !sameSymbols (body a) (body slot) then 3
    else if !noReuse (body a) (body slot) then 4 else 0

/-- CHANGE_BLOCK of both slots shown, valid only in state ACCEPTED (R129). -/
def M.showBlocks (s : M) : M :=
  foldNat 2 s fun s n => s.setN (F.idImgSlotChangeBlock n) (if s.slotState n = 3 then s.changeBlock n else 0)

/-! ### The end of a priming (R36, R80, R81) -/

/-- A priming that ends in STOP with a start fault that is not retried: outputs at Hi-Z, no strokes (R80). With the partner present it is DETACHED
(R335); without an image, 7, it asks for a join where AUTO_JOIN says so (R352, R403). -/
def M.endInStop (s : M) (fault : Nat) : M :=
  let s := ((s.setN F.modStatusStartFault fault).setN F.modStatusMode 2).endPriming
  if s.red.absent then s
  else { s with red := { s.red with ask := fault == 7 && (s.on F.redCfgAutoJoin || s.aon.joinAgain) } }.roleChange 4 1 0

/-- The firmware of step 3 (R408): the NEXT slot, or the other one where it fails; none where neither may run. -/
def M.firmwareToRun (s : M) (bad : List Nat) : Option (Nat × Bool) :=
  let next := if s.on (F.secFwSlotNext 1) then 1 else 0
  let ok (n : Nat) : Bool := s.nat (F.secFwSlotState n) == 3 && !bad.contains n
  if ok next then some (next, false) else if ok (1 - next) then some (1 - next, true) else none

/-- The firmware slot in use marked (R408, R411, R420). -/
def M.useFirmware (s : M) (n : Nat) (fallback : Bool) : M :=
  let s := foldNat 2 s fun s i => s.setB (F.secFwSlotActive i) (i == n)
  let s := s.set F.idFwVersion (s.reg (F.secFwVersion n))
  if fallback then (foldNat 2 s fun s i => s.setB (F.secFwSlotNext i) (i == n)).hw (ev 0x0011 0x3022) else s

/-- Steps 4 to 8 for an image whose checks passed; a cold start measures the wellheads and stores the calibration record (R76, R78). -/
def M.primeImage (s : M) (slot : Nat) (cold : Bool) : M :=
  let s := foldNat 2 s fun s i => s.setB (F.idImgSlotActive i) (i == slot)
  let s := if cold then { s with store := s.store.writeCal } else s.restore
  let s := (s.loadImage.imageLease.primingSection cold).startLoops cold
  let s := { s with run := { s.run with slots0 := s.fy.slots } }
  let s := foldNat 64 s fun s n => if s.on (F.rioStnCfgPresent n) then s.setStn n 1 else s
  let s := { s with ctl := { s.ctl with step8 := true } }
  s.imageLease.showBlocks.showListen.identAll.startItems

/-- Whether a priming may begin (R50, R80): the rail at 19.2 V or more for 100 ms, the standpipe ready, RESET_n released, no save and no wait under way. -/
def M.mayPrime (s : M) : Bool :=
  s.mode == 0 && s.aon.saving == 0 && !s.aon.resetLow && !s.aon.waiting && s.on F.pwrFeedStandpipeReady && !s.on F.pwrFeedDipActive &&
    (match s.aon.railSince with
    | some t => decide (t + 100000000 ≤ s.aon.now)
    | none => false)

/-- AON hands the events of its queue to the recorder when MEM powers up, before any other event (R435). -/
def M.handEvents (s : M) : M :=
  { s with log := { s.log with queue := s.log.queue ++ s.aon.queue }, aon := { s.aon with queue := [] } }

/-- LOG_LOST counts the events that found AON's queue full, and LOG_QUEUE.PEAK starts at what the queue holds (R385, R435); the corrections of step 2 are not
those of a scrub pass of the run (R170, R182). -/
def M.handedOver (s : M) : M :=
  let s := (s.bump F.logLost 4294967295 s.aon.lost).setN F.logQueuePeak s.log.queue.length
  { s with aon := { s.aon with lost := 0 }, saves := { s.saves with passFixes := 0, passMany := false } }

/-- A SAFE input that reads asserted has been seen since the cold start (R375). -/
def M.seeSafe (s : M) : M :=
  (if s.on F.idStrapsSafeA then s.setB F.hltSafeASeen true else s) |> fun s => if s.on F.idStrapsSafeB then s.setB F.hltSafeBSeen true else s

/-- PRIMING (R76): the steps up to the bucket step, in which the module then waits. The registers take their Cold or Warm values after step 2, whose corrections
they therefore do not count (R10, R182). DESIGN CHOICE (log entry 20): a cold request of the host is used up by the
priming that it makes cold, also where that priming fails or is interrupted. -/
def priming (x : PrimingIn) (s : M) : M :=
  let s := s.at x.now
  if !s.mayPrime then s
  else
    let s := (s.setN F.idStrapsStationAddr (x.station % 64)).setB F.idStrapsSlot x.slotB
    let run : Option (Nat × Bool) := s.slotToRun
    let bad := x.areaBad.foldl (init := s.saves) fun v n => { v with areas := v.areas.upd Area.empty n fun a => { a with crcOk := false } }
    let reason := { s with saves := bad }.coldReason (run.map Prod.fst) x.calOk
    let cold := reason != 0
    let s := (((s.startUnits x cold).set F.pwrDomainOn 0x1FF#32).handEvents.corrected x.sramFixed x.mramFixed).startRegs reason |>.dwPower.showUsb
    let s := s.handedOver.seeSafe.startItems
    let s := (s.readAlm 0).readAlm 1
    let s := { s with aon := { s.aon with coldAsked := false, readyAt := none } }.showSaves
    if !x.sramOk then s.failPriming 1
    else if x.mramBad then s.failStop (ev 0x0040 0x7052) 7
    else
      match s.firmwareToRun x.fwBad with
      | none => s.failPriming 2
      | some (fw, back) =>
        let s := s.useFirmware fw back
        match run with
        | none => s.endInStop 7
        | some (slot, fell) =>
          let s := if fell then s.hw (ev 0x0011 0x3021) else s
          if x.imageBad then s.failPriming 3 else s.primeImage slot cold

/-- PRIMING_TIMEOUT (R77, R80): not before 5 s cold, 350 ms warm; the waiting and the state transfer of step 8 are not counted. -/
def primingTimeout (s : M) : M :=
  if s.mode = 1 ∧ s.role ≠ 3 then (s.at (s.ctl.primeAt + if s.ctl.cold then 5000000000 else 350000000)).failPriming 4 else s

/-- PRIMING_RETRY (R80, R362): the 100 ms in RESET are over. -/
def primingRetry (s : M) : M := { s with aon := { s.aon with waiting := false } }

/-! ### What the commands do -/

/-- PRIMING (R76). -/
def execPriming (x : PrimingIn) (s : State) : Host.Outcome State Fault Refusal := runM (priming x) s

/-- PRIMING_TIMEOUT (R77). -/
def execPrimingTimeout (s : State) : Host.Outcome State Fault Refusal := runM primingTimeout s

/-- PRIMING_RETRY (R80). -/
def execPrimingRetry (s : State) : Host.Outcome State Fault Refusal := runM primingRetry s

end Sys2Proof.Machine
end

