-- ==== Sys2Proof/Machine/Change.lean ====
section
/-! DEFINITION. The activation of an online change (R132, R133, R314). -/

namespace Sys2Proof.Machine

/-- The writes that the CONFIG of a slot's image makes: of the new image, its change copies (R132). -/
def M.changeCopies (s : M) (slot : Nat) : List (Nat × Word) :=
  let g := s.store.slots.get ImgSlot.empty slot
  let snap : Snap := { Snap.empty with stroke := s.stroke, fields := declareBlocks g.body s.fields, mem := s.mem, code := g.bytes, codeLen := g.total
                                       hartOk := decide ((memWord g.bytes 0x14).toNat ≥ 264) }
  let a := { Act.start with priming := true, pc := g.body.configEntry, snap := snap }
  (runAct g.body [] none 6000000 { act := a, slots := Slots.empty } none).1.act.writes

/-- Whether an address lies in a variable of an image. -/
def usesWord (b : ImageBody) (a : Nat) : Bool := b.vars.any fun v => decide (v.addr ≤ a) && decide (a < v.addr + 4 * v.words)

/-- The declared index of a remote module that both images have, with the same slot, sizes and type (R314). -/
def keptModule (old : ImageBody) (m : ModuleDecl) : Option Nat :=
  (old.modules.zipIdx.find? fun o => o.1.station == m.station && o.1.slot == m.slot && o.1.inWords == m.inWords && o.1.outWords == m.outWords && o.1.code == m.code).map
    (·.2)

/-- The ring at an activation (R314): kept modules carry their records and held words to their new index; stations removed are told so. -/
def M.changeRing (s : M) (old new : ImageBody) : M :=
  let mods := s.ring.mods
  let held := s.ctl.held
  let stations := (List.range 64).filter fun n => old.modules.any fun m => m.station == n
  let s := (stations.filter fun n => !(new.modules.any fun m => m.station == n)).foldl (init := s) M.removeStn
  { s with
    ring := { s.ring with mods := new.modules.zipIdx.foldl (init := []) fun t m => match keptModule old m.1 with
      | some i => t.set RioMod.start m.2 (mods.get RioMod.start i)
      | none => t }
    ctl := { s.ctl with held := new.modules.zipIdx.foldl (init := []) fun t m => match keptModule old m.1 with
      | some i => (List.range 64).foldl (init := t) fun t w => t.set 0#32 (64 * m.2 + w) (held.get 0#32 (64 * i + w))
      | none => t } }

/-- The registers of the ring that an activation carries over from `was` (R132, R313, R314): a kept module's settings, AGE and flags, to its new index, and
ALL_STALE of a station that both images have. -/
def M.keepRing (s : M) (old new : ImageBody) (was : Tab Word) : M :=
  let s := new.modules.zipIdx.foldl (init := s) fun s m =>
    match keptModule old m.1 with
    | some i =>
      [F.rioModCfgSafeAct, F.rioModCfgStopAct, F.rioModCfgSubstReq, F.rioModStatAge, F.rioModStatMismatch, F.rioModStatSubstitute, F.rioModStatFault,
        F.rioModStatBad, F.rioModStatStale].foldl (init := s) fun s (k : Nat → Nat) => s.set (k m.2) (getField was (k i))
    | none => s
  foldNat 64 s fun s n =>
    if getField was (F.rioStnCfgPresent n) != 0#32 && s.on (F.rioStnCfgPresent n) then s.set (F.rioStnStatAllStale n) (getField was (F.rioStnStatAllStale n)) else s

/-- Stations whose declared modules the new image changes are searched for afresh (R314). -/
def M.searchChanged (s : M) (old new : ImageBody) : M :=
  foldNat 64 s fun s n =>
    let o := old.modules.filter fun m => m.station == n
    let w := new.modules.filter fun m => m.station == n
    if !w.isEmpty && (o.length != w.length || w.any fun m => (keptModule old m).isNone) then s.searchStn n else s

/-- Slots that the new image adds start afresh (R133). -/
def changeSlots (old new : ImageBody) (s : Slots) : Slots :=
  let added (k : Nat) : List Nat :=
    (new.symbols.filter fun x => x.kind == k && !(old.symbols.any fun o => o.kind == k && o.sym == x.sym)).map (·.index)
  { edges := (added 1).foldl (init := s.edges) fun t n => t.erase n
    timers := (added 2).foldl (init := s.timers) fun t n => t.erase n
    counters := (added 3).foldl (init := s.counters) fun t n => t.erase n
    streams := (added 4).foldl (init := s.streams) fun t n => t.erase n }

/-- The analog output that an address names, if any. -/
def aioOutOf (ad : Nat) : Option Nat :=
  if 0x40020018 ≤ ad ∧ ad < 0x40020200 ∧ ad % 0x20 = 0x18 then some ((ad - 0x40020018) / 0x20) else none

/-- The destinations of an image's loops and low-select groups. -/
def destinations (b : ImageBody) : List Nat :=
  (b.loops.filterMap fun l => if bitAt l.link 31 then some l.out else none) ++ b.groups.map fun (g : Nat × Nat × Nat) => g.2.2

/-- Output channels that stand on their stop values: 0 to 15 analog, 16 to 47 digital. The value held is the present one. -/
def M.orphan (s : M) (ns : List Nat) : M :=
  let s := ns.foldl (init := s) fun s n =>
    if n < 16 then s.updAio n fun c => { c with hold := s.aioCommitted n }
    else { s with dw := { s.dw with hold := putBit s.dw.hold (n - 16) (bitAt s.dw.out (n - 16)) } }
  { s with ctl := { s.ctl with orphans := (s.ctl.orphans.filter fun n => !ns.contains n) ++ ns } }

/-- The outputs of loops and groups that the new image removes go to their stop values (R133): an analog output by STOP_ACT, a word of a remote module's
output array by that module's. -/
def M.orphanLoops (s : M) (old new : ImageBody) : M :=
  let gone := (destinations old).filter fun a => !(destinations new).contains a
  let back := (destinations new).filterMap aioOutOf
  let s := { s with ctl := { s.ctl with orphans := s.ctl.orphans.filter fun n => !back.contains n } }
  let s := s.orphan (gone.filterMap aioOutOf)
  new.modules.zipIdx.foldl (init := s) fun s m =>
    if s.nat (F.rioModCfgStopAct m.2) ≠ 0 then s
    else
      { s with mem := (gone.filter fun a => decide (m.1.outAddr ≤ a) && decide (a < m.1.outAddr + 4 * m.1.outWords)).foldl (init := s.mem) fun t a => memPutWord t a 0#32 }

/-- Output channels that the old image's CONFIG configures and the new image's does not (R133), numbered as in `M.orphan`. -/
def unconfigured (old new : List (Nat × Word)) : List Nat :=
  let cfg (n : Nat) : Nat := (if n < 16 then F.aioCfgFunc n else F.dioCfgDir (n - 16)) / 32
  (List.range 48).filter fun n => old.any (fun w => w.1 == cfg n) && !new.any fun w => w.1 == cfg n

/-- A loop that the new image adds: manual on the held value, which is the value committed on its output, or INIT_OUT where none is driven
(R133). -/
def M.newLoop (s : M) (was : Tab Word) (old : ImageBody) (l : LoopDecl) : M :=
  let n := l.block
  let driven := bitAt l.link 31 && match aioOutOf l.out with
    | some c => getField was (F.aioCfgFunc c) == 3#32
    | none => usesWord old l.out || old.loops.any fun o => bitAt o.link 31 && o.out == l.out
  let u := if driven then (match aioOutOf l.out with
    | some c => getField was (F.aioOut c)
    | none => memWord s.mem l.out) else s.reg (F.loopInitOut n)
  let s := ((s.setN (F.loopStatusMode n) 0).setN (F.loopStatusLatch n) 2).setB (F.loopStatusFresh n) true
  s.set (F.loopU n) u

/-- HART transactions of tasks that the new image does not have, those that wait for the channel among them: they complete on the line, and their results
are discarded (R133). -/
def M.changeHart (s : M) (old new : ImageBody) : M :=
  let gone (t : HartTx) : Bool := (old.tasks.any fun x => x.num == t.task) && !(new.tasks.any fun x => x.num == t.task)
  let drop (t : HartTx) : HartTx := if gone t then { t with pass := some none } else t
  foldNat 16 s fun s n =>
    let mine := (s.hartGet n).tx.any gone
    let s := s.updHart n fun c => { c with tx := c.tx.map drop, next := c.next.map drop }
    if mine then s.hresTaken n else s

/-- The ports at an activation (R133, R284, R297). -/
def M.changeCan (s : M) : M :=
  foldNat 2 s fun s p =>
    let was := s.canEnabled p
    let s := s.applyTiming s.fields p
    if was && !s.canEnabled p then
      let s := s.dropTx [] p true
      let s := { s with fifos := (s.fifos.set [] (fifoKey p 0) []).set [] (fifoKey p 1) []
                        boxes := (List.range 128).foldl (init := s.boxes) fun t b => t.set none (boxKey p b) none }
      (s.updPort p fun c => { c with store := [] }).showCan
    else s

/-- The swap at S of stroke a (R132, R133): the change copies replace the settings, ACTIVE and NEXT move, and every piece of work in flight
fares as R133 states. DESIGN CHOICE (log entry 85): R132 gives change copies to SYS settings and loop configuration fields and says nothing of a data SRAM
word that the new image's CONFIG writes; such a word takes the CONFIG value at stroke a where no variable of the old image holds it, over a declared initial
value of a new variable, and keeps its live value otherwise. DESIGN CHOICE (log entry 86): a CONFIG store of the new image to LOOP_SP or LOOP_U_MAN of a loop
that both images have replaces the field (R132), and so its setpoint target (R133). -/
def M.activate (s : M) (slot : Nat) : M :=
  let was := s.fields
  let old := s.body
  let new := (s.store.slots.get ImgSlot.empty slot).body
  let copies := s.changeCopies slot
  let gone := unconfigured ((s.activeSlot.map s.changeCopies).getD []) copies
  let s := (s.endRuns 13).stopTasks
  let s := s.changeRing old new
  let s := foldNat 2 s fun s i => (s.setB (F.idImgSlotActive i) (i == slot)).setB (F.idImgSlotNext i) (i == slot)
  let s := { s with fields := s.fields.filter fun e => !(old.loops.any fun l => decide (e.1 / 8192 = loopAddr l.block 0 / 256) && !s.declared l.block) }
  let s := s.loadImage.keepRing old new was
  let s := foldNat 16 s fun s n =>
    if getField was (F.stkTaskCfgPresent n) != 0#32 && s.on (F.stkTaskCfgPresent n) then s.set (F.stkTaskCfgEnable n) (getField was (F.stkTaskCfgEnable n)) else s
  let s := { s with mem := putWords s.mem (newValues old new) }
  let s := copies.foldl (init := s) fun s (w : Nat × Word) =>
    if inSram w.1 then (if usesWord old w.1 then s else { s with mem := memPutWord s.mem w.1 w.2 })
    else { s with fields := writeReg (decide (s.aHart ≥ 264)) s.fields w.1 w.2 }
  let s := (s.orphanLoops old new).orphan gone
  let added := new.loops.filter fun l => !(old.loops.any fun o => o.block == l.block)
  let s := added.foldl (init := s) fun s l => s.newLoop was old l
  let s := { s with
    fy := { s.fy with slots := changeSlots old new s.fy.slots }
    run := { s.run with loopHid := s.run.loopHid.filter fun e => new.loops.any fun l => l.block == e.1 }
    store := { s.store with change := none }, saves := { s.saves with asked := true } }
  let s := ((s.searchChanged old new).changeHart old new).changeCan
  let s := { s with run := { s.run with slots0 := s.fy.slots } }
  let s := (((((s.passDw was).commitAw was false).showPorts).commitHart was false).commitMb was).commitTime was
  let s := ((s.setN F.idImgChangePending 0).setN F.idImgChangeStatus 0).setN F.idImgChangeStrokesLeft 0
  let s := s.showBlocks
  if s.red.joining then
    if s.role = 3 then (s.abortJoin 4 0).coldAgain else (s.abortJoin 4 0).toRole 4 11
  else s.judgeLanes

/-- The change that falls due at S of stroke k1. -/
def M.boundaryChange (s : M) (k1 : DWord) : M :=
  match s.store.change with
  | none => s
  | some c => if c.stroke.toNat ≤ k1.toNat then s.activate c.slot else s

end Sys2Proof.Machine
end

