-- ==== Sys2Proof/Machine/Rope.lean ====
section
/-! DEFINITION. The frames of the rope: their layout, the payload of each type, and the manifest as it is coded (R338 to R342). -/

namespace Sys2Proof.Machine

/-! ### Frames (R339, R340) -/

/-- A rope frame between its start and end symbols (R339): header, payload, CRC-32C over both. -/
def ropeFrame (type frag seq : Nat) (stroke : DWord) (payload : List Byte) : List Byte :=
  let b := [BitVec.ofNat 8 type, BitVec.ofNat 8 frag] ++ bytesLE 2 payload.length ++ bytesLE 4 seq ++ bytesLE 8 stroke.toNat ++ payload
  b ++ bytesLE 4 (crcOf .crc32c b)

/-- Bytes in pieces of at most `n`; the first argument bounds their number. -/
def piecesOf (n : Nat) : Nat → List Byte → List (List Byte)
  | 0, _ => []
  | k + 1, bs => if bs.length ≤ n then [bs] else bs.take n :: piecesOf n k (bs.drop n)

/-- The 48 bytes of STATUS (R341). -/
def statusBytes (x : RopeStatus) : List Byte :=
  [BitVec.ofNat 8 (x.role % 8 + 8 * boolNat x.holds + 16 * boolNat x.safeDriver + 32 * boolNat x.armed), BitVec.ofNat 8 x.mode, BitVec.ofNat 8 x.priming,
    BitVec.ofNat 8 (x.station % 64 + 64 * boolNat x.slotB)] ++ bytesLE 2 x.ropeVersion ++ bytesLE 2 0 ++ bytesLE 4 x.firmware ++ bytesLE 8 x.imageId ++
    bytesLE 4 x.ack ++ [BitVec.ofNat 8 (boolNat x.safeA + 2 * boolNat x.safeB),
      BitVec.ofNat 8 (boolNat x.joinReq + 2 * boolNat x.joinAccept + 4 * boolNat x.joinRefuse + 8 * x.refusal)] ++ bytesLE 6 0 ++ bytesLE 8 x.wall.toNat ++ bytesLE 8 0

/-- The words of a CAN frame's identity: identifier, IDE and port; CRC field (R340, R342). -/
def canWords (port : Nat) (f : CanFrame) : Nat × Nat :=
  (f.ident % 536870912 + 536870912 * boolNat f.ide + 1073741824 * port, Config.canCrc f.ide f.ident f.fdf f.brs f.esi f.data % 2097152)

/-- A message of a forwarded host command or its reply in the layout of R331. DESIGN CHOICE (log entry 95): TAG carries the principal of the command, for which
the layout has no place of its own. -/
def commandBytes (code flags tag status : Nat) : List Byte :=
  bytesLE 4 16 ++ bytesLE 2 code ++ bytesLE 2 flags ++ bytesLE 4 tag ++ bytesLE 2 status ++ bytesLE 2 0

/-! ### The manifest (R342) -/

/-- A remote module's entry. -/
def remoteEntry (e : Nat × Bool × Nat) : List Byte := bytesLE 4 (e.1 % 1024 + 1024 * boolNat e.2.1 + 65536 * (e.2.2 % 65536))

/-- A CAN reception's entry. -/
def canEntryBytes (e : CanEntry) : List Byte :=
  let w := canWords e.port e.frame
  bytesLE 4 w.1 ++ bytesLE 4 (w.2 + 2097152 * e.route + 16777216 * e.mailbox)

/-- Bits as bytes, bit 0 first. -/
def packBits (bs : List Nat) : List Byte :=
  (List.range ((bs.length + 7) / 8)).map fun i => BitVec.ofNat 8 ((List.range 8).map fun j => (bs.getD (8 * i + j) 0 % 2) * 2 ^ j).sum

/-- A Modbus write's entry (R322). DESIGN CHOICE (log entry 95): within the first word the function code stands in [7:0], the connection in [15:8] and the quantity
in [31:16]. -/
def modbusEntry (w : MbWrite) : List Byte :=
  let data := if mbBits w.fn then packBits w.values else w.values.flatMap fun v => bytesLE 2 v
  bytesLE 4 (w.fn % 256 + 256 * (w.conn % 256) + 65536 * w.values.length) ++ bytesLE 4 w.start ++ data ++ List.replicate ((4 - data.length % 4) % 4) 0#8

/-- A HART entry: the layout of the HREQ buffer for a pass-through request and of the HRES buffer for the others, with channel and kind in byte 6. -/
def hartEntryBytes (e : HartEntry) : List Byte :=
  let f := e.frame
  let b := if e.kind = 3 then bytesLE 2 f.command ++ [BitVec.ofNat 8 f.data.length, 0, 0, 0]
    else bytesLE 2 f.command ++ [BitVec.ofNat 8 f.data.length, BitVec.ofNat 8 e.outcome, f.respCode, f.devStatus]
  b ++ [BitVec.ofNat 8 (e.chan % 16 + 16 * e.kind), 0] ++ f.data

/-- The host writes of a manifest. -/
def hostEntries (m : Manifest) : List Byte := m.hostWrites.flatMap fun e => bytesLE 4 e.1.toNat ++ bytesLE 4 e.2.toNat

/-- The sections of a manifest after its local field values, in order. -/
def manifestSections (m : Manifest) : List (List Byte) :=
  [hostEntries m, m.remote.flatMap remoteEntry, m.can.flatMap canEntryBytes, m.modbus.flatMap modbusEntry, m.hart.flatMap hartEntryBytes]

/-- The 64 bytes of a manifest's header. -/
def manifestHeader (m : Manifest) : List Byte :=
  bytesLE 8 m.stroke.toNat ++ bytesLE 8 m.modeAt.toNat ++
    [BitVec.ofNat 8 m.newMode, BitVec.ofNat 8 m.inputs, BitVec.ofNat 8 m.safeCause, BitVec.ofNat 8 m.roleEvent] ++ bytesLE 4 0 ++
    bytesLE 8 m.changeAt.toNat ++ bytesLE 8 m.roleAt.toNat ++ ((manifestSections m).flatMap fun x => bytesLE 2 x.length) ++ bytesLE 2 m.commands ++ bytesLE 12 0

/-- The 768 bytes of a manifest's local field values, whose format within a part the spec leaves to the firmware; the last 16 are reserved. -/
def manifestLocal (m : Manifest) : List Byte :=
  let b := Config.localFormat m.fields m.raw m.dead m.skips
  (List.range 752).map (fun i => b.getD i 0#8) ++ List.replicate 16 0#8

/-- A manifest as MANIFEST frames carry it. -/
def manifestWire (m : Manifest) : List Byte := manifestHeader m ++ manifestLocal m ++ (manifestSections m).flatten

/-! ### What leaves over the rope -/

/-- The frames in which something leaves over the rope: type and payloads, fragments of one payload for a manifest; the frames of trust material, of commit
records and of the parts of the state space that have no page number of their own carry what the spec gives no layout for, and have no payload here. -/
def Out.rope : Out → Option (Nat × List (List Byte))
  | .status x => some (0x01, [statusBytes x])
  | .manifest m => some (0x02, piecesOf 2048 16 (manifestWire m))
  | .notice p f =>
    let w := canWords p f
    some (0x03, [bytesLE 4 w.1 ++ bytesLE 4 w.2 ++ bytesLE 4 f.stamp.toNat])
  | .digest d ok a b pace => some (0x04, [bytesLE 8 d.toNat ++ bytesLE 4 (boolNat ok + 2 * boolNat a + 4 * boolNat b + 8 * boolNat pace) ++ bytesLE 4 0])
  | .transfer _ (.page n bs) => some (0x05, [bytesLE 4 n ++ bs])
  | .transfer _ _ => some (0x05, [[]])
  | .catchup c => some (0x06, [bytesLE 8 c.toNat])
  | .image total bytes =>
    some (0x07, (List.range ((total + 2043) / 2044)).map fun i =>
      bytesLE 4 (2044 * i) ++ (List.range (min 2044 (total - 2044 * i))).map fun j => bytes.get 0#8 (2044 * i + j))
  | .adopt i c d => some (0x07, (i ++ c ++ d).map fun _ => [])
  | .forward code p => some (0x08, [commandBytes code 0 p.toNat 0])
  | .ropeReply code st => some (0x08, [commandBytes code 1 0 st])
  | .handover => some (0x09, [bytesLE 4 1 ++ bytesLE 4 0])
  | .selftest pass => some (0x09, [bytesLE 4 (if pass then 2 else 3) ++ bytesLE 4 0])
  | _ => none

/-- The frames of what leaves, byte for byte, from the sender's frame counter and the stroke to which they belong. -/
def Out.frames (o : Out) (seq : Nat) (stroke : DWord) : List (List Byte) :=
  match o.rope with
  | none => []
  | some (type, ps) => ps.zipIdx.map fun p =>
    ropeFrame type (if type = 2 then 16 * (ps.length - 1) + p.2 else 0) ((seq + p.2) % 4294967296) stroke p.1

end Sys2Proof.Machine
end

