-- ==== Sys2Proof/Machine/Pair.lean ====
section
/-! DEFINITION. The pair: the rope's state, the bucket, arming and takeover, joins and divergence (chapter 18, R36, R362, R372, R376). -/

namespace Sys2Proof.Machine

/-! ### Fail-stop with what the field sees (R362) -/

/-- An F3 fault: fail-stop; where it leads to SAFE, the values of the last commit are held, runs end, and the wellheads go to their SAFE rows at
once (R71, R362, R434). -/
def M.f3 (s : M) (e : Event) (item : Nat) : M :=
  let was := s.mode
  let t := (if 2 ≤ was ∧ was ≠ 5 then s.holdAll false else s).failStop e item
  if 2 ≤ was ∧ was ≠ 5 ∧ t.mode = 5 then ((t.modeLoops was).passDw t.fields).commitAw t.fields false else t

/-- A double-bit error in a storage word of data SRAM (R169): the start fault SRAM_FAULT in PRIMING, otherwise an F3 fault. -/
def M.sramDouble (s : M) (addr : Nat) : M :=
  if s.mode = 1 then (s.hw (ev 0x0040 0x7051 addr)).failPriming 1 else s.f3 (ev 0x0040 0x7051 addr) 6

/-- The data SRAM words that reads at the given addresses reach (R91, R117). -/
def sramHomes (ads : List Nat) : List Nat :=
  ads.filterMap fun a => if inSram a then some a else if inSetAlias a || inClrAlias a then some (aliasTarget a) else none

/-- What reads at the given addresses find wrong in the storage words that they reach (R168, R169); what is named elsewhere is none of theirs. -/
def eccWithin (x : EccFound) (ads : List Nat) : EccFound :=
  let reached (a : Nat) : Bool := (sramHomes ads).any fun h => h / 8 == a / 8
  { fixed := x.fixed.filter reached, bad := x.bad.filter reached }

/-- Single-bit errors corrected, or the reaction to a double-bit error, with which nothing is delivered (R168, R169). -/
def M.sramFound (s : M) (x : EccFound) : M :=
  match x.bad with
  | some a => s.sramDouble (a / 8 * 8)
  | none => x.fixed.foldl M.sramCorrected s

/-! ### The rope (R338, R339) -/

/-- Whether the rope is UP and does not count as lost. -/
def M.ropeUp (s : M) : Bool := s.nat F.redStatusRope == 1 && !s.red.lost && s.domainOn 5

/-- A join request (R352): JOIN_REQ set in STATUS. -/
def M.askJoin (s : M) : M :=
  { s with red := { s.red with joinAsked := true, ask := false, refusal := 0 }, aon := { s.aon with joinAgain := false } }.emit (.join true 0)

/-- Whether a module asks for a join without a host command: by AUTO_JOIN, or again after a priming that brought it the image of the pair (R352). -/
def M.joinsItself (s : M) : Bool := s.on F.redCfgAutoJoin || s.aon.joinAgain

/-- The request that a module makes by itself after a priming, at once or when the rope is UP (R352), unless one made in the bucket step has been refused. -/
def M.autoJoin (s : M) : M :=
  if s.joinsItself && s.role == 4 && !s.holds && !s.red.noJoin && s.red.refusal == 0 then
    if s.ropeUp then s.askJoin else { s with red := { s.red with ask := true } }
  else { s with red := { s.red with ask := false } }

/-- LANES and ROPE after a change of a lane (R338): 0 DOWN, 1 UP, 2 DEGRADED. -/
def M.setLanes (s : M) (lanes : Nat) : M :=
  let st := if lanes = 3 then 1 else if lanes = 0 then 0 else 2
  let s := (s.setN F.redStatusLanes lanes).setN F.redStatusRope st
  let first := decide (st = 1) && !s.red.everUp
  let s := { s with red := { s.red with laneLost := decide (st = 2), everUp := s.red.everUp || first, lost := s.red.lost && !first } }
  let s := if first && s.red.ask then s.autoJoin else s
  if st = 0 then s.loseRope else s.judgeLanes

/-- A lane's bit in LANES. -/
def laneBit (lane : Nat) : Nat := if lane = 0 then 1 else 2

/-- ROPE_LANE_UP (R338): a lane has received 64 consecutive valid idle sets. -/
def ropeLaneUp (lane : Nat) (s : M) : M :=
  if s.domainOn 5 && s.mode != 0 then s.setLanes (s.nat F.redStatusLanes ||| laneBit lane) else s

/-- ROPE_LANE_LOST (R338): F1; without any lane the rope is lost. -/
def ropeLaneLost (lane : Nat) (s : M) : M :=
  let was := s.nat F.redStatusLanes
  if s.domainOn 5 && s.mode != 0 && (was &&& laneBit lane) != 0 then
    (s.setLanes (was - laneBit lane)).hw (ev 0x0050 0x3061)
  else s

/-- ROPE_LOST (R338, R365): no STATUS for 30 µs, or the link DOWN; `long` says that the rope has now not been UP for 1 s, after which ROPE is
restarted where the partner is present. -/
def ropeLost (long : Bool) (s : M) : M :=
  if s.mode = 0 ∨ !s.domainOn 5 then s
  else
    let s := if s.red.everUp then s.loseRope else s
    if long && s.nat F.redStatusRope != 1 && s.on F.idStrapsPartnerPresent then
      let t := s.autoRestart 2
      if t.restarting 2 && !s.restarting 2 then (t.setN F.redStatusLanes 0).setN F.redStatusRope 0 else t
    else s

/-- ROPE_RESTORED (R338): UP without a break for 10 ms. -/
def ropeRestored (s : M) : M :=
  if s.mode != 0 && s.domainOn 5 && s.nat F.redStatusRope == 1 then
    let s := { s with red := { s.red with lost := false } }.unlatch 25
    if s.red.ask then s.autoJoin else s
  else s

/-- ROPE_CRC_ERROR (R339, R340): a frame discarded; `lost` frames are missing in the SEQ of those received. -/
def ropeCrcError (lost : Nat) (s : M) : M :=
  if s.mode != 0 && s.domainOn 5 then (s.bump F.redRopeCrcErrors 65535 1).bump F.redRopeFramesLost 65535 lost else s

/-- TICK_MARKER (R338): its distance in ns from the module's own tick and the steering that follows, in 0.01 ppm; a shadow module more than 1 µs
away at 3 consecutive ticks has lost the tick. -/
def tickMarker (offset adj : Int) (s : M) : M :=
  if s.role ≠ 2 ∧ s.role ≠ 3 then s
  else
    let s := s.set F.stkTimebaseFreqAdj (BitVec.ofInt 32 (max (-5000) (min 5000 adj)) &&& 0xFFFF#32)
    let far := decide (offset > 1000) || decide (offset < -1000)
    let s := { s with red := { s.red with tickMiss := if far then s.red.tickMiss + 1 else 0 } }
    if s.role = 2 ∧ s.red.tickMiss ≥ 3 then
      let s := { s with red := { s.red with tickMiss := 0 } }
      if s.holds then s.toRole 4 5 else s.leaveArmed 4 5
    else s

/-! ### The bucket step and the takes of R347 -/

/-- The bucket step decided (R76): the role, the first commit at the next tick. -/
def M.leaveStep8 (s : M) (role : Nat) : M :=
  let s := { s with ctl := { s.ctl with step8 := false, primed := true, firstCommit := true }, red := { s.red with joinAsked := false } }
  if role = s.role then s.setN F.redStatusLastCause 1 else s.roleChange role 1 0

/-- Rows 1, 2 and 4 of R347; `twice` says that the line has been released for twice the guard time, `signal` that a rope receive lane has shown a
signal meanwhile. -/
def M.takeInPriming (s : M) (twice signal : Bool) : M :=
  let slotB := s.on F.idStrapsSlot
  if s.red.absent then s.take.leaveStep8 0
  else if !slotB then s.take.leaveStep8 4
  else if s.ropeUp then
    if twice && (s.red.partner.map (·.priming)) == some 2 then s.take.leaveStep8 4 else s
  else if !s.on F.pwrCtrlRopeEn then s
  else if signal then (s.f2 (ev 0x0050 0x5063) 25 0).leaveStep8 4
  else if twice then s.take.leaveStep8 4 else s

/-- Row 5 of R347: an armed module takes; the first tick after it resumes (R349). -/
def M.takeArmed (s : M) : M :=
  let s := ((s.arm false).take).bump F.redCntSwitchovers 255 1
  { s with red := { s.red with wantBucket := 5 } }

/-- BUCKET_TAKE (R345, R347): BUCKET_n has read released for the guard time. Rows 7 and 8 lead to STOP, unless a change to SAFE is announced (R66). -/
def bucketTake (twice signal : Bool) (s : M) : M :=
  if s.mode = 0 ∨ s.holds ∨ s.on F.idStrapsBucketLine then s
  else if s.ctl.step8 then s.takeInPriming twice signal
  else if s.mode = 1 then s
  else if s.on F.redStatusArmed then (if s.red.guarding then s.takeArmed else s)
  else if s.mode = 5 ∨ !s.ctl.primed then s
  else
    match s.red.wantBucket with
    | 1 => s.take
    | 7 | 8 =>
      let s := s.take
      if s.mode = 2 then s
      else
        match s.ctl.nextMode with
        | some (_, 5, _) => s
        | _ => { s with ctl := { s.ctl with nextMode := some (s.stroke + 1#64, 2, 0) } }
    | _ => s

/-- BUCKET_STUCK (R347 row 1): priming ends in STOP without the bucket, which is taken later. -/
def bucketStuck (s : M) : M :=
  if s.ctl.step8 && s.red.absent then
    let s := (s.hw (ev 0x0050 0x5064)).leaveStep8 0
    let mode := match s.ctl.nextMode with
      | some x => some x
      | none => some (0#64, 2, 0)
    { s with red := { s.red with wantBucket := 1 }, ctl := { s.ctl with nextMode := mode } }
  else s

/-! ### Arming (R348) -/

/-- A module disarms: a DETACHED non-holder on its own snapshots (R348). -/
def M.disarm (s : M) : M := (s.arm false).toRole 4 12

/-- The new lead module takes the bucket in a handover and drives the committed values (R350 step 2 and 3); its ports only listen until its first commit as
holder (R293). -/
def M.takeOver (s : M) : M :=
  let s := { s with red := { s.red with release := false } }
  s.take.passOn s.fields id

/-- BUCKET_LINE_CHANGE (R345, R348, R350): a held reading interrupts a guard measurement, after the window it disarms; a released one begins a
measurement, or completes a handover whose release frame has come. -/
def bucketLineChange (held : Bool) (s : M) : M :=
  let was := s.red.guarding
  let armed := s.on F.redStatusArmed
  let s := s.setB F.idStrapsBucketLine (held || s.holds)
  if held then
    let s := { s with red := { s.red with guarding := false } }
    if armed && was && !s.red.armedTill then s.disarm else s
  else
    let s := { s with red := { s.red with guarding := was || (armed && s.red.armedTill) } }
    if s.red.taker && s.red.release && s.role == 2 && !s.holds then s.takeOver else s

/-- ARMED_WINDOW_END (R348). -/
def armedWindowEnd (s : M) : M :=
  if s.on F.redStatusArmed && s.red.armedTill then
    let s := { s with red := { s.red with armedTill := false } }
    if s.red.guarding then s else s.disarm
  else s

/-- HANDOVER_RELEASED (R350): on the frame and a released line. -/
def handoverReleased (s : M) : M :=
  if s.role = 2 ∧ s.red.taker ∧ !s.holds then
    if s.on F.idStrapsBucketLine then { s with red := { s.red with release := true } } else s.takeOver
  else s

/-- LEASE_LAPSED (R344): the lease timer expires; enables cut, BUCKET_n released, F3. -/
def leaseLapsed (s : M) : M := if s.holds then (s.release false).f3 (ev 0x0050 0x7067) 11 else s

/-- BECOMES_SAFE_DRIVER (R336): in SAFE, with PARTNER_PRESENT_n absent for the guard time. -/
def becomesSafeDriver (s : M) : M :=
  if s.mode = 5 ∧ s.red.absent ∧ !s.drives then s.setB F.redStatusSafeDriver true else s

/-! ### Joins (R352 to R356) -/

/-- ROPE_VERSION of the running firmware. -/
def M.ropeVersion (s : M) : Nat := s.nat (F.secFwLevelsRopeVersion (if s.on (F.secFwSlotActive 1) then 1 else 0))

/-- The lowest 64 bits of the identity of the running image (R129); 0 without one. -/
def M.imageIdent (s : M) : Nat :=
  match s.activeSlot with
  | some n => s.nat (F.idImgIdLo n) + 4294967296 * s.nat (F.idImgIdHi n)
  | none => 0

/-- The refusal code of R352; 0 accepts. -/
def M.joinCode (s : M) (x : RopeStatus) : Nat :=
  if !s.on F.redCfgJoinEn then 1
  else if s.mode = 1 ∨ s.role = 1 then 2
  else if x.ropeVersion ≠ s.ropeVersion then 3
  else if x.station ≠ s.nat F.idStrapsStationAddr ∨ x.slotB = s.on F.idStrapsSlot then 4
  else if x.imageId ≠ s.imageIdent then 5 else 0

/-- The first of the pages of the parts of the state space other than data SRAM and the loop blocks (R353). DESIGN CHOICE (log entry 96): each part begins with a page
of its own, and its content travels with that. -/
def partPage : Nat := 66560

/-- Pages of the state space (R353). -/
def totalPages : Nat := partPage + 8 + Config.otherPages

/-- A join accepted by the holder: every page is dirty (R353). -/
def M.acceptJoin (s : M) : M :=
  let s := (s.toRole 1 10).setN F.redJoinState 1
  { s with red := { s.red with joining := true, joinAt := s.aon.now, dirty := [], unsent := totalPages, catchup := none, records := [], flight := []
                               lastAck := none, answer := 0 } }.emit (.join false 0)

/-- The trust material in the places of a set. -/
def anchorList (t : Tab (List Byte)) : List (List Byte) := (t.map (·.2)).filter fun x => !x.isEmpty

/-- An image slot's bytes sent in IMAGE frames (R340, R358). -/
def M.sendImage (s : M) (slot : Nat) : M :=
  let g := s.store.slots.get ImgSlot.empty slot
  s.ropeOut (.image g.total g.bytes) ((g.total + 2043) / 2044)

/-- The holder's trust material sent in IMAGE frames (R403). -/
def M.sendTrust (s : M) : M :=
  let i := anchorList s.store.images
  let c := anchorList s.store.clients
  s.ropeOut (.adopt i c s.store.deny) (i.length + c.length + s.store.deny.length)

/-- A holder answers a join request, once: acceptance, or refusal with its code; after code 5 the active image is forwarded, after the trust
material of the holder where the joiner needs it (R352, R403). -/
def M.answerJoin (s : M) (x : RopeStatus) : M :=
  if !x.joinReq then { s with red := { s.red with answered := false } }
  else if s.red.answered || !s.holds || s.mode == 4 || (s.role != 4 && s.role != 1) then s
  else
    let s := { s with red := { s.red with answered := true } }
    let c := s.joinCode x
    if c = 0 then s.acceptJoin
    else
      let s := { s with red := { s.red with answer := c } }.emit (.join false c)
      if c = 5 then s.sendTrust.sendImage (1 - s.spareSlot) else s

/-- The joiner's side of an answer, in its bucket step or later: JOINING, whose own work ends, or the refusal remembered, with which the bucket step ends DETACHED; an image that is asked for and already ACCEPTED in the
inactive slot is activated (R352). -/
def M.hearJoin (s : M) (x : RopeStatus) : M :=
  if !s.red.joinAsked then s
  else if x.joinAccept then
    let s := { s.abandon.discardStroke with red := { s.red with joinAsked := false, refusal := 0 } }
    let s := if s.ctl.step8 then { s with ctl := { s.ctl with step8 := false, primed := true, firstCommit := true } } else s
    let s := (s.refuseWrites.toRole 3 10).setN F.redJoinState 1
    { s with red := { s.red with joining := true, joinAt := s.aon.now, gap := false, catchup := none, unsent := totalPages, ack := 0 }, run := { s.run with executed := false } }
  else if x.joinRefuse then
    let s := { s with red := { s.red with joinAsked := false, refusal := x.refusal } }
    let s := if s.ctl.step8 then s.leaveStep8 4 else s
    let n := s.spareSlot
    if x.refusal = 5 ∧ s.nat (F.idImgSlotState n) = 3 ∧ (getField64 s.fields (F.idImgIdLo n) (F.idImgIdHi n)).toNat = x.imageId then { s with aon := { s.aon with joinAgain := true } }.activateCold n else s
  else s

/-- The lead module forwards the image that its inactive slot holds ACCEPTED (R358). -/
def M.forwardSpare (s : M) : M :=
  let n := s.spareSlot
  if s.role = 1 ∧ s.slotState n = 3 then
    { s with store := { s.store with forwarding := some (s.store.slots.get ImgSlot.empty n).total } }.sendImage n
  else s

/-- A join complete: RED_JOIN and RED_JOIN_TIME (R360); a lead module forwards anew what its inactive slot holds (R358). -/
def M.joinDone (s : M) : M :=
  let s := (s.setN F.redJoinState 3).setN F.redJoinTimeLastMs (min 65535 ((s.aon.now - s.red.joinAt) / 1000000))
  { s with red := { s.red with joining := false, catchup := none, dirty := [], unsent := 0, records := [], flight := [], lastAck := none } }.forwardSpare

/-- The lead module counts stroke c in step when STATUS reports SHADOW by S+20 µs of stroke c (R355). -/
def M.hearShadow (s : M) (x : RopeStatus) : M :=
  if s.role = 1 ∧ s.red.joining ∧ x.role = 2 ∧ s.red.catchup = some s.stroke ∧ s.aon.now ≤ s.red.tickAt + 20000 then s.joinDone else s

/-- The strap exchange before the bucket step (R36, R370), with the rope UP: equal SLOT ends priming with SLOT_CONFLICT; with different STATION_ADDR slot B does
not join and stays DETACHED. DEDUCED (log entry 16): a module compares in its own bucket step only; one that has primed does not look again when its
partner primes later. -/
def M.compareStraps (s : M) (x : RopeStatus) : M :=
  if !s.ctl.step8 || s.red.strapsSeen || !s.ropeUp then s
  else
    let s := { s with red := { s.red with strapsSeen := true } }
    if x.slotB = s.on F.idStrapsSlot then { s with hlt := { s.hlt with latched := addOnce s.hlt.latched 29 } }.endInStop 6
    else if x.station ≠ s.nat F.idStrapsStationAddr then
      let s := { s with hlt := { s.hlt with latched := addOnce s.hlt.latched 29 } }.hw (ev 0x0010 0x3011)
      if s.on F.idStrapsSlot then { s with red := { s.red with noJoin := true } }.leaveStep8 4 else s
    else s

/-- A partner that reports the bucket held while this module holds it (R346). -/
def M.conflict (s : M) : M :=
  if s.holds then
    if s.on F.idStrapsSlot then s.f3 (ev 0x0050 0x7065) 11 else s.hw (ev 0x0050 0x1066)
  else s

/-- The page of an address (R353): data SRAM, to which an alias address leads as well, a loop block, or the registers. -/
def pageOf (a : Nat) : Nat :=
  if inSram a then a / 256 else if inSetAlias a || inClrAlias a then aliasTarget a / 256
  else if inLoop a then 65536 + (a - 0x50000000) / 256 % 1024 else partPage + 3

/-- A page marked dirty, unless its first copy is still to be sent (R353, R354). -/
def M.markPage (s : M) (p : Nat) : M :=
  if p + s.red.unsent ≥ totalPages ∨ s.red.dirty.contains p then s else { s with red := { s.red with dirty := s.red.dirty ++ [p] } }

/-- Whether frame `a` was sent no later than frame `b`, both by their SEQ modulo 2^32 (R339). -/
def seqUpTo (a b : Nat) : Bool := decide ((b + 4294967296 - a % 4294967296) % 4294967296 < 2147483648)

/-- What the acknowledgement of a joiner's STATUS says to the lead module (R354): pages up to it have arrived. DESIGN CHOICE (log entry 96): where two STATUS frames
acknowledge the same SEQ, the pages sent before the first of them and not acknowledged are missing, and are dirty again. -/
def M.hearAck (s : M) (ack : Nat) : M :=
  if s.role = 1 ∧ s.red.joining then
    let left := s.red.flight.filter fun e => !seqUpTo e.1 ack
    if s.red.lastAck = some ack then
      (left.map (·.2)).foldl (init := { s with red := { s.red with flight := [] } }) M.markPage
    else { s with red := { s.red with flight := left, lastAck := some ack } }
  else s

/-- A lead module whose joining partner reports that its join has ended (R337, R356, R372): the join is aborted here as well, with the cause that the report shows: F3
where the partner is in SAFE, PARTNER_ABSENT where it is LONE, else DETACH. DEDUCED (log entry 97): the spec does not say how the lead module learns of it. -/
def M.hearAbort (s : M) (x : RopeStatus) (was : Nat) : M :=
  if s.role = 1 ∧ s.red.joining ∧ was = 3 ∧ x.role ≠ 2 ∧ x.role ≠ 3 then
    (s.abortJoin (if x.mode = 5 then 5 else if x.role = 0 then 8 else 3) 0).toRole 4 11
  else s

/-- ROPE_STATUS (R341): frames lost before it, the partner's role and bucket, its wall clock for a module that follows (R329), its straps, its acknowledgement, and
its join flags. -/
def ropeStatus (x : RopeStatus) (s : M) : M :=
  if s.mode = 0 ∨ !s.domainOn 5 then s
  else
    let s := (s.at x.now).bump F.redRopeFramesLost 65535 x.lost
    let was := s.nat F.redStatusPartnerRole
    let s := { s with red := { s.red with partner := some x } }
    let s := (s.setN F.redStatusPartnerRole (min 4 x.role)).setB F.redStatusPartnerHolds x.holds
    let s := if s.role = 2 ∨ s.role = 3 then { s with aon := { s.aon with wallOff := (x.wall.toNat : Int) - s.red.tickAt } }.showWall else s
    let s := if x.holds then s.conflict else s
    if s.mode = 0 then s
    else ((((((s.hearAck x.ack).hearAbort x was).compareStraps x).answerJoin x).hearJoin x).hearShadow x)

/-- JOIN_TIMEOUT (R356): 30 s after acceptance. -/
def joinTimeout (s : M) : M :=
  if !s.red.joining then s
  else if s.role = 1 then (s.abortJoin 1 0).toRole 4 11
  else if s.role = 3 then (s.abortJoin 1 0).coldAgain else s

/-- JOIN_RETRY (R352): every 10 s after a NOT_READY refusal. -/
def joinRetry (s : M) : M :=
  if s.role = 4 ∧ s.red.refusal = 2 ∧ s.on F.redCfgAutoJoin ∧ !s.holds ∧ s.ropeUp ∧ !s.red.joinAsked ∧ s.mode ≥ 2 then s.askJoin else s

/-- A data word list from bytes, little-endian. -/
def wordsOfBytes (bs : List Byte) : List Word :=
  (List.range (bs.length / 4)).map fun i => memWord (bs.zipIdx.foldl (init := []) fun m b => memPut m b.2 b.1) (4 * i)

/-- A page of the lead module applied (R354): numbers below 65,536 are data SRAM, the next 1024 the loop blocks. -/
def M.applyPage (s : M) (n : Nat) (bs : List Byte) : M :=
  if n < 65536 then { s with mem := (bs.take 256).zipIdx.foldl (init := s.mem) fun m b => memPut m (256 * n + b.2) b.1 }
  else if n < 66560 then
    (wordsOfBytes (bs.take 256)).zipIdx.foldl (init := s) fun s w => s.putReg (loopAddr (n - 65536) (4 * w.2)) w.1
  else s

/-- The number of the page that a TRANSFER frame brings; a commit record is none. -/
def Transfer.number : Transfer → Option Nat
  | .page n _ => some n
  | .slots _ _ => some partPage
  | .acts _ => some (partPage + 1)
  | .loops _ _ => some (partPage + 2)
  | .regs _ => some (partPage + 3)
  | .can _ _ _ => some (partPage + 4)
  | .hart _ => some (partPage + 5)
  | .ring _ _ => some (partPage + 6)
  | .outputs _ _ _ _ => some (partPage + 7)
  | .more n => some n
  | .record _ _ _ => none

/-- What a TRANSFER frame brings applied (R354): a page, or a commit record for the joiner's next commit. -/
def M.applyTransfer (s : M) (t : Transfer) : M :=
  match t with
  | .page n bs => s.applyPage n bs
  | .slots x b => { s with fy := { s.fy with slots := x }, run := { s.run with begun := b, slots0 := x, begun0 := b } }
  | .acts l => { s with run := { s.run with acts := l } }
  | .loops h d => { s with run := { s.run with loopHid := h, dipper := d } }
  | .regs l => { s with fields := mergeShared s.fields l }
  | .can f b p => { s with fifos := f, boxes := b, can := p }
  | .hart c => { s with hart := c }
  | .ring st ms => { s with ring := { s.ring with stations := st, mods := ms } }
  | .outputs w a r o =>
    { s with dw := { s.dw with hold := w }, ctl := { s.ctl with held := r, orphans := o }
             aio := a.map fun (e : Nat × AioChan) => (e.1, { e.2 with supplyOn := false, queued := false }) }
  | .more _ => s
  | .record ws es ls =>
    let p := s.run.pend
    { s with run := { s.run with pend := { writes := p.writes ++ ws, effects := p.effects ++ es }
                                 loops := { results := s.run.loops.results ++ ls.results, groups := s.run.loops.groups ++ ls.groups } } }

/-- A page of the first copy counted; with the last of them the join tracks (R354). -/
def M.countPage (s : M) (p : Option Nat) : M :=
  if p.any fun n => n + s.red.unsent == totalPages then
    let s := { s with red := { s.red with unsent := s.red.unsent - 1 } }
    if s.red.unsent = 0 then s.setN F.redJoinState 2 else s
  else s

/-- TRANSFER (R339, R354): applied by a joiner, which acknowledges the highest SEQ received without a gap; frames missing before it are counted. -/
def transfer (t : Transfer) (q : TransferSeq) (s : M) : M :=
  if s.role ≠ 3 then s
  else
    let s := s.bump F.redRopeFramesLost 65535 q.lost
    let s := { s with red := { s.red with gap := q.gap, ack := if q.gap then s.red.ack else q.seq } }
    (s.applyTransfer t).countPage t.number

/-- CATCHUP (R355): a joiner without a gap executes stroke c as SHADOW. -/
def catchup (c : DWord) (s : M) : M :=
  if s.role = 3 ∧ !s.red.gap then { s with red := { s.red with catchup := some c } } else s

/-! ### What the lead module transfers (R353 to R355) -/

/-- The state as the commit of the stroke in progress will leave its stores: data SRAM, registers, loop blocks and the records of the cistern. -/
def M.stored (s : M) : M := (s.commitStores s.pendAll).writeRecords.writeEdges

/-- The commit records of the stroke in progress (R354): the alias and SYS writes and the effects of its activations, and the results of the loop engine. -/
def M.strokeRecords (s : M) : List Transfer :=
  let p := s.pendAll
  let none_ : LoopStroke := { results := [], groups := [] }
  let own := p.writes.filter fun (w : Nat × Word) => !inSram w.1
  (if own.isEmpty && p.effects.isEmpty then [] else [.record own p.effects none_]) ++
    (s.run.loops.results.map fun r => .record [] [] { none_ with results := [r] }) ++
    (if s.run.loops.groups.isEmpty then [] else [.record [] [] { none_ with groups := s.run.loops.groups }])

/-- The addresses that the stores of the stroke in progress reach (R353): those of tasks, of host and Modbus writes, of loops and groups, and of the loop records and
edge bits of the cistern; the writes of the snapshot to input items are none of them. -/
def M.storeAddrs (s : M) : List Nat :=
  let items := fun (a : Nat) => s.isItemWord a || s.isItemWord (a - 4)
  let ls := s.run.loops
  (s.pendAll.writes.map (·.1)) ++ ((s.run.snapWrites.map (·.1)).filter fun a => !items a) ++
    (ls.results.flatMap fun r => ((resultWrites s.run.snap r ++ outputWrites s.run.snap r).map (·.1)) ++ [0x00FF0000 + 32 * r.block]) ++
    (ls.groups.flatMap fun g => (groupWrites (declsOf s.body) g).map (·.1)) ++ (if s.tasksRan then [0x00FF8000, 0x00FF8100] else [])

/-- The parts of the state space that the stroke in progress reaches beside its stores: slots, activations, the loop engine, registers, CAN, HART, the ring and the
outputs. -/
def M.partsReached (s : M) : List Nat :=
  let l := !s.run.loops.results.isEmpty
  let m (f : Manifest → Bool) : Bool := s.run.manifest.any f
  let e (f : Effect → Bool) : Bool := s.pendAll.effects.any fun (x : Half × Effect) => f x.2
  [s.tasksRan, s.tasksRan, l, true,
   m (fun x => !x.can.isEmpty) || e (fun x => match x with
     | .canTx _ _ _ => true | .canPop _ _ => true | .canMb _ _ => true
     | _ => false),
   m (fun x => !x.hart.isEmpty) || e (fun x => match x with
     | .hartStart _ _ _ => true | .hartTaken _ => true
     | _ => false),
   m (fun x => !x.remote.isEmpty) || !s.body.modules.isEmpty, true].zipIdx.filterMap fun x => if x.1 then some (partPage + x.2) else none

/-- The pages that the stroke in progress reaches marked, and its commit records queued, for a joiner (R353, R354). -/
def M.markStroke (s : M) : M :=
  if s.role = 1 ∧ s.red.joining then
    let s := (s.storeAddrs.map pageOf ++ s.partsReached).foldl (init := s) M.markPage
    { s with red := { s.red with records := s.red.records ++ s.strokeRecords } }
  else s

/-- The content of a page of the state space (R353), `v` being the state that is read. -/
def M.pageContent (v : M) (n : Nat) : Transfer :=
  if n < 65536 then .page n ((List.range 256).map fun i => memByte v.mem (256 * n + i))
  else if n < partPage then .page n ((List.range 64).flatMap fun i => bytesLE 4 (v.getReg (loopAddr (n - 65536) (4 * i))).toNat)
  else
    match n - partPage with
    | 0 => .slots v.fy.slots v.run.begun
    | 1 => .acts v.run.acts
    | 2 => .loops v.run.loopHid v.run.dipper
    | 3 => .regs (v.fields.filter fun e => sharedKey e.1)
    | 4 => .can v.fifos v.boxes v.can
    | 5 => .hart v.hart
    | 6 => .ring v.ring.stations v.ring.mods
    | 7 => .outputs v.dw.hold v.aio v.ctl.held v.ctl.orphans
    | _ => .more n

/-- A page sent, its mark cleared first (R354). -/
def M.sendPage (v : M) (s : M) (n : Nat) : M :=
  let q := s.red.seq
  { s with red := { s.red with flight := s.red.flight ++ [(q, n)] } }.ropeOut (.transfer q (v.pageContent n))

/-- Pages sent: those of the first copy, then the dirty ones in order of first dirtying; every page sent once, the join tracks (R354). -/
def M.sendPages (s : M) (n : Nat) : M :=
  if s.role ≠ 1 ∨ !s.red.joining then s
  else
    let v := s.stored
    let first := min n s.red.unsent
    let pages := (List.range first).map (fun i => totalPages - s.red.unsent + i) ++ s.red.dirty.take (n - first)
    let s := { s with red := { s.red with unsent := s.red.unsent - first, dirty := s.red.dirty.drop (n - first) } }
    let s := pages.foldl (init := s) v.sendPage
    if s.red.unsent = 0 then s.setN F.redJoinState 2 else s

/-- Commit records sent but for the last `n` (R354). -/
def M.sendRecords (s : M) (n : Nat) : M :=
  let k := if s.role = 1 ∧ s.red.joining then s.red.records.length - n else 0
  let go := s.red.records.take k
  go.foldl (init := { s with red := { s.red with records := s.red.records.drop k } }) fun s t => s.ropeOut (.transfer s.red.seq t)

/-- CATCHUP(c) sent where no page is dirty, every page has been sent once and no record waits (R355). -/
def M.sendCatchup (s : M) : M :=
  if s.role = 1 ∧ s.red.joining ∧ s.red.unsent = 0 ∧ s.red.dirty.isEmpty ∧ s.red.records.isEmpty then
    { s with red := { s.red with catchup := some (s.stroke + 1#64) } }.ropeOut (.catchup (s.stroke + 1#64))
  else s

/-! ### STATUS (R341) -/

/-- What a module reports in STATUS. -/
def M.statusNow (s : M) : RopeStatus :=
  { now := s.aon.now, role := s.role, holds := s.holds, safeDriver := s.on F.redStatusSafeDriver, armed := s.on F.redStatusArmed, mode := s.mode
    priming := if s.ctl.step8 then 1 else if s.mode = 1 then 0 else if s.ctl.primed then 3 else 2
    station := s.nat F.idStrapsStationAddr, slotB := s.on F.idStrapsSlot, ropeVersion := s.ropeVersion, imageId := s.imageIdent
    safeA := s.on F.idStrapsSafeA, safeB := s.on F.idStrapsSafeB, joinReq := s.red.joinAsked, joinAccept := s.red.answered && s.red.answer == 0
    joinRefuse := s.red.answered && s.red.answer != 0, refusal := if s.red.answered then s.red.answer else 0, wall := s.wall
    firmware := s.nat F.idFwVersion, ack := s.red.ack }

/-- STATUS sent where a lane is UP (R340). DESIGN CHOICE (log entry 94): of the frames sent every 10 µs the trace shows the one that follows each tick. -/
def M.sendStatus (s : M) : M :=
  if s.mode ≠ 0 ∧ s.domainOn 5 ∧ s.nat F.redStatusLanes ≠ 0 then s.ropeOut (.status s.statusNow) else s

/-! ### Digest and divergence (R102, R351, R372, R373, R376) -/

/-- ROPE_DIGEST (R102, R104, R340): the partner's digest with its self-check flag, none in a stroke of a pace fault; its SAFE inputs. -/
def ropeDigest (d : DWord) (ok safeA safeB pace : Bool) (s : M) : M :=
  if s.role = 1 ∨ s.role = 2 then
    { s with run := { s.run with partner := if pace then none else some d, partnerOk := ok }
             red := { s.red with digestSafe := boolNat safeA + 2 * boolNat safeB } }
  else s

/-- One SAFE input compared at a digest exchange (R376): input 0 is SAFE_A_n. -/
def M.compareSafe (s : M) (i : Nat) : M :=
  let own := s.on (if i = 0 then F.idStrapsSafeA else F.idStrapsSafeB)
  let his := bitAt (word s.red.digestSafe) i
  let k := if i = 0 then F.hltSafeADisagree else F.hltSafeBDisagree
  let n := s.red.safeRuns.get 0 (2 * i + boolNat (own == his)) + 1
  let runs := (s.red.safeRuns.set 0 (2 * i + boolNat (own == his)) n).set 0 (2 * i + boolNat (own != his)) 0
  let s := { s with red := { s.red with safeRuns := runs } }
  if n ≠ 3 then s
  else if own = his then s.setB k false
  else if s.on k then s
  else (s.setB k true).hw (ev 0x0060 0x3076 i (boolNat own) (boolNat his))

/-- The digests of a stroke differ (R351): nothing of it is committed, and the self-tests follow. -/
def M.diverge (s : M) (own his : DWord) : M :=
  let d := if s.role = 1 then (s.stroke, own, his) else (s.stroke, his, own)
  let s := s.abandon.discardStroke
  { s with run := { s.run with abandoned := true }
           red := { s.red with mismatch := some d, selfOwn := none, selfPartner := none } }.bump F.redCntDivergences 255 1

/-- The outcome of R351 once this module's test has passed and the partner's result is known; without a pair its own result decides. -/
def M.judgeDivergence (s : M) : M :=
  match s.red.mismatch with
  | none => s
  | some (k, lead, shadow) =>
    if s.red.selfOwn ≠ some true then s
    else if s.role ≠ 1 ∧ s.role ≠ 2 then s.endDivergence
    else
      match s.red.selfPartner with
      | none => s
      | some true =>
        let s := (if s.role = 2 then s.endDivergence.cancelChange else s.endDivergence).toRole 4 6
        s.f2 (ev 0x0050 0x506A k.lo.toNat k.hi.toNat lead.lo.toNat shadow.lo.toNat) 26 0
      | some false => if s.role = 1 ∧ s.holds then s.endDivergence.toRole 4 6 else s.endDivergence.leaveArmed 4 6

/-- DIVERGENCE_SELFTEST (R351): the result is sent; a failed one is an F3 fault, a lead module renews at its pass, where a lease timer that disagrees with its
shadow counter is an F3 fault (R365). -/
def divergenceSelftest (x : SelfTest) (s : M) : M :=
  if s.red.mismatch.isNone then s
  else
    let renews := x.pass && s.holds && s.mode != 5
    let good := x.pass && !(renews && x.leaseFault)
    let s := { s with red := { s.red with selfOwn := some good } }.ropeOut (.selftest good)
    if !x.pass then s.endDivergence.f3 (ev 0x0050 0x7069) 26
    else if !good then s.endDivergence.f3 (ev 0x0050 0x7068) 11
    else if renews then s.loadLease.judgeDivergence
    else s.judgeDivergence

/-- SELFTEST_PASS (R351). -/
def selftestPass (s : M) : M :=
  if s.red.mismatch.isSome then { s with red := { s.red with selfPartner := some true } }.judgeDivergence else s

/-- SELFTEST_FAIL (R351). -/
def selftestFail (s : M) : M :=
  if s.red.mismatch.isSome then { s with red := { s.red with selfPartner := some false } }.judgeDivergence else s

/-- SELFTEST_TIMEOUT (R351): counts as a rope loss. -/
def selftestTimeout (s : M) : M :=
  if s.red.mismatch.isSome && s.red.selfPartner.isNone then s.loseRope else s

/-! ### What the commands do -/

/-- DIVERGENCE_SELFTEST (R351). -/
def execDivergenceSelftest (pass : SelfTest) (s : State) : Host.Outcome State Fault Refusal := runM (divergenceSelftest pass) s

/-- SELFTEST_TIMEOUT (R351). -/
def execSelftestTimeout (s : State) : Host.Outcome State Fault Refusal := runM selftestTimeout s

/-- ROPE_LANE_UP (R338). -/
def execRopeLaneUp (lane : Nat) (s : State) : Host.Outcome State Fault Refusal := runM (ropeLaneUp lane) s

/-- ROPE_LANE_LOST (R338). -/
def execRopeLaneLost (lane : Nat) (s : State) : Host.Outcome State Fault Refusal := runM (ropeLaneLost lane) s

/-- ROPE_LOST (R338). -/
def execRopeLost (long : Bool) (s : State) : Host.Outcome State Fault Refusal := runM (ropeLost long) s

/-- ROPE_RESTORED (R338). -/
def execRopeRestored (s : State) : Host.Outcome State Fault Refusal := runM ropeRestored s

/-- TICK_MARKER (R338). -/
def execTickMarker (offset adj : Int) (s : State) : Host.Outcome State Fault Refusal := runM (tickMarker offset adj) s

/-- ROPE_STATUS (R341). -/
def execRopeStatus (x : RopeStatus) (s : State) : Host.Outcome State Fault Refusal := runM (ropeStatus x) s

/-- ROPE_DIGEST (R102). -/
def execRopeDigest (d : DWord) (ok safeA safeB pace : Bool) (s : State) : Host.Outcome State Fault Refusal := runM (ropeDigest d ok safeA safeB pace) s

/-- TRANSFER (R354). -/
def execTransfer (t : Transfer) (gap : TransferSeq) (s : State) : Host.Outcome State Fault Refusal := runM (transfer t gap) s

/-- CATCHUP (R355). -/
def execCatchup (c : DWord) (s : State) : Host.Outcome State Fault Refusal := runM (catchup c) s

/-- HANDOVER_RELEASED (R350). -/
def execHandoverReleased (s : State) : Host.Outcome State Fault Refusal := runM handoverReleased s

/-- SELFTEST_PASS (R351). -/
def execSelftestPass (s : State) : Host.Outcome State Fault Refusal := runM selftestPass s

/-- SELFTEST_FAIL (R351). -/
def execSelftestFail (s : State) : Host.Outcome State Fault Refusal := runM selftestFail s

/-- BUCKET_LINE_CHANGE (R345). -/
def execBucketLineChange (held : Bool) (s : State) : Host.Outcome State Fault Refusal := runM (bucketLineChange held) s

/-- BUCKET_TAKE (R347). -/
def execBucketTake (twice signal : Bool) (s : State) : Host.Outcome State Fault Refusal := runM (bucketTake twice signal) s

/-- BUCKET_STUCK (R347). -/
def execBucketStuck (s : State) : Host.Outcome State Fault Refusal := runM bucketStuck s

/-- LEASE_LAPSED (R344). -/
def execLeaseLapsed (s : State) : Host.Outcome State Fault Refusal := runM leaseLapsed s

/-- ARMED_WINDOW_END (R348). -/
def execArmedWindowEnd (s : State) : Host.Outcome State Fault Refusal := runM armedWindowEnd s

/-- JOIN_TIMEOUT (R356). -/
def execJoinTimeout (s : State) : Host.Outcome State Fault Refusal := runM joinTimeout s

/-- JOIN_RETRY (R352). -/
def execJoinRetry (s : State) : Host.Outcome State Fault Refusal := runM joinRetry s

/-- ROPE_CRC_ERROR (R339). -/
def execRopeCrcError (lost : Nat) (s : State) : Host.Outcome State Fault Refusal := runM (ropeCrcError lost) s

/-- BECOMES_SAFE_DRIVER (R336). -/
def execBecomesSafeDriver (s : State) : Host.Outcome State Fault Refusal := runM becomesSafeDriver s

end Sys2Proof.Machine
end

