-- ==== Sys2Proof/Machine/Found.lean ====
section
/-! DEFINITION. LD with what it finds in data SRAM (R145, R168, R169), and the check bits of a storage word (R165, R168). -/

namespace Sys2Proof.Machine

/-- The 64 data bits of the storage word that holds byte address `a` (R163). -/
def storageWord (mem : List Host.Cell) (a : Nat) : DWord := dword (memWord mem (a / 8 * 8 + 4)) (memWord mem (a / 8 * 8))

/-- The 8 check bits of that storage word (R165, R168). Every write recomputes them from the merged 64 bits, so that they are a function of the data; a word that
has gone wrong in between is what a command reports that reads it. -/
def checkBits (mem : List Host.Cell) (a : Nat) : Byte := Config.hsiao (storageWord mem a)

/-- The words that a load reads. -/
def loadAddrs (t : Act) (a : RegNo) (x : Access) : List Nat :=
  let ea := effAddr t a x
  match x.kind with
  | .word => [ea]
  | .pair => [ea, ea + 4]

/-- LD on the module: a single wrong bit is corrected and the data delivered; with two nothing is delivered, and the fault is taken (R168, R169). -/
def ldFound (d a : RegNo) (x : Access) (s : M) : M :=
  let e := eccWithin x.ecc (loadAddrs s.fy.act a x)
  let s := s.sramFound e
  if e.bad.isSome then s else { s with fy := fyLd d a x s.fy }

/-! ### What the commands do -/

/-- LD (R145, R168, R169). -/
def execLd (d a : RegNo) (x : Access) (s : State) : Host.Outcome State Fault Refusal :=
  let e := eccWithin x.ecc (loadAddrs s.m.fy.act a x)
  if e.bad.isNone ∧ e.fixed.isEmpty then runFy (fyLd d a x) s else runM (ldFound d a x) s

end Sys2Proof.Machine
end

