-- ==== Sys2Proof/Machine/Net.lean ====
section
/-! DEFINITION. Port P3, the Modbus server, PTP, the wall clock and the lock of the timebase (R40, R83, R317 to R329, R365). -/

namespace Sys2Proof.Machine

/-! ### P3 (R317, R318) -/

/-- The address of P3: NET_IP[SLOT] (R318), as the module follows it (R116). -/
def M.ownIp (s : M) : Word := s.cfg (F.netIp (s.nat F.idStrapsSlot))

/-- NET is on outside RESET. -/
def M.netOn (s : M) : Bool := s.mode != 0 && s.domainOn 4

/-- P3 answers: NET on and an address set (R317). -/
def M.p3Live (s : M) : Bool := s.netOn && s.ownIp != 0#32

/-- P3_DROPPED_FRAME (R317). -/
def p3DroppedFrame (s : M) : M := if s.netOn then s.bump F.netP3StatDropped 65535 1 else s

/-- ARP_REQUEST for a target address (R317): answered where it is the module's own. -/
def arpRequest (target : Word) (s : M) : M := if s.p3Live && target == s.ownIp then s.emit .arp else s

/-- ICMP_ECHO to a target address (R317). -/
def icmpEcho (target : Word) (s : M) : M := if s.p3Live && target == s.ownIp then s.emit .icmp else s

/-- NET_FAULT (R365): F2; P3, ring and CAN act as in a NET restart. -/
def netFault (s : M) : M := if s.netOn then s.netDown.f2 (ev 0x0060 0x5074) 23 1 else s

/-! ### Modbus (R319 to R324) -/

/-- MODBUS_CONNECT (R324): accepted, or reset while the server is off and beyond 8 connections. -/
def modbusConnect (conn : Nat) (s : M) : M :=
  if !s.p3Live || s.net.conns.contains conn then s
  else if !s.cfgOn F.mbCfgEnable || decide (s.net.conns.length ≥ 8) then s.emit (.reset 502)
  else { s with net := { s.net with conns := s.net.conns ++ [conn] } }

/-- MODBUS_IDLE_TIMEOUT (R324): the connection is closed, with its requests. -/
def modbusIdleTimeout (conn : Nat) (s : M) : M :=
  { s with net := { s.net with conns := s.net.conns.filter (· != conn), writes := s.net.writes.filter fun w => w.conn != conn } }

/-- A request that takes its turn on its connection: answered now, or, where it is a write without an exception or an earlier request of the
connection still waits, at a snapshot (R322). -/
def M.mbQueue (s : M) (w : MbWrite) : M :=
  if !s.p3Live || !s.net.conns.contains w.conn then s
  else if (decide (w.fn ≥ 5) && w.ex == 0) || s.net.writes.any fun x => x.conn == w.conn then
    { s with net := { s.net with writes := s.net.writes ++ [w] } }
  else s.mbReply w

/-- Exception code of a range that reaches beyond its table, else 0 (R320). -/
def M.mbRange (s : M) (fn start quantity : Nat) : Nat := if start + quantity > (s.mbTable (mbTableOf fn)).2 then 2 else 0

/-- The first exception code that applies. -/
def firstEx : List Nat → Nat
  | [] => 0
  | x :: r => if x = 0 then firstEx r else x

/-- A read request (R320, R321). -/
def M.mbReadReq (s : M) (fn : Nat) (r : MbReq) (quantity : Nat) : M :=
  let most := if mbBits fn then 2000 else 125
  let ex := firstEx [if quantity = 0 ∨ quantity > most then 3 else 0, s.mbRange fn r.start quantity]
  s.mbQueue { fn := fn, ex := ex, conn := r.conn, tag := r.tag, start := r.start, values := if ex = 0 then List.replicate quantity 0 else [], readPart := none, unit := r.unit }

/-- A write request: every one is refused with code 6 in PRIMING and in roles other than LONE, DETACHED and LEAD (R21, R324); then its quantity and byte
count, its values and what they must satisfy with code 3, a range beyond the table with 2, and one beyond the allowance with 4 (R94, R320, R322). DESIGN CHOICE
(log entry 93): the write data that R94 holds against A_MB − 8 bytes are those of the manifest entry, padded to a multiple of 4 bytes (R322), so that no request
is accepted that no snapshot could take. -/
def M.mbWriteReq (s : M) (fn : Nat) (r : MbReq) (most quantity bytes : Nat) (values : List Nat) (legal : Bool) (readPart : Option (Nat × Nat)) : M :=
  let size := if mbBits fn then (quantity + 7) / 8 else 2 * quantity
  let ex := firstEx [if s.mode = 1 ∨ !ownRoles.contains s.role then 6 else 0,
    if quantity = 0 ∨ quantity > most ∨ bytes ≠ size ∨ values.length ≠ quantity ∨ !legal then 3 else 0,
    s.mbRange fn r.start quantity, match readPart with
      | some (a, n) => s.mbRange 3 a n
      | none => 0,
    if (size + 3) / 4 * 4 + 8 > s.aMb then 4 else 0]
  s.mbQueue { fn := fn, ex := ex, conn := r.conn, tag := r.tag, start := r.start, values := values, readPart := if ex = 0 then readPart else none, unit := r.unit }

/-- READ_COILS: function code 1 (R320, R321). -/
def readCoils (r : MbReq) (quantity : Nat) (s : M) : M := s.mbReadReq 1 r quantity
/-- READ_DISCRETE_INPUTS: function code 2. -/
def readDiscreteInputs (r : MbReq) (quantity : Nat) (s : M) : M := s.mbReadReq 2 r quantity
/-- READ_HOLDING_REGISTERS: function code 3. -/
def readHoldingRegisters (r : MbReq) (quantity : Nat) (s : M) : M := s.mbReadReq 3 r quantity
/-- READ_INPUT_REGISTERS: function code 4. -/
def readInputRegisters (r : MbReq) (quantity : Nat) (s : M) : M := s.mbReadReq 4 r quantity

/-- WRITE_SINGLE_COIL: function code 5 with 0xFF00 for on and 0 for off (R322; PRESUMED: the Modbus protocol refuses any other value with code 3). -/
def writeSingleCoil (r : MbReq) (value : Nat) (s : M) : M :=
  s.mbWriteReq 5 r 1 1 1 [boolNat (value == 0xFF00)] (value == 0xFF00 || value == 0) none
/-- WRITE_SINGLE_REGISTER: function code 6 (R322). -/
def writeSingleRegister (r : MbReq) (value : Nat) (s : M) : M := s.mbWriteReq 6 r 1 1 2 [value % 65536] true none
/-- WRITE_MULTIPLE_COILS: function code 15 (R322). -/
def writeMultipleCoils (r : MbReq) (quantity bytes : Nat) (values : List Nat) (s : M) : M :=
  s.mbWriteReq 15 r 1968 quantity bytes (values.map (· % 2)) true none
/-- WRITE_MULTIPLE_REGISTERS: function code 16 (R322). -/
def writeMultipleRegisters (r : MbReq) (quantity bytes : Nat) (values : List Nat) (s : M) : M :=
  s.mbWriteReq 16 r 123 quantity bytes (values.map (· % 65536)) true none
/-- READ_WRITE_MULTIPLE_REGISTERS: function code 23 (R323); `r.start` is where it writes. -/
def readWriteMultipleRegisters (r : MbReq) (readStart readQuantity quantity bytes : Nat) (values : List Nat) (s : M) : M :=
  s.mbWriteReq 23 r 121 quantity bytes (values.map (· % 65536)) (decide (1 ≤ readQuantity) && decide (readQuantity ≤ 125)) (some (readStart, readQuantity))
/-- MODBUS_UNSUPPORTED_FUNCTION: any other function code, exception code 0x01 (R320). -/
def modbusUnsupportedFunction (r : MbReq) (fn : Nat) (s : M) : M :=
  s.mbQueue { fn := fn, ex := 1, conn := r.conn, tag := r.tag, start := r.start, values := [], readPart := none, unit := r.unit }

/-! ### The wall clock and the lock of the timebase (R40, R83, R327, R328, R389) -/

/-- Whether time follows the lead module over the rope (R85, R329). -/
def M.timeFollows (s : M) : Bool := s.role == 2 || s.role == 3

/-- The wall clock set to a time. -/
def M.setWall (s : M) (t : DWord) : M := { s with aon := { s.aon with wallOff := (t.toNat : Int) - s.aon.now } }.showWall

/-- A step of the wall clock with its event, whose WALL is the new time (R389). -/
def M.stepWall (s : M) (t : DWord) (quality : Nat) : M :=
  let old := s.wall
  ((s.setWall t).setN F.wallQualQuality quality).hw { source := 0x0080#16, code := 0x1004#16, p0 := old.lo, p1 := old.hi, p2 := t.lo, p3 := t.hi }

/-- The steering of a locked timebase, within ±50 ppm (R83, R107). -/
def M.steer (s : M) (adj : Int) : M := s.set F.stkTimebaseFreqAdj (BitVec.ofInt 32 (max (-5000) (min 5000 adj)) &&& 0xFFFF#32)

/-- The timebase locks to a source that it is set to (R83). -/
def M.lockTo (s : M) (src : Nat) (adj : Int) : M :=
  if s.nat F.stkTimebaseLockSrc = src ∧ !s.timeFollows then (s.steer adj).setN F.stkTimebaseLockState 2 else s

/-- PPS_IN_EDGE (R328): with a time of day from the host or earlier PTP, an edge within 100 ms of the clock's whole second moves the fraction to 0
and makes the quality 2 (DEDUCED). -/
def ppsInEdge (now : Nat) (adj : Int) (s : M) : M :=
  let s := s.at now
  if s.mode = 0 then s
  else
    let q := s.nat F.wallQualQuality
    let t := s.wall.toNat
    let f := t % 1000000000
    let s := if (q = 1 ∨ q = 2 ∨ q = 3) ∧ !s.timeFollows then
        if f ≤ 100000000 then (s.setWall (BitVec.ofNat 64 (t - f))).setN F.wallQualQuality 2
        else if f ≥ 900000000 then (s.setWall (BitVec.ofNat 64 (t - f + 1000000000))).setN F.wallQualQuality 2
        else s
      else s
    s.lockTo 2 adj

/-- PPS_OUT_PULSE (R30, R40, R327): a pulse only while the quality is above 0. -/
def ppsOutPulse (s : M) : M := if s.mode ≠ 0 ∧ s.nat F.wallQualQuality > 0 then s.emit .ppsPulse else s

/-- LOCK_SOURCE_LOST (R83): HOLDOVER; the last frequency adjustment is kept. -/
def lockSourceLost (s : M) : M := s.loseLock (s.nat F.stkTimebaseLockSrc)

/-- LOCK_SOURCE_RETURN (R83): steering resumes. -/
def lockSourceReturn (adj : Int) (s : M) : M := if s.nat F.stkTimebaseLockSrc = 0 then s else s.lockTo (s.nat F.stkTimebaseLockSrc) adj

/-- TIMEBASE_FAULT (R365): an F3 fault. -/
def timebaseFault (s : M) : M := s.f3 (ev 0x0020 0x7034) 10

/-! ### PTP (R325, R326, R328) -/

/-- PTP runs on P3. -/
def M.ptpOn (s : M) : Bool := s.p3Live && s.on F.ptpCfgPtpEn

/-- PORT_STATE. -/
def M.ptpPort (s : M) : Nat := s.nat F.ptpStatPortState

/-- Whether a message of a master in a domain concerns the port. -/
def M.ptpHears (s : M) (domain master : Nat) : Bool := s.ptpOn && domain == s.nat F.ptpCfgDomain && s.net.ptpMaster == some master

/-- The wall clock of a synchronised module follows PTP time (R328): a step beyond 1 ms and at the first synchronisation after quality 0 or 1, otherwise
a slew of at most 50 ppm since the last measurement. -/
def M.followPtp (s : M) (time : DWord) (since : Nat) : M :=
  if s.timeFollows then s.setN F.wallQualQuality 4
  else
    let err := (time - s.wall).toInt
    if s.nat F.wallQualQuality ≤ 1 ∨ err > 1000000 ∨ err < -1000000 then s.stepWall time 4
    else
      let most : Int := ((s.aon.now - since) * 50 / 1000000 : Nat)
      let d := max (-most) (min most err)
      { s with aon := { s.aon with wallOff := s.aon.wallOff + d } }.showWall.setN F.wallQualQuality 4

/-- A time of arrival or departure as the P3 PHY stamps it, on the port's own clock: with a resolution of 8 ns (R325). -/
def M.phyTime (s : M) (now : Nat) : Int := ((now / 8 * 8 : Nat) : Int) + s.net.ptpClock

/-- A measurement of the offset (R325, R326, R328): the Sync's arrival less its origin, its corrections and the path delay. It shows in PTP_OFFSET;
synchronisation is gained after 10 s within ±1 µs in SLAVE and lost beyond ±10 µs; the wall clock and a timebase locked to PTP follow; and the port's clock moves as its
servo has it. -/
def M.ptpMeasure (s : M) (arrival : Nat) (correction : Int) (x : PtpMeas) : M :=
  let s := s.at x.now
  let since := s.net.ptpSince
  let diff := s.phyTime arrival - x.origin - correction
  let offset := diff - s.net.ptpDelay
  let time := BitVec.ofInt 64 (s.aon.now + s.net.ptpClock - offset)
  let s := s.set F.ptpOffset (BitVec.ofInt 32 (max (-2147483647) (min 2147483647 offset)))
  let near := decide (offset ≤ 1000) && decide (-1000 ≤ offset) && s.ptpPort == 3
  let far := decide (offset > 10000) || decide (offset < -10000)
  let inBand := if near then some (s.net.inBand.getD s.aon.now) else none
  let s := { s with net := { s.net with ptpSince := s.aon.now, inBand := inBand, twoStepOpen := false
                                        ptpClock := s.net.ptpClock + x.servo, ptpDiff := diff + x.servo } }
  let s := if far then s.loseSync
    else match inBand with
      | some t => if t + 10000000000 ≤ s.aon.now then s.setB F.ptpStatSynced true else s
      | none => s
  if s.on F.ptpStatSynced then (s.followPtp time since).lockTo 1 x.adj else s

/-- PTP_SYNC: a Sync message; a two-step master's measurement comes with its Follow_Up (R325). -/
def ptpSync (domain master : Nat) (twoStep : Bool) (x : PtpMeas) (s : M) : M :=
  if s.ptpHears domain master && decide (2 ≤ s.ptpPort) && decide (s.ptpPort ≤ 3) then
    if twoStep then { s with net := { s.net with twoStepOpen := true, syncAt := x.now, syncCorr := x.correction } } else s.ptpMeasure x.now x.correction x
  else s

/-- PTP_FOLLOW_UP: the origin time of the two-step Sync before it (R325). -/
def ptpFollowUp (domain master : Nat) (x : PtpMeas) (s : M) : M :=
  if s.ptpHears domain master && s.net.twoStepOpen && decide (2 ≤ s.ptpPort) && decide (s.ptpPort ≤ 3) then
    s.ptpMeasure s.net.syncAt (s.net.syncCorr + x.correction) x
  else s

/-- PTP_DELAY_RESP: a delay measurement completes, the path delay being the mean of both ways; the port is SLAVE with it (R325; PRESUMED, log entry 92: IEEE 1588
leaves the state change to the implementation). -/
def ptpDelayResp (domain : Nat) (x : PtpDelay) (s : M) : M :=
  if s.ptpHears domain x.master && s.net.delayAsked then
    let back := (x.receive : Int) - x.correction - s.phyTime x.sent
    let s := { s with net := { s.net with delayAsked := false, ptpDelay := (s.net.ptpDiff + back) / 2 } }
    if s.ptpPort = 2 then s.setN F.ptpStatPortState 3 else s
  else s

/-- What the best master clock algorithm compares, the lower the better, in its order. -/
def ptpRanks (x : PtpMaster) : List Nat := [x.priority1, x.clockClass, x.accuracy, x.variance, x.priority2, x.identity, x.steps, x.sender]

/-- Whether a list of ranks comes before another. -/
def ranksBefore : List Nat → List Nat → Bool
  | a :: r, b :: t => decide (a < b) || (a == b && ranksBefore r t)
  | _, _ => false

/-- The best of the masters heard. -/
def bestMaster : List PtpMaster → Option PtpMaster
  | [] => none
  | x :: r =>
    match bestMaster r with
    | none => some x
    | some y => if ranksBefore (ptpRanks y) (ptpRanks x) then some y else some x

/-- PTP_ANNOUNCE: the best master clock algorithm runs over the masters heard, in the data sets that they announced last (R325; PRESUMED from IEEE 1588, log entry
92); a new choice is measured from the start. -/
def ptpAnnounce (domain : Nat) (x : PtpMaster) (s : M) : M :=
  if s.ptpOn && domain == s.nat F.ptpCfgDomain && decide (1 ≤ s.ptpPort) && decide (s.ptpPort ≤ 3) then
    let all := x :: s.net.masters.filter fun y => y.sender != x.sender
    let s : M := { s with net := { s.net with masters := all } }
    let best : Option Nat := (bestMaster all).map (·.sender)
    if s.ptpPort = 1 ∨ s.net.ptpMaster ≠ best then
      { s with net := { s.net with ptpMaster := best, inBand := none, delayAsked := false, twoStepOpen := false } }.setN F.ptpStatPortState 2
    else s
  else s

/-- DELAY_REQ_TIMER: a Delay_Req is sent (R325). -/
def delayReqTimer (s : M) : M :=
  if s.ptpOn && decide (2 ≤ s.ptpPort) && decide (s.ptpPort ≤ 3) then
    { s with net := { s.net with delayAsked := true } }.emit .delayReq
  else s

/-- PTP_SYNC_TIMEOUT: no Sync for 3 s (R326), also where P3 has lost its address. The choice of a master begins afresh with the next Announce (log entry 92). -/
def ptpSyncTimeout (s : M) : M :=
  if s.netOn && s.on F.ptpCfgPtpEn && decide (2 ≤ s.ptpPort) && decide (s.ptpPort ≤ 3) then
    { s with net := { s.net with masters := [] } }.loseSync.setN F.ptpStatPortState 2
  else s

/-! ### What the commands do -/

/-- PPS_IN_EDGE (R328). -/
def execPpsInEdge (now : Nat) (adj : Int) (s : State) : Host.Outcome State Fault Refusal := runM (ppsInEdge now adj) s

/-- PPS_OUT_PULSE (R40). -/
def execPpsOutPulse (s : State) : Host.Outcome State Fault Refusal := runM ppsOutPulse s

/-- LOCK_SOURCE_LOST (R83). -/
def execLockSourceLost (s : State) : Host.Outcome State Fault Refusal := runM lockSourceLost s

/-- LOCK_SOURCE_RETURN (R83). -/
def execLockSourceReturn (adj : Int) (s : State) : Host.Outcome State Fault Refusal := runM (lockSourceReturn adj) s

/-- TIMEBASE_FAULT (R365). -/
def execTimebaseFault (s : State) : Host.Outcome State Fault Refusal := runM timebaseFault s

/-- NET_FAULT (R365). -/
def execNetFault (s : State) : Host.Outcome State Fault Refusal := runM netFault s

/-- ARP_REQUEST (R317). -/
def execArpRequest (target : Word) (s : State) : Host.Outcome State Fault Refusal := runM (arpRequest target) s

/-- ICMP_ECHO (R317). -/
def execIcmpEcho (target : Word) (s : State) : Host.Outcome State Fault Refusal := runM (icmpEcho target) s

/-- MODBUS_CONNECT (R324). -/
def execModbusConnect (conn : Nat) (s : State) : Host.Outcome State Fault Refusal := runM (modbusConnect conn) s

/-- MODBUS_IDLE_TIMEOUT (R324). -/
def execModbusIdleTimeout (conn : Nat) (s : State) : Host.Outcome State Fault Refusal := runM (modbusIdleTimeout conn) s

/-- READ_COILS (R321). -/
def execReadCoils (r : MbReq) (quantity : Nat) (s : State) : Host.Outcome State Fault Refusal := runM (readCoils r quantity) s

/-- READ_DISCRETE_INPUTS (R321). -/
def execReadDiscreteInputs (r : MbReq) (quantity : Nat) (s : State) : Host.Outcome State Fault Refusal := runM (readDiscreteInputs r quantity) s

/-- READ_HOLDING_REGISTERS (R321). -/
def execReadHoldingRegisters (r : MbReq) (quantity : Nat) (s : State) : Host.Outcome State Fault Refusal := runM (readHoldingRegisters r quantity) s

/-- READ_INPUT_REGISTERS (R321). -/
def execReadInputRegisters (r : MbReq) (quantity : Nat) (s : State) : Host.Outcome State Fault Refusal := runM (readInputRegisters r quantity) s

/-- WRITE_SINGLE_COIL (R322). -/
def execWriteSingleCoil (r : MbReq) (value : Nat) (s : State) : Host.Outcome State Fault Refusal := runM (writeSingleCoil r value) s

/-- WRITE_SINGLE_REGISTER (R322). -/
def execWriteSingleRegister (r : MbReq) (value : Nat) (s : State) : Host.Outcome State Fault Refusal := runM (writeSingleRegister r value) s

/-- WRITE_MULTIPLE_COILS (R322). -/
def execWriteMultipleCoils (r : MbReq) (quantity bytes : Nat) (values : List Nat) (s : State) : Host.Outcome State Fault Refusal := runM (writeMultipleCoils r quantity bytes values) s

/-- WRITE_MULTIPLE_REGISTERS (R322). -/
def execWriteMultipleRegisters (r : MbReq) (quantity bytes : Nat) (values : List Nat) (s : State) : Host.Outcome State Fault Refusal := runM (writeMultipleRegisters r quantity bytes values) s

/-- READ_WRITE_MULTIPLE_REGISTERS (R323). -/
def execReadWriteMultipleRegisters (r : MbReq) (readStart readQuantity quantity bytes : Nat) (values : List Nat) (s : State) : Host.Outcome State Fault Refusal := runM (readWriteMultipleRegisters r readStart readQuantity quantity bytes values) s

/-- PTP_SYNC (R328). -/
def execPtpSync (domain master : Nat) (twoStep : Bool) (x : PtpMeas) (s : State) : Host.Outcome State Fault Refusal := runM (ptpSync domain master twoStep x) s

/-- PTP_FOLLOW_UP (R325). -/
def execPtpFollowUp (domain master : Nat) (x : PtpMeas) (s : State) : Host.Outcome State Fault Refusal := runM (ptpFollowUp domain master x) s

/-- PTP_DELAY_RESP (R325). -/
def execPtpDelayResp (domain : Nat) (x : PtpDelay) (s : State) : Host.Outcome State Fault Refusal := runM (ptpDelayResp domain x) s

/-- PTP_ANNOUNCE (R325). -/
def execPtpAnnounce (domain : Nat) (x : PtpMaster) (s : State) : Host.Outcome State Fault Refusal := runM (ptpAnnounce domain x) s

/-- DELAY_REQ_TIMER (R325). -/
def execDelayReqTimer (s : State) : Host.Outcome State Fault Refusal := runM delayReqTimer s

/-- PTP_SYNC_TIMEOUT (R326). -/
def execPtpSyncTimeout (s : State) : Host.Outcome State Fault Refusal := runM ptpSyncTimeout s

/-- P3_DROPPED_FRAME (R317). -/
def execP3DroppedFrame (s : State) : Host.Outcome State Fault Refusal := runM p3DroppedFrame s

/-- MODBUS_UNSUPPORTED_FUNCTION (R320). -/
def execModbusUnsupportedFunction (r : MbReq) (fn : Nat) (s : State) : Host.Outcome State Fault Refusal := runM (modbusUnsupportedFunction r fn) s

end Sys2Proof.Machine
end

