-- ==== Sys2Proof/Machine/Health.lean ====
section
/-! DEFINITION. Module-level faults, self-tests, proof marks and the HEALTHY contact (R365 to R368, R374), the scrubber and the checkpoint copier
(R168 to R175), and the recorder's queue (R385). -/

namespace Sys2Proof.Machine

/-! ### Module-level faults (R365) -/

/-- ENGINE_RAIL on engine e: an F3 fault. -/
def engineRail (e : Nat) (s : M) : M := if e < 4 then s.f3 (ev 0x0060 0x7070) e else s

/-- LOOP_RAIL: an F3 fault. -/
def loopRail (s : M) : M := s.f3 (ev 0x0060 0x7072) 4

/-- MEM_RAIL: an F3 fault. -/
def memRail (s : M) : M := s.f3 (ev 0x0060 0x7073) 6

/-- SECURE_FAULT: F2; new engineering sessions are refused while it is shown (R365, R411). -/
def secureFault (s : M) : M := (s.setB F.secStatusSecureFault true).f2 (ev 0x0060 0x5075) 12 0

/-! ### Self-tests and proof marks (R367, R368) -/

/-- ENGINE_SELFTEST_PASS of engine e: the item's test has run; another signature than the firmware's is an F3 fault. -/
def engineSelftestPass (e : Nat) (good : Bool) (s : M) : M :=
  if s.mode < 2 ∨ e ≥ 4 then s
  else if good then
    { s with hlt := { s.hlt with passed := addOnce s.hlt.passed e, overdue := s.hlt.overdue.filter (· != e) } }
  else s.f3 (ev 0x0060 0x7071) e

/-- SELFTEST_OVERDUE of engine e: 10 s without a completed pass. -/
def selftestOverdue (e : Nat) (s : M) : M :=
  if s.mode < 2 ∨ e ≥ 4 then s else { s with hlt := { s.hlt with overdue := addOnce s.hlt.overdue e } }

/-- The proof marks of a state. -/
def proofKey (on : Bool) : Nat := if on then F.hltDioTestedOn else F.hltDioTestedOff

/-- PROOF_MARK_SET: channel n, commanded to a state by what the island drives (R240), has read it back for 1 ms without its fault (R368). -/
def proofMarkSet (n : Nat) (on : Bool) (s : M) : M :=
  let fault := s.isl (if on then F.dioStatSwitchFault n else F.dioStatExternalDrive n)
  if s.holds && decide (n < 32) && s.dioDrives n == some on && fault == 0 then s.set (proofKey on) (putBit (s.reg (proofKey on)) n true) else s

/-- PROOF_MARK_EXPIRED (R368). -/
def proofMarkExpired (n : Nat) (on : Bool) (s : M) : M :=
  if s.on F.hltCfgProofDays && decide (n < 32) then s.set (proofKey on) (putBit (s.reg (proofKey on)) n false) else s

/-- HEALTHY_CLOSE (R374): the conditions have held for 1 s. -/
def healthyClose (now : Nat) (s : M) : M :=
  let s := s.at now
  match s.aon.healthySince with
  | some t => if s.healthyNow && decide (t + 1000000000 ≤ s.aon.now) then s.setB F.hltSummaryHealthy true else s
  | none => s

/-! ### Memory (R168 to R171, R175) -/

/-- Storage words of data SRAM. -/
def storageWords : Nat := 2 ^ 21

/-- SCRUB_READ (R168 to R170): the next storage word, with 0 no, 1 a single-bit or 2 a double-bit error in it; its last word ends a pass. -/
def scrubRead (errors : Nat) (s : M) : M :=
  if s.mode = 0 then s
  else
    let i := s.saves.scrubAt
    if errors ≥ 2 then s.sramDouble (8 * i)
    else
      let s := if errors = 1 then s.sramCorrected (8 * i) else s
      if i + 1 < storageWords then { s with saves := { s.saves with scrubAt := i + 1 } }
      else s.endPass

/-- CHECKPOINT_DONE (R175): the copier finishes; a write that fails its read-back check leaves its area invalid. -/
def checkpointDone (good : Bool) (s : M) : M :=
  if s.mode < 2 ∨ s.aon.saving ≠ 0 ∨ s.saves.running.isNone then s
  else if good then (s.endSave) |> fun s => { s with saves := { s.saves with firstDone := true } }
  else
    ({ s with saves := { s.saves with running := none, failed := true, firstDone := true } }.showSaves).hw (ev 0x0040 0x1053)

/-! ### The recorder (R385) -/

/-- RECORD_WRITE: the oldest queued event merged or written. -/
def recordWrite (s : M) : M := if s.domainOn 1 then s.drain else s

/-! ### What the commands do -/

/-- ENGINE_RAIL (R365). -/
def execEngineRail (e : Nat) (s : State) : Host.Outcome State Fault Refusal := runM (engineRail e) s

/-- LOOP_RAIL (R365). -/
def execLoopRail (s : State) : Host.Outcome State Fault Refusal := runM loopRail s

/-- MEM_RAIL (R365). -/
def execMemRail (s : State) : Host.Outcome State Fault Refusal := runM memRail s

/-- SCRUB_READ (R170). -/
def execScrubRead (errors : Nat) (s : State) : Host.Outcome State Fault Refusal := runM (scrubRead errors) s

/-- CHECKPOINT_DONE (R175). -/
def execCheckpointDone (good : Bool) (s : State) : Host.Outcome State Fault Refusal := runM (checkpointDone good) s

/-- ENGINE_SELFTEST_PASS (R367). -/
def execEngineSelftestPass (e : Nat) (good : Bool) (s : State) : Host.Outcome State Fault Refusal := runM (engineSelftestPass e good) s

/-- SELFTEST_OVERDUE (R367). -/
def execSelftestOverdue (e : Nat) (s : State) : Host.Outcome State Fault Refusal := runM (selftestOverdue e) s

/-- PROOF_MARK_SET (R368). -/
def execProofMarkSet (n : Nat) (on : Bool) (s : State) : Host.Outcome State Fault Refusal := runM (proofMarkSet n on) s

/-- PROOF_MARK_EXPIRED (R368). -/
def execProofMarkExpired (n : Nat) (on : Bool) (s : State) : Host.Outcome State Fault Refusal := runM (proofMarkExpired n on) s

/-- HEALTHY_CLOSE (R374). -/
def execHealthyClose (now : Nat) (s : State) : Host.Outcome State Fault Refusal := runM (healthyClose now) s

/-- SECURE_FAULT (R365). -/
def execSecureFault (s : State) : Host.Outcome State Fault Refusal := runM secureFault s

/-- RECORD_WRITE (R385). -/
def execRecordWrite (s : State) : Host.Outcome State Fault Refusal := runM recordWrite s

end Sys2Proof.Machine
end

