-- ==== Sys2Proof/Machine/RegWrites.lean ====
section
/-! DEFINITION. Stores of a task to registers and aliases (R57 to R59, R82, R91, R116, R117, R146, R174, R238, R239, R244, R247, R291, R295): each
enters the write queue of the commit that ends the stroke. -/

namespace Sys2Proof.Machine

/-! ### Stores -/

/-- SOURCE of an event of a task (R391). -/
def taskSource (task : Nat) : Half := BitVec.ofNat 16 (0x0F00 + task)

/-- A store of a task in the stroke in progress (R87, R90): it counts in the digest and waits for the commit. Where no task executes there is no
store. -/
def M.taskStore (s : M) (task ad : Nat) (w : Word) : M :=
  if s.tasksRan && decide (task < 16) && writable ad then
    { s with run := { s.run with
        digest := s.run.digest + digestOf [(ad, w)]
        pend := { writes := s.run.pend.writes ++ [(ad, w)], effects := s.run.pend.effects ++ actionsOf (taskSource task) [(ad, w)] } } }
  else s

/-- PWR_RESTART: a write of TARGET (R57 to R59). -/
def pwrRestart (task : Nat) (target : Word) (s : M) : M := s.taskStore task 0x40004014 target
/-- REQUEST_STOP: MOD_REQUEST written with STOP (R82). -/
def requestStop (task : Nat) (s : M) : M := s.taskStore task 0x40001010 1#32
/-- REQUEST_SAFE: MOD_REQUEST written with SAFE (R82). -/
def requestSafe (task : Nat) (s : M) : M := s.taskStore task 0x40001010 2#32
/-- CKPT_NOW: MEM_CKPT_CFG written with CKPT_NOW and an INTERVAL_S (R174, R182). -/
def ckptNow (task : Nat) (interval : Word) (s : M) : M := s.taskStore task 0x4000380C (0x1000#32 ||| (interval &&& 0xFFF#32))
/-- DIO_UNLATCH (R239). -/
def dioUnlatch (task : Nat) (mask : Word) (s : M) : M := s.taskStore task 0x40010094 mask
/-- GROUP_ACK: DIO_GRP_CTRL with bits [7:4] ACK and [3:0] as given (R244). -/
def groupAck (task : Nat) (w : Word) (s : M) : M := s.taskStore task 0x40010098 w
/-- ENC_LOAD of encoder n (R247). -/
def encLoad (task n : Nat) (w : Word) (s : M) : M := if n < 4 then s.taskStore task (0x4003000C + 16 * n) w else s
/-- CAN_TX_ABORT of a port (R291). -/
def canTxAbort (task port : Nat) (mask : Word) (s : M) : M := if port < 2 then s.taskStore task (0x4004002C + 0x4000 * port) mask else s
/-- RECOVER of a port (R295). -/
def recover (task port : Nat) (s : M) : M := if port < 2 then s.taskStore task (0x40040030 + 0x4000 * port) 1#32 else s
/-- DIO_OUT_SET (R238). -/
def dioOutSet (task : Nat) (mask : Word) (s : M) : M := s.taskStore task 0x40010084 mask
/-- DIO_OUT_CLR (R238). -/
def dioOutClr (task : Nat) (mask : Word) (s : M) : M := s.taskStore task 0x40010088 mask
/-- BIT_SET_ALIAS: a store to the alias of the data SRAM word at `addr` (R91). -/
def bitSetAlias (task addr : Nat) (mask : Word) (s : M) : M := if inSram addr then s.taskStore task (0x04000000 + addr / 4 * 4) mask else s
/-- BIT_CLEAR_ALIAS (R91). -/
def bitClearAlias (task addr : Nat) (mask : Word) (s : M) : M := if inSram addr then s.taskStore task (0x08000000 + addr / 4 * 4) mask else s
/-- CLEAR_STRAP_CHANGED: ID_STRAPS written with bit 14 (R34). -/
def clearStrapChanged (task : Nat) (s : M) : M := s.taskStore task 0x40000040 0x4000#32
/-- CLEAR_CAN_FLAGS: CAN_FLAGS of a port written with bits (R298). -/
def clearCanFlags (task port : Nat) (bits : Word) (s : M) : M := if port < 2 then s.taskStore task (0x40040018 + 0x4000 * port) bits else s
/-- REGISTER_WRITE: a store to any other register of SYS or loop block space (R11, R116, R117). -/
def registerWrite (task addr : Nat) (w : Word) (s : M) : M :=
  let ad := addr / 4 * 4
  if (inSys ad || inLoop ad) && !isSet ad && !isClear ad && !startsAction ad && ad != 0x40001010 then s.taskStore task ad w else s

/-! ### What the commands do -/

/-- PWR_RESTART (R59). -/
def execPwrRestart (task : Nat) (target : Word) (s : State) : Host.Outcome State Fault Refusal := runM (pwrRestart task target) s

/-- REQUEST_STOP (R82). -/
def execRequestStop (task : Nat) (s : State) : Host.Outcome State Fault Refusal := runM (requestStop task) s

/-- REQUEST_SAFE (R82). -/
def execRequestSafe (task : Nat) (s : State) : Host.Outcome State Fault Refusal := runM (requestSafe task) s

/-- CKPT_NOW (R174). -/
def execCkptNow (task : Nat) (interval : Word) (s : State) : Host.Outcome State Fault Refusal := runM (ckptNow task interval) s

/-- DIO_UNLATCH (R239). -/
def execDioUnlatch (task : Nat) (mask : Word) (s : State) : Host.Outcome State Fault Refusal := runM (dioUnlatch task mask) s

/-- GROUP_ACK (R244). -/
def execGroupAck (task : Nat) (w : Word) (s : State) : Host.Outcome State Fault Refusal := runM (groupAck task w) s

/-- ENC_LOAD (R247). -/
def execEncLoad (task n : Nat) (w : Word) (s : State) : Host.Outcome State Fault Refusal := runM (encLoad task n w) s

/-- CAN_TX_ABORT (R291). -/
def execCanTxAbort (task port : Nat) (mask : Word) (s : State) : Host.Outcome State Fault Refusal := runM (canTxAbort task port mask) s

/-- RECOVER (R295). -/
def execRecover (task port : Nat) (s : State) : Host.Outcome State Fault Refusal := runM (recover task port) s

/-- DIO_OUT_SET (R238). -/
def execDioOutSet (task : Nat) (mask : Word) (s : State) : Host.Outcome State Fault Refusal := runM (dioOutSet task mask) s

/-- DIO_OUT_CLR (R238). -/
def execDioOutClr (task : Nat) (mask : Word) (s : State) : Host.Outcome State Fault Refusal := runM (dioOutClr task mask) s

/-- BIT_SET_ALIAS (R91). -/
def execBitSetAlias (task addr : Nat) (mask : Word) (s : State) : Host.Outcome State Fault Refusal := runM (bitSetAlias task addr mask) s

/-- BIT_CLEAR_ALIAS (R91). -/
def execBitClearAlias (task addr : Nat) (mask : Word) (s : State) : Host.Outcome State Fault Refusal := runM (bitClearAlias task addr mask) s

/-- CLEAR_STRAP_CHANGED (R34). -/
def execClearStrapChanged (task : Nat) (s : State) : Host.Outcome State Fault Refusal := runM (clearStrapChanged task) s

/-- CLEAR_CAN_FLAGS (R298). -/
def execClearCanFlags (task port : Nat) (bits : Word) (s : State) : Host.Outcome State Fault Refusal := runM (clearCanFlags task port bits) s

/-- REGISTER_WRITE (R116). -/
def execRegisterWrite (task addr : Nat) (w : Word) (s : State) : Host.Outcome State Fault Refusal := runM (registerWrite task addr w) s

end Sys2Proof.Machine
end

