-- ==== Sys2Proof/Machine/Host.lean ====
section
/-! DEFINITION. The engineering protocol: sessions (R330 to R333, R395 to R398, R401), how a command is judged (R12, R413 to R416), and the commands
for modes, variables, forces, loops, HART, time and the pair (R66 to R73, R86, R117, R125, R217, R230, R278, R328, R337, R347 to R357, R412). -/

namespace Sys2Proof.Machine

/-! ### Sessions -/

/-- Whether a module is claimed: it holds a client anchor (R401). -/
def M.claimed (s : M) : Bool := decide (0 < placesUsed s.store.clients)

/-- The lowest 32 bits of a SHA-256 value (R109). -/
def low32 (h : List Byte) : Word := word (ofBytesLE (h.take 4))

/-- Whether a client anchor with this fingerprint is installed (R399). -/
def M.anchored (s : M) (fp : List Byte) : Bool := s.store.clients.any fun e => !e.2.isEmpty && Config.sha256 e.2 == fp

/-- The security roles in their order (R396). -/
def roleNames : List String := ["Viewer", "Operator", "Engineer", "Custodian"]

/-- The security role of a principal (R396): the one role that its organizationalUnitName values name, and Viewer where they name none or more than one. -/
def roleOf (units : List String) : Nat :=
  match units.filter fun u => roleNames.contains u with
  | [u] => roleNames.idxOf u
  | _ => 0

/-- Whether a handshake is one of TLS 1.3 as the module supports it (R395): suite, signature scheme, a chain of at most 3 certificates. -/
def supported (h : Handshake) : Bool := h.suite != .other && h.scheme != .other && decide (h.chain ≤ 3)

/-- Whether a handshake authenticates its principal (R395, R397, R399); with quality 0 the dates are not checked. -/
def M.authentic (s : M) (h : Handshake) : Bool :=
  supported h && h.ok && s.anchored h.anchor && !s.store.deny.contains h.cert && (h.datesOk || s.nat F.wallQualQuality == 0)

/-- A failed handshake (R398): counted and reported with the address; 5 from one address within 60 s lock it. -/
def M.authFailed (s : M) (h : Handshake) : M :=
  let s := s.bump F.secAuthFailures 65535 1
  let s :=
    if h.usb then s
    else
      let recent := ((h.addr, s.aon.now) :: s.net.failures).filter fun f => decide (s.aon.now < f.2 + 60000000000)
      if (recent.filter fun f => f.1 == h.addr).length ≥ 5 then
        { s with net := { s.net with failures := recent.filter (fun f => f.1 != h.addr), locked := h.addr :: s.net.locked } }
      else { s with net := { s.net with failures := recent } }
  s.hw (ev 0x0070 0x1081 (if h.usb then 0 else h.addr.toNat))

/-- A session opened, or its connection closed with BUSY (R330, R333). -/
def M.openSession (s : M) (h : Handshake) (auth : Bool) (role : Nat) : M :=
  if s.net.sessions.length ≥ 4 ∨ (h.usb ∧ s.net.sessions.any fun x => x.usb) then s.emit (.closed h.id 3)
  else
    let x : Session := { id := h.id, usb := h.usb, auth := auth, role := role, principal := low32 h.cert, cert := h.cert, anchor := h.anchor, order := [], ready := [] }
    { s with net := { s.net with sessions := s.net.sessions ++ [x] } }

/-- A handshake of a claimed module: over USB one that fails leaves a session that is not authenticated (R402, R410). -/
def M.handshake (s : M) (h : Handshake) : M :=
  if s.authentic h then
    let s := if s.nat F.wallQualQuality = 0 then s.hw (ev 0x0070 0x1082) else s
    s.openSession h true (roleOf h.units)
  else
    let s := s.authFailed h
    if h.usb then s.openSession h false 0 else s

/-- SESSION_OPEN (R330, R333, R365, R395 to R398, R401): an unclaimed module accepts any client certificate over USB, with role Viewer, and nothing over
P3; a locked address and, with SECURE_FAULT, every new session is refused. -/
def sessionOpen (h : Handshake) (s : M) : M :=
  let s := s.at h.now
  let reachable := if h.usb then s.netOn && s.on F.engStatUsbAttached else s.p3Live
  if !reachable || s.net.sessions.any (fun x => x.id == h.id) then s
  else if s.on F.secStatusSecureFault || (!h.usb && (!s.claimed || s.net.locked.contains h.addr)) then s.emit (.reset 4810)
  else if !s.claimed then s.openSession h true 0
  else s.handshake h

/-- SESSION_IDLE_TIMEOUT (R330): 60 s without a message. -/
def sessionIdleTimeout (id : Nat) (s : M) : M := s.dropSessions (fun x => x.id == id) 0

/-- AUTH_LOCKOUT_END (R398): 60 s after the lock. -/
def authLockoutEnd (addr : Word) (s : M) : M := { s with net := { s.net with locked := s.net.locked.filter (· != addr) } }

/-- USB_ATTACH (R333): VBUS above 4.0 V; the port attaches while NET is powered. -/
def usbAttach (s : M) : M := { s with net := { s.net with vbus := true } }.showUsb

/-- USB_DETACH (R333): the session over USB closes. -/
def usbDetach (s : M) : M := { s with net := { s.net with vbus := false } }.dropSessions (fun x => x.usb) 0 |>.showUsb

/-- MALFORMED_HEADER (R332): answered MALFORMED after the requests before it, and the session is then closed. -/
def malformedHeader (r : Req) (code : Nat) (s : M) : M :=
  match s.session r with
  | none => s
  | some x => if s.mode = 0 ∨ x.closing then s else s.malformed r x code

/-- UNKNOWN_COMMAND (R332): the session stays open. -/
def unknownCommand (r : Req) (code : Nat) (s : M) : M := s.receive r code none fun x s => s.refuse r x code 27

/-! ### Commands that act at a commit (R414) -/

/-- A command that acts at a commit, carried out on receipt: a joiner has no snapshot of its own, and a module in STOP with a start fault runs no
strokes. -/
def M.actNow (s : M) (r : Req) (x : Session) (q : HostReq) : M :=
  let st := s.cutStatus q.cmd
  if st ≠ 0 then (s.refuse r x q.cmd.code st).noteOnline q.cmd st
  else
    let later (m cause : Nat) : M := { s with ctl := { s.ctl with nextMode := some (s.stroke + 1#64, m, cause) } }
    match q.cmd with
    | .safe => (if s.mode = 5 then s else if s.role = 3 then later 5 5 else s.changeMode 5 5).reply r 0
    | .ack => (if s.role = 3 then later 2 0 else s.changeMode 2 0).reply r 0
    | .varWrite ws => { s with mem := putWords s.mem ws }.reply r 0
    | .detach => if s.role = 3 then ((s.reply r 0).abortJoin 3 0).coldAgain else s.reply r 0
    | .online _ _ => (s.cutPair [{ q with status := some 0 }]).reply r 0
    | _ => s.reply r 0

/-- A command on its way to the cut: refused in PRIMING, where MODE_SAFE is accepted (R66); a shadow module forwards those that act on the pair (R337);
the others wait for the next snapshot. -/
def M.hostCommit (s : M) (r : Req) (least : Nat) (c : HostCmd) : M :=
  s.receive r c.code (some least) fun x s =>
    let q : HostReq := { req := some { r with place := x.nextPlace }, principal := x.principal, role := x.role, cmd := c, status := none }
    if s.mode = 1 then
      if c = .safe then
        { s with ctl := { s.ctl with nextMode := some (0#64, 5, 5) }, net := { s.net with taken := s.net.taken ++ [{ q with status := some 0 }] } }
      else (s.refuse r x c.code 1).noteOnline c 1
    else if s.role = 2 then
      if c = .safe ∨ c = .ack ∨ c = .detach ∨ c = .switchover then
        { s with net := { s.net with forwarded := s.net.forwarded ++ [q] } }.ropeOut (.forward c.code x.principal)
      else s.actNow r x q
    else if s.role = 3 ∨ !s.ctl.primed then s.actNow r x q
    else
      let s := { s with net := { s.net with queue := s.net.queue ++ [q] } }
      match c with
      | .hartPass n _ _ => { s with hartQ := s.hartQ ++ [(n, 3)] }
      | _ => s

/-- VAR_WRITE (R125): at most 32 writes. -/
def varWrite (r : Req) (ws : List (Nat × Word)) (s : M) : M := s.hostCommit r 1 (.varWrite (ws.take 32))
/-- MODE_RUN (R66). -/
def modeRun (r : Req) (s : M) : M := s.hostCommit r 1 .run
/-- MODE_STOP (R66). -/
def modeStop (r : Req) (s : M) : M := s.hostCommit r 1 .stop
/-- MODE_SAFE (R71). -/
def modeSafe (r : Req) (s : M) : M := s.hostCommit r 1 .safe
/-- SAFE_ACK (R73). -/
def safeAck (r : Req) (s : M) : M := s.hostCommit r 1 .ack
/-- MODE_HOLD (R68). -/
def modeHold (r : Req) (s : M) : M := s.hostCommit r 2 .hold
/-- FORCE_SET (R70). -/
def forceSet (r : Req) (addr : Nat) (v : Word) (s : M) : M := s.hostCommit r 2 (.forceSet addr v)
/-- FORCE_CLEAR (R70): address 0 removes every force. -/
def forceClear (r : Req) (addr : Nat) (s : M) : M := s.hostCommit r 2 (.forceClear addr)
/-- HART_PASS (R278). -/
def hartPass (r : Req) (chan cmd : Nat) (data : List Byte) (s : M) : M := s.hostCommit r 2 (.hartPass (min 15 chan) (min 65535 cmd) (data.take 255))
/-- ACTIVATE ONLINE (R131). -/
def activateOnline (r : Req) (slot : OnlineSlot) (s : M) : M := s.hostCommit r 2 (.online (min 1 slot.slot) slot.ready)
/-- DETACH (R357). -/
def detach (r : Req) (s : M) : M := s.hostCommit r 2 .detach
/-- SWITCHOVER (R350). -/
def switchover (r : Req) (s : M) : M := s.hostCommit r 2 .switchover

/-- A loop command of the host (R218, R412). -/
def M.hostLoop (s : M) (r : Req) (block cmd : Nat) (operand : Word) : M := s.hostCommit r 2 (.loop (min 1023 block) cmd operand)

/-- A loop command that a task or the host may give (R217). -/
def loopBy (who : LoopBy) (block cmd : Nat) (operand : Word) (s : State) : Host.Outcome State Fault Refusal :=
  match who with
  | .task d b => runFy (fyLcmd d b block cmd) s
  | .host r => runM (fun m => m.hostLoop r block cmd operand) s

/-! ### Debugging (R68, R69) -/

/-- HOLD_STEP (R69). -/
def holdStep (r : Req) (count : Nat) (s : M) : M :=
  s.judge r 0x0025 2 [4] [0] fun _ s => { s with ctl := { s.ctl with holdSteps := clampNat 1 65535 count } }.reply r 0

/-- BREAK_SET (R68): refused while DBG_EN reads open. -/
def breakSet (r : Req) (index task off : Nat) (s : M) : M :=
  s.judge r 0x0026 2 [3, 4] [0] fun x s =>
    if !s.on F.idStrapsDbgEn then s.refuse r x 0x0026 6
    else { s with ctl := { s.ctl with breaks := s.ctl.breaks.set none (min 7 index) (some (min 15 task, off)) } }.reply r 0

/-- BREAK_CLEAR (R68). -/
def breakClear (r : Req) (index : Nat) (s : M) : M :=
  s.judge r 0x0027 2 [4] [0] fun _ s => { s with ctl := { s.ctl with breaks := s.ctl.breaks.set none (min 7 index) none } }.reply r 0

/-! ### Reads (R86, R117, R230) -/

/-- Words as bytes, little-endian (R4). -/
def wordsBytes (ws : List Word) : List Byte := ws.flatMap fun w => bytesLE 4 w.toNat

/-- A host read of n registers from `ad` on, with what it latches (R86): a read of STK_COUNT_LO without STK_COUNT_HI keeps the high word for the next read of
STK_COUNT_HI; a read of both takes them from one stroke. -/
def M.readRegs (s : M) (ad n : Nat) : M × List Word :=
  let live := (List.range n).map fun i => if inSys (ad + 4 * i) || inLoop (ad + 4 * i) then s.getReg (ad + 4 * i) else 0#32
  let covers (a : Nat) : Bool := decide (ad ≤ a) && decide (a < ad + 4 * n)
  let low := covers 0x40002004
  if covers 0x40002008 then
    ({ s with run := { s.run with countHi := none } }, match low, s.run.countHi with
      | false, some h => live.set ((0x40002008 - ad) / 4) h
      | _, _ => live)
  else if low then ({ s with run := { s.run with countHi := some (s.reg F.stkCountHi) } }, live)
  else (s, live)

/-- REG_READ (R117): 1 to 256 words, all of one instant. DESIGN CHOICE (log entry 23): an address that is no multiple of 4 reads the word it lies in; the spec
states nothing for it. -/
def regRead (r : Req) (addr count : Nat) (s : M) : M :=
  s.judge r 0x0010 0 anyMode anyRole fun _ s =>
    let x := s.readRegs (addr / 4 * 4) (clampNat 1 256 count)
    x.1.reply r 0 (wordsBytes x.2)

/-- STK_COUNT_LO_READ (R86): a host read of that register alone. -/
def stkCountLoRead (r : Req) (s : M) : M :=
  s.judge r 0x0010 0 anyMode anyRole fun _ s =>
    let x := s.readRegs 0x40002004 1
    x.1.reply r 0 (wordsBytes x.2)

/-- A word of data SRAM as committed, or of the code store window, which is zero beyond LENGTH (R117). -/
def M.readVar (s : M) (ad : Nat) : Word :=
  if inSram ad then memWord s.mem ad
  else if 0x10000000 ≤ ad ∧ ad < 0x10C00000 then
    (match s.activeSlot with
    | some n =>
      let g := s.store.slots.get ImgSlot.empty n
      if ad - 0x10000000 < g.total then memWord g.bytes (ad - 0x10000000) else 0#32
    | none => 0#32)
  else 0#32

/-- VAR_READ (R117); storage words with a single wrong bit are corrected (R168). DESIGN CHOICE (log entry 98): where a storage word has two wrong bits, whose data
are never delivered (R169), the reply has status FAULT_PRESENT and no data. -/
def varRead (r : Req) (addr : Nat) (x : ReadSpan) (s : M) : M :=
  s.judge r 0x0011 0 anyMode anyRole fun _ s =>
    let ads := (List.range (clampNat 1 256 x.count)).map fun i => addr / 4 * 4 + 4 * i
    let e := eccWithin x.ecc (ads.filter inSram)
    let s := s.sramFound e
    if e.bad.isSome then s.reply r 9 else s.reply r 0 (wordsBytes (ads.map s.readVar))

/-- The bytes of a dipper read (R230). -/
def dipperBytes (d : Dipper) (first count : Nat) : List Byte :=
  let n := d.samples.length
  let b := (d.block.map id).getD 0xFFFF
  bytesLE 2 b ++ bytesLE 1 d.cfg ++ bytesLE 1 d.state ++ bytesLE 2 n ++ bytesLE 2 d.bitEvals ++ bytesLE 8 d.stroke0.toNat ++ bytesLE 4 d.amp.toNat ++
    bytesLE 4 d.h.toNat ++ bytesLE 8 0 ++ ((d.samples.reverse.drop first).take count).flatMap fun x => wordsBytes [x.rEff, x.y, x.u, x.inj]

/-- DIPPER_READ (R230): at most 4094 samples, those present. -/
def dipperRead (r : Req) (first count : Nat) (s : M) : M :=
  s.judge r 0x0013 0 anyMode anyRole fun _ s => s.reply r 0 (dipperBytes s.run.dipper first (clampNat 1 4094 count))

/-! ### Restart, time and the pair -/

/-- RESTART (R74, R75, R416): the reply first; kind 0 is warm where R74 allows. -/
def restart (r : Req) (kind : Nat) (s : M) : M :=
  s.judge r 0x002A 2 runModes anyRole fun _ s => (s.emit (.reply r 0 [])).restart (kind != 0)

/-- CLOCK_SET (R328): steps the wall clock and sets quality HOST, unless the quality is PTP. -/
def clockSet (r : Req) (time : DWord) (s : M) : M :=
  s.judge r 0x0052 2 anyMode ownRoles fun x s => s.conclude r x 0x0052 (if s.nat F.wallQualQuality = 4 then 1 else 0) fun s => s.stepWall time 1

/-- JOIN (R337, R352). -/
def join (r : Req) (s : M) : M :=
  s.judge r 0x0061 2 runModes anyRole fun x s => s.conclude r x 0x0061 (if s.role = 4 ∧ !s.holds ∧ s.ropeUp then 0 else 2) M.askJoin

/-- TAKE_BUCKET (R337, R347 row 8): the line is then waited for. -/
def takeBucket (r : Req) (s : M) : M :=
  s.judge r 0x0063 2 [2] anyRole fun x s =>
    s.conclude r x 0x0063 (if s.role = 4 ∧ !s.holds then 0 else 2) fun s => { s with red := { s.red with wantBucket := 8 } }

/-- The command of a code that a shadow module forwards (R337). -/
def pairCommand (code : Nat) : Option HostCmd :=
  if code = 0x22 then some .safe else if code = 0x23 then some .ack else if code = 0x60 then some .detach else if code = 0x62 then some .switchover else none

/-- The oldest forwarded command of a code answered with the lead module's status (R337). -/
def M.answerForwarded (s : M) (code status : Nat) : M :=
  match s.net.forwarded.find? fun q => q.cmd.code == code with
  | none => s
  | some q =>
    let s := { s with net := { s.net with forwarded := s.net.forwarded.erase q } }
    match q.req with
    | some r => s.reply r status
    | none => s

/-- ROPE_COMMAND (R337, R413): a forwarded command waits for the cut as the lead module's own; a reply answers the oldest forwarded command of its
code. -/
def ropeCommand (x : RopeCommand) (s : M) : M :=
  if s.mode < 2 then s
  else
    match x with
    | .reply code st => s.answerForwarded code st
    | .command code principal =>
      match pairCommand code with
      | some c =>
        if ownRoles.contains s.role && s.ctl.primed then
          { s with net := { s.net with queue := s.net.queue ++ [{ req := none, principal := word principal, role := 2, cmd := c, status := none }] } }
        else s
      | none => s

/-! ### What the commands do -/

/-- SESSION_OPEN (R330). -/
def execSessionOpen (h : Handshake) (s : State) : Host.Outcome State Fault Refusal := runM (sessionOpen h) s

/-- SESSION_IDLE_TIMEOUT (R330). -/
def execSessionIdleTimeout (id : Nat) (s : State) : Host.Outcome State Fault Refusal := runM (sessionIdleTimeout id) s

/-- AUTH_LOCKOUT_END (R398). -/
def execAuthLockoutEnd (addr : Word) (s : State) : Host.Outcome State Fault Refusal := runM (authLockoutEnd addr) s

/-- USB_ATTACH (R333). -/
def execUsbAttach (s : State) : Host.Outcome State Fault Refusal := runM usbAttach s

/-- USB_DETACH (R333). -/
def execUsbDetach (s : State) : Host.Outcome State Fault Refusal := runM usbDetach s

/-- ROPE_COMMAND (R337). -/
def execRopeCommand (x : RopeCommand) (s : State) : Host.Outcome State Fault Refusal := runM (ropeCommand x) s

/-- STK_COUNT_LO_READ (R86). -/
def execStkCountLoRead (r : Req) (s : State) : Host.Outcome State Fault Refusal := runM (stkCountLoRead r) s

/-- TUNE_START (R219). -/
def execTuneStart (who : LoopBy) (block : Nat) (rule : Word) (s : State) : Host.Outcome State Fault Refusal := loopBy who block 2 rule s

/-- TUNE_ACCEPT (R224). -/
def execTuneAccept (who : LoopBy) (block : Nat) (s : State) : Host.Outcome State Fault Refusal := loopBy who block 3 0#32 s

/-- TUNE_DISCARD (R224). -/
def execTuneDiscard (who : LoopBy) (block : Nat) (s : State) : Host.Outcome State Fault Refusal := loopBy who block 4 0#32 s

/-- TUNE_ABORT (R222). -/
def execTuneAbort (who : LoopBy) (block : Nat) (s : State) : Host.Outcome State Fault Refusal := loopBy who block 5 0#32 s

/-- INJECT_START (R227). -/
def execInjectStart (who : LoopBy) (block : Nat) (s : State) : Host.Outcome State Fault Refusal := loopBy who block 6 0#32 s

/-- INJECT_STOP (R228). -/
def execInjectStop (who : LoopBy) (block : Nat) (s : State) : Host.Outcome State Fault Refusal := loopBy who block 7 0#32 s

/-- REG_READ (R117). -/
def execRegRead (r : Req) (addr count : Nat) (s : State) : Host.Outcome State Fault Refusal := runM (regRead r addr count) s

/-- VAR_READ (R117). -/
def execVarRead (r : Req) (addr : Nat) (count : ReadSpan) (s : State) : Host.Outcome State Fault Refusal := runM (varRead r addr count) s

/-- VAR_WRITE (R125). -/
def execVarWrite (r : Req) (ws : List (Nat × Word)) (s : State) : Host.Outcome State Fault Refusal := runM (varWrite r ws) s

/-- DIPPER_READ (R230). -/
def execDipperRead (r : Req) (first count : Nat) (s : State) : Host.Outcome State Fault Refusal := runM (dipperRead r first count) s

/-- MODE_RUN (R66). -/
def execModeRun (r : Req) (s : State) : Host.Outcome State Fault Refusal := runM (modeRun r) s

/-- MODE_STOP (R66). -/
def execModeStop (r : Req) (s : State) : Host.Outcome State Fault Refusal := runM (modeStop r) s

/-- MODE_SAFE (R71). -/
def execModeSafe (r : Req) (s : State) : Host.Outcome State Fault Refusal := runM (modeSafe r) s

/-- SAFE_ACK (R73). -/
def execSafeAck (r : Req) (s : State) : Host.Outcome State Fault Refusal := runM (safeAck r) s

/-- MODE_HOLD (R68). -/
def execModeHold (r : Req) (s : State) : Host.Outcome State Fault Refusal := runM (modeHold r) s

/-- HOLD_STEP (R69). -/
def execHoldStep (r : Req) (count : Nat) (s : State) : Host.Outcome State Fault Refusal := runM (holdStep r count) s

/-- BREAK_SET (R68). -/
def execBreakSet (r : Req) (index task off : Nat) (s : State) : Host.Outcome State Fault Refusal := runM (breakSet r index task off) s

/-- BREAK_CLEAR (R68). -/
def execBreakClear (r : Req) (index : Nat) (s : State) : Host.Outcome State Fault Refusal := runM (breakClear r index) s

/-- FORCE_SET (R70). -/
def execForceSet (r : Req) (addr : Nat) (v : Word) (s : State) : Host.Outcome State Fault Refusal := runM (forceSet r addr v) s

/-- FORCE_CLEAR (R70). -/
def execForceClear (r : Req) (addr : Nat) (s : State) : Host.Outcome State Fault Refusal := runM (forceClear r addr) s

/-- RESTART (R74). -/
def execRestart (r : Req) (kind : Nat) (s : State) : Host.Outcome State Fault Refusal := runM (restart r kind) s

/-- ACTIVATE_ONLINE (R131). -/
def execActivateOnline (r : Req) (slot : OnlineSlot) (s : State) : Host.Outcome State Fault Refusal := runM (activateOnline r slot) s

/-- HART_PASS (R278). -/
def execHartPass (r : Req) (chan cmd : Nat) (data : List Byte) (s : State) : Host.Outcome State Fault Refusal := runM (hartPass r chan cmd data) s

/-- CLOCK_SET (R328). -/
def execClockSet (r : Req) (time : DWord) (s : State) : Host.Outcome State Fault Refusal := runM (clockSet r time) s

/-- DETACH (R357). -/
def execDetach (r : Req) (s : State) : Host.Outcome State Fault Refusal := runM (detach r) s

/-- JOIN (R352). -/
def execJoin (r : Req) (s : State) : Host.Outcome State Fault Refusal := runM (join r) s

/-- SWITCHOVER (R350). -/
def execSwitchover (r : Req) (s : State) : Host.Outcome State Fault Refusal := runM (switchover r) s

/-- TAKE_BUCKET (R347). -/
def execTakeBucket (r : Req) (s : State) : Host.Outcome State Fault Refusal := runM (takeBucket r) s

/-- MALFORMED_HEADER (R332). -/
def execMalformedHeader (r : Req) (code : Nat) (s : State) : Host.Outcome State Fault Refusal := runM (malformedHeader r code) s

/-- UNKNOWN_COMMAND (R332). -/
def execUnknownCommand (r : Req) (code : Nat) (s : State) : Host.Outcome State Fault Refusal := runM (unknownCommand r code) s

end Sys2Proof.Machine
end

