-- ==== Sys2Proof/Machine/Images.lean ====
section
/-! DEFINITION. Images and firmware: downloads, the verifier, activation at a restart, what the rope forwards (R108 to R113, R126 to R130, R352, R358,
R359, R403, R406 to R409, R412, R416). -/

namespace Sys2Proof.Machine

/-! ### Downloads -/

/-- The image slot. -/
def M.img (s : M) (n : Nat) : ImgSlot := s.store.slots.get ImgSlot.empty n

/-- The firmware slot. -/
def M.fwImg (s : M) (n : Nat) : FwSlot := s.store.fw.get FwSlot.empty n

/-- Bytes written from an offset on. -/
def putBytes (t : Tab Byte) (off : Nat) (bs : List Byte) : Tab Byte := bs.zipIdx.foldl (init := t) fun t b => t.set 0#8 (off + b.2) b.1

/-- ID_IMG_ID and ID_IMG_BUILD of a slot (R129). -/
def M.showIdent (s : M) (n : Nat) : M :=
  let h := s.identityOf n
  ((s.set (F.idImgIdLo n) (word (ofBytesLE (h.take 4)))).set (F.idImgIdHi n) (word (ofBytesLE ((h.drop 4).take 4)))).setN (F.idImgBuild n) (s.slotWord n 0x30)

/-- A download to an image slot begins: its former content is discarded (R126). -/
def M.beginImage (s : M) (n total : Nat) : M :=
  let s := { s with store := { s.store with slots := s.store.slots.set ImgSlot.empty n { ImgSlot.empty with total := total } } }
  [(F.idImgSlotState n, 1), (F.idImgSlotVerdict n, 0), (F.idImgSlotChangeBlock n, 0), (F.idImgIdLo n, 0), (F.idImgIdHi n, 0), (F.idImgBuild n, 0)].foldl (init := s)
    fun s (x : Nat × Nat) => s.setN x.1 x.2

/-- An image slot REFUSED with a verdict (R113). -/
def M.refuseImage (s : M) (n verdict task off : Nat) : M :=
  ((s.setN (F.idImgSlotState n) 4).setN (F.idImgSlotVerdict n) verdict).hw (ev 0x0011 0x1020 verdict task off)

/-- Bytes received for an image slot; with the last of them it is VERIFYING where LENGTH matches, and otherwise REFUSED, FORMAT (R126). -/
def M.addImage (s : M) (n : Nat) (data : List Byte) : M :=
  let g := s.img n
  let bs := data.take (g.total - g.received)
  let g := { g with bytes := putBytes g.bytes g.received bs, received := g.received + bs.length }
  let s := { s with store := { s.store with slots := s.store.slots.set ImgSlot.empty n g } }
  if g.received < g.total then s
  else
    let s := s.showIdent n
    if s.slotWord n 0x08 = g.total then s.setN (F.idImgSlotState n) 2 else s.refuseImage n 2 0 0

/-- IMAGE_DOWNLOAD (R126, R127, R412): into the slot that is not ACTIVE. -/
def imageDownload (r : Req) (offset total : Nat) (data : List Byte) (s : M) : M :=
  s.judge r 0x0030 2 runModes ownRoles fun x s =>
    let n := s.spareSlot
    if s.store.change.isSome then s.refuse r x 0x0030 3
    else if offset = 0 then ({ s with store := { s.store with fromRope := false, imageFrom := some r.sess } }.beginImage n total |>.addImage n (data.take 65528)).reply r 0
    else if s.slotState n ≠ 1 ∨ s.store.fromRope ∨ offset ≠ (s.img n).received then s.refuse r x 0x0030 28
    else ({ s with store := { s.store with imageFrom := some r.sess } }.addImage n (data.take 65528)).reply r 0

/-! ### The verifier (R111, R112) -/

/-- Whether SIGNATURE verifies under SIGNER_KEY and the key is a trust anchor (R111); image and firmware headers agree here. -/
def signedBy (bytes : Tab Byte) (anchors : List (List Byte)) : Bool :=
  let part (off n : Nat) : List Byte := (List.range n).map fun i => bytes.get 0#8 (off + i)
  anchors.contains (part 0x58 32) && Config.ed25519 (part 0x58 32) (part 0 0xC0) (part 0xC0 64)

/-- Whether BODY_HASH matches the bytes from 0x100 on. -/
def hashMatches (bytes : Tab Byte) (length : Nat) : Bool :=
  ((List.range 32).map fun i => bytes.get 0#8 (0x38 + i)) == Config.sha256 ((List.range (length - 0x100)).map fun i => bytes.get 0#8 (0x100 + i))

/-- What the verifier finds: a cause of refusal with the instruction that shows it, where one does. -/
abbrev Finding := Nat × Option Nat

/-- The first of several checks that fails; each is made only when those before it have passed. -/
def firstOf : List (Unit → Option Finding) → Option Finding
  | [] => none
  | c :: r =>
    match c () with
    | some x => some x
    | none => firstOf r

/-- A cause that no instruction shows. -/
def causeIf (code : Nat) (bad : Bool) : Option Finding := if bad then some (code, none) else none

/-- A cause that an instruction shows. -/
def causeAt (code : Nat) (pc : Option Nat) : Option Finding := pc.map fun p => (code, some p)

/-- The section descriptor table at offset 0x100 (R110): offset and length of TASKS, CODE, CONST, LAYOUT, SYMBOLS, OWNERSHIP, LOOPS, CONFIG and INIT. DESIGN CHOICE
(log entry 11): each descriptor is two words, the offset within the image first. -/
def sectionTable (bytes : Tab Byte) : List (Nat × Nat) :=
  (List.range 9).map fun i => ((memWord bytes (0x100 + 8 * i)).toNat, (memWord bytes (0x104 + 8 * i)).toNat)

/-- Whether sections follow one another in order from `start` on and end within LENGTH. -/
def sectionsFit (length : Nat) : Nat → List (Nat × Nat) → Bool
  | _, [] => true
  | start, x :: r => decide (start ≤ x.1) && decide (x.1 + x.2 ≤ length) && sectionsFit length (x.1 + x.2) r

/-- The instruction words of CODE as the image holds them. -/
def codeSection (bytes : Tab Byte) : List Word :=
  let x := (sectionTable bytes).getD 1 (0, 0)
  (List.range (x.2 / 4)).map fun i => memWord bytes (x.1 + 4 * i)

/-- The checks of R112 in the order of its codes. -/
def M.checks (s : M) (n : Nat) (b : ImageBody) : List (Unit → Option Finding) :=
  let g := s.img n
  let w (off : Nat) := s.slotWord n off
  let tb := w 0x0C
  [fun _ => causeIf 2 (w 0 != 0x49325946 || w 4 % 65536 != 2 || decide (w 8 > 12582912) || w 8 != g.total || !sectionsFit g.total 0x148 (sectionTable g.bytes) || b.code != codeSection g.bytes ||
      b.malformed || badTasks b || badLoops b),
    fun _ => causeAt 2 ((allInstrs b).find? fun p => !refFits b p), fun _ => causeIf 3 (!signedBy g.bytes (anchorList s.store.images)),
    fun _ => causeIf 4 (!hashMatches g.bytes g.total), fun _ => causeIf 5 (decide (w 0x34 > s.nat F.idFwVersion)),
    fun _ => causeIf 6 (decide (tb < 100) || decide (tb > 50000) || tb % 10 != 0), fun _ => causeAt 7 (badOpcode b), fun _ => causeAt 8 (badFlow b),
    fun _ => causeAt 9 (badBounds b), fun _ => causeAt 10 (badOwner b), fun _ => causeAt 11 (badBudget b tb),
    fun _ => (let x := scanConfig b g.bytes g.total
      causeIf 12 (decide (manifestBound b x tb (w 0x10) (w 0x14) > 8192) || (hartIn x && decide (w 0x14 < 264)))),
    fun _ => causeIf 13 (decide (publishedBytes b > min 16384 (w 0x1C))), fun _ => causeIf 14 (decide (dueAtOnce b > min 1024 (37 * (tb - 30) / 10))),
    fun _ => causeIf 15 (badResources b), fun _ => causeIf 16 (decide (primingCost b > 6000000)), fun _ => causeIf 17 (scanConfig b g.bytes g.total).bad]

/-- The verdict: the first cause found, or none where the image is ACCEPTED (R112). -/
def M.finding (s : M) (n : Nat) (b : ImageBody) : Option Finding := firstOf (s.checks n b)

/-- The task in whose code an instruction lies, 0 where it is in none's. -/
def taskAt (b : ImageBody) (pc : Nat) : Nat := (((tasksOf b pc).head?).map (·.num)).getD 0

/-- What follows an ACCEPTED image: a joiner that was refused for its image activates it, a lead module forwards its own (R352, R358). -/
def M.imageAccepted (s : M) (n : Nat) (b : ImageBody) : M :=
  let s := { s with store := { s.store with slots := s.store.slots.upd ImgSlot.empty n fun g => { g with body := loadDurations (s.slotWord n 0x0C) b } } }
  let s := ((s.setN (F.idImgSlotState n) 3).setN (F.idImgSlotVerdict n) 1).showBlocks
  if s.store.fromRope then
    let asked := s.role = 4 ∧ s.red.refusal = 5
    let s := { s with store := { s.store with fromRope := false } }
    if asked then { s with aon := { s.aon with joinAgain := true } }.activateCold n else s
  else if s.inStep then s.forwardSpare else s

/-- What follows a REFUSED image: a joiner that was refused for its image stays DETACHED (R352, R356). -/
def M.imageRefused (s : M) (n verdict task off : Nat) : M :=
  let asked := s.store.fromRope ∧ s.role = 4 ∧ s.red.refusal = 5
  let s := { s with store := { s.store with fromRope := false } }.refuseImage n verdict task off
  if asked then { s with red := { s.red with refusal := 0 } }.abortJoin 7 verdict else s

/-- VERIFIER_DONE (R111 to R113): the slot's sections as the verifier reads them; a refusal names the task and the instruction offset where its
cause has one. -/
def verifierDone (slot : Nat) (b : ImageBody) (s : M) : M :=
  if s.mode < 2 ∨ slot > 1 ∨ s.slotState slot ≠ 2 then s
  else
    match s.finding slot b with
    | none => s.imageAccepted slot b
    | some (v, none) => s.imageRefused slot v 0 0
    | some (v, some pc) => s.imageRefused slot v (taskAt b pc) pc

/-- ACTIVATE AT_RESTART (R128, R416): the reply first. While an online change counts down it is a second ACTIVATE, and refused BUSY (R134). -/
def activateAtRestart (r : Req) (slot : Nat) (s : M) : M :=
  let n := min 1 slot
  s.judge r 0x0031 2 runModes anyRole fun x s =>
    if s.slotState n ≠ 3 then s.refuse r x 0x0031 12
    else if s.store.change.isSome then s.refuse r x 0x0031 3
    else (s.emit (.reply r 0 [])).activateCold n

/-! ### What the rope brings (R352, R358, R403) -/

/-- Whether a module takes forwarded image bytes: the shadow module of a pair, or a module whose join was refused for its image. -/
def M.takesImage (s : M) : Bool := s.role == 2 || (s.role == 4 && s.red.refusal == 5 && !s.holds)

/-- SEC_IMG_ANCHOR and SEC_CLI_ANCHOR (R411). -/
def M.showAnchors (s : M) : M :=
  let mark (t : Tab (List Byte)) (i : Nat) : Word :=
    let c := t.get [] i
    if c.isEmpty then 0#32 else low32 (Config.sha256 c)
  foldNat 8 s fun s i => (s.set (F.secImgAnchor i) (mark s.store.images i)).set (F.secCliAnchor i) (mark s.store.clients i)

/-- A list as the places of a set. -/
def placesOf (l : List (List Byte)) : Tab (List Byte) := (l.take 8).zipIdx.map fun x => (x.2, x.1)

/-- ROPE_IMAGE (R352, R358, R403): image bytes into the inactive slot, in order from offset 0; or the holder's trust material, which only a module
without client and image anchors installs. -/
def ropeImage (x : RopeImage) (s : M) : M :=
  if s.mode < 2 ∨ !s.ropeUp then s
  else
    let n := s.spareSlot
    match x with
    | .anchors images clients deny =>
      if s.takesImage && !s.claimed && placesUsed s.store.images == 0 then
        ({ s with store := { s.store with images := placesOf images, clients := placesOf clients, deny := deny.take 16 } }.showAnchors).hw (ev 0x0070 0x1086)
      else s
    | .bytes offset total data =>
      if !s.takesImage then s
      else if offset = 0 then { s with store := { s.store with fromRope := true, imageFrom := none } }.beginImage n total |>.addImage n data
      else if s.store.fromRope && s.slotState n == 1 && offset == (s.img n).received then s.addImage n data
      else s

/-! ### Firmware (R359, R406 to R409) -/

/-- The firmware slot that does not run. -/
def M.spareFw (s : M) : Nat := if s.on (F.secFwSlotActive 0) then 1 else 0

/-- A word of a firmware header (R406). -/
def M.fwWord (s : M) (n off : Nat) : Nat := (memWord (s.fwImg n).bytes off).toNat

/-- A download to a firmware slot begins. -/
def M.beginFw (s : M) (n total : Nat) : M :=
  let s := { s with store := { s.store with fw := s.store.fw.set FwSlot.empty n { FwSlot.empty with total := total } } }
  [(F.secFwSlotState n, 1), (F.secFwSlotVerdict n, 0), (F.secFwVersion n, 0), (F.secFwLevelsRopeVersion n, 0), (F.secFwLevelsRollback n, 0)].foldl (init := s)
    fun s (x : Nat × Nat) => s.setN x.1 x.2

/-- A firmware slot changed. -/
def M.updFw (s : M) (n : Nat) (f : FwSlot → FwSlot) : M := { s with store := { s.store with fw := s.store.fw.upd FwSlot.empty n f } }

/-- Bytes appended to a firmware slot. -/
def FwSlot.add (g : FwSlot) (data : List Byte) : FwSlot :=
  let bs := data.take (g.total - g.received)
  { g with bytes := putBytes g.bytes g.received bs, received := g.received + bs.length }

/-- A firmware slot with all its bytes: its header is shown and it is being checked where LENGTH matches (R126, R407, R411). -/
def M.fwLoaded (s : M) (n : Nat) : M :=
  let roll := s.fwWord n 0x14
  let s := s.updFw n fun g => { g with rollback := roll }
  let s := [(F.secFwVersion n, s.fwWord n 0x0C), (F.secFwLevelsRopeVersion n, s.fwWord n 0x10 % 65536), (F.secFwLevelsRollback n, roll % 65536)].foldl (init := s)
    fun s (x : Nat × Nat) => s.setN x.1 x.2
  if s.fwWord n 8 = (s.fwImg n).total then s.setN (F.secFwSlotState n) 2
  else (s.setN (F.secFwSlotState n) 4).setN (F.secFwSlotVerdict n) 2

/-- Bytes received for a firmware slot. -/
def M.addFw (s : M) (n : Nat) (data : List Byte) : M :=
  let s := s.updFw n fun g => g.add data
  if (s.fwImg n).received < (s.fwImg n).total then s else s.fwLoaded n

/-- FW_DOWNLOAD (R359, R407, R412). -/
def fwDownload (r : Req) (offset total : Nat) (data : List Byte) (s : M) : M :=
  s.judge r 0x0032 2 runModes [0, 4] fun x s =>
    let n := s.spareFw
    let mine := { s with store := { s.store with fwFrom := some r.sess } }
    if offset = 0 then (mine.beginFw n total |>.addFw n (data.take 65528)).reply r 0
    else if s.nat (F.secFwSlotState n) ≠ 1 ∨ offset ≠ (s.fwImg n).received then s.refuse r x 0x0032 28
    else (mine.addFw n (data.take 65528)).reply r 0

/-- The firmware anchors, fixed at manufacture (R399). -/
def firmwareAnchors : List (List Byte) := [Config.firmwareAnchor 0, Config.firmwareAnchor 1]

/-- The verdict of a firmware image: the first failing check, or 1 ACCEPTED (R407). -/
def M.fwVerdict (s : M) (n : Nat) : Nat :=
  let g := s.fwImg n
  let w (off : Nat) := s.fwWord n off
  let causes : List (Nat × Bool) := [(2, w 0 != 0x4B465752 || w 4 % 65536 != 1 || decide (w 8 > 3145728) || w 8 != g.total), (3, !signedBy g.bytes firmwareAnchors),
    (4, !hashMatches g.bytes g.total), (5, decide (w 4 / 65536 > s.nat F.idProductHwRev)), (6, decide (w 0x14 < s.nat F.secRollback))]
  ((causes.find? fun c => c.2).map (·.1)).getD 1

/-- FW_CHECK_DONE (R407). -/
def fwCheckDone (slot : Nat) (s : M) : M :=
  if s.mode < 2 ∨ slot > 1 ∨ s.nat (F.secFwSlotState slot) ≠ 2 then s
  else
    let v := s.fwVerdict slot
    (s.setN (F.secFwSlotVerdict slot) v).setN (F.secFwSlotState slot) (if v = 1 then 3 else 4)

/-- FW_ACTIVATE (R408, R416): the reply first, then NEXT and a cold restart. -/
def fwActivate (r : Req) (slot : Nat) (s : M) : M :=
  let n := min 1 slot
  s.judge r 0x0033 2 runModes [0, 4] fun x s =>
    if s.nat (F.secFwSlotState n) ≠ 3 then s.refuse r x 0x0033 12
    else (foldNat 2 (s.emit (.reply r 0 [])) fun s i => s.setB (F.secFwSlotNext i) (i == n)).restart true

/-! ### What the commands do -/

/-- VERIFIER_DONE (R112). -/
def execVerifierDone (slot : Nat) (b : ImageBody) (s : State) : Host.Outcome State Fault Refusal := runM (verifierDone slot b) s

/-- FW_CHECK_DONE (R407). -/
def execFwCheckDone (slot : Nat) (s : State) : Host.Outcome State Fault Refusal := runM (fwCheckDone slot) s

/-- ROPE_IMAGE (R358). -/
def execRopeImage (x : RopeImage) (s : State) : Host.Outcome State Fault Refusal := runM (ropeImage x) s

/-- IMAGE_DOWNLOAD (R126). -/
def execImageDownload (r : Req) (offset total : Nat) (data : List Byte) (s : State) : Host.Outcome State Fault Refusal := runM (imageDownload r offset total data) s

/-- ACTIVATE_AT_RESTART (R128). -/
def execActivateAtRestart (r : Req) (slot : Nat) (s : State) : Host.Outcome State Fault Refusal := runM (activateAtRestart r slot) s

/-- FW_DOWNLOAD (R407). -/
def execFwDownload (r : Req) (offset total : Nat) (data : List Byte) (s : State) : Host.Outcome State Fault Refusal := runM (fwDownload r offset total data) s

/-- FW_ACTIVATE (R408). -/
def execFwActivate (r : Req) (slot : Nat) (s : State) : Host.Outcome State Fault Refusal := runM (fwActivate r slot) s

end Sys2Proof.Machine
end

