-- ==== Sys2Proof/Machine/Stroke.lean ====
section
/-! DEFINITION. The tick and the stroke: the first commit of a priming, the commit and cut at each tick, resumption after skipped strokes, role
events, the manifest of a shadow module, digests and the pace monitor (R34, R66, R76, R79, R87, R95, R102 to R104, R349, R350, R355, R357). -/

namespace Sys2Proof.Machine

/-! ### The first commit of a priming (R76 step 9) -/

/-- The mode that a priming ends in, and the SAFE cause (R66, R79): the latch, a SAFE input, MODE_SAFE accepted meanwhile or BUCKET_STUCK, else the
start policy. -/
def M.startMode (s : M) : Nat × Nat :=
  if s.on F.modStatusSafeLatched then (5, 7)
  else if s.safeSeen false || s.safeSeen true then (5, if s.safeSeen false then (if s.safeSeen true then 4 else 2) else 3)
  else
    match s.ctl.nextMode with
    | some (_, m, c) => (m, c)
    | none =>
      if s.ctl.cold then (if s.on F.modPolicyColdPolicy then 3 else 2, 0)
      else
        match s.nat F.modPolicyWarmPolicy with
        | 1 => (3, 0)
        | 2 => (if s.nat F.modPrevPrevMode = 3 then 3 else 2, 0)
        | _ => (2, 0)

/-- LOOP_U written to the destination of every declared loop with OUT_EN (R185). -/
def M.startOutputs (s : M) : M :=
  s.blocks.foldl (init := s) fun s b =>
    if bitAt (s.getReg (loopAddr b 0x08)) 31 then s.storeWord (s.nat (F.loopOutAddr b)) (s.reg (F.loopU b)) else s

/-- GRP_STATUS 0; in a cold start GRP_U from GRP_MAN, on the destination too (R212). -/
def M.startGroups (s : M) : M :=
  s.body.groups.foldl (init := s) fun s g =>
    let rec0 := g.2.1
    if s.ctl.cold then
      let u := realClamp realNeg1e9 real1e9 (realRead (memWord s.mem rec0))
      ((s.storeWord (rec0 + 8) 0x28#32).storeWord (rec0 + 12) u).storeWord g.2.2 u
    else s.storeWord (rec0 + 8) 0#32

/-- SEC_ROLLBACK takes the running firmware's ROLLBACK; slots below it are REFUSED with verdict ROLLBACK, which is 6 (R407, R409). -/
def M.raiseRollback (s : M) : M :=
  let level (n : Nat) := (s.store.fw.get FwSlot.empty n).rollback
  let lv := level (if s.on (F.secFwSlotActive 1) then 1 else 0)
  if lv ≤ s.nat F.secRollback then s
  else
    foldNat 2 (s.setN F.secRollback lv) fun s n =>
      if (s.nat (F.secFwSlotState n) = 3 ∨ s.nat (F.secFwSlotState n) = 2) ∧ level n < lv then
        (s.setN (F.secFwSlotState n) 4).setN (F.secFwSlotVerdict n) 6
      else s

/-- The mode of a priming's end entered: STOP and SAFE hold what RUN would drive (R434); a holder in SAFE is the safe driver (R336). -/
def M.enterStart (s : M) (m cause : Nat) : M :=
  let s := if m = 2 ∨ m = 5 then s.holdAll true else s
  let s := { s with ctl := { s.ctl with nextMode := none } }
  if m = 5 then s.enterSafe cause else s.setN F.modStatusMode m

/-- What completes with the first commit (R81, R82, R362, R174). -/
def M.startDone (s : M) : M :=
  let s := (s.setN F.modStartFailedCold 0).setN F.modStartFailedWarm 0
  let s := s.showPriming
  { s with
    aon := { s.aon with f3 := false }, ctl := { s.ctl with firstCommit := false }
    saves := { s.saves with asked := true } }.raiseRollback

/-- The first commit, at S of stroke k1; PTP_EN and LOCK_SRC take effect with it (R116, R325). DESIGN CHOICE (log entry 87): the checkpoint that it forces
(R174) records the number of the stroke that a commit ended; at a cold priming, where none has ended, it records 0. -/
def M.firstCommitAt (s : M) (k1 : DWord) (onBus : List Nat) : M :=
  let old := setField (setField s.fields F.ptpCfgPtpEn 0#32) F.stkTimebaseLockSrc 0#32
  let p := s.run.pend
  let s := { s with run := { s.run with pend := Pend.empty } }
  let s := (((s.applyPlain p.writes).applyBits p.writes).startOutputs).startGroups
  let c := s.startMode
  let s := (s.enterStart c.1 c.2).doEffects onBus p.effects
  let s := { s with run := { s.run with pend := { s.run.pend with effects := (eventsOf p.effects).map fun (e : Event) => (e.source, Effect.event e) } } }
  ((s.startDone.passOutputs old onBus).commitEnd k1 s.run.committed k1 s.wall).autoJoin

/-! ### Resumption (R349) -/

/-- Loops due in the skipped strokes become fresh (R191): the `n` strokes before k1. -/
def M.freshenSkipped (s : M) (k1 : DWord) (n : Nat) : M :=
  s.blocks.foldl (init := s) fun s b =>
    let due := (List.range (min n (s.nat (F.loopPeriodKL b)))).any fun j =>
      loopDue { s.run.snap with stroke := k1 - BitVec.ofNat 64 (j + 1), fields := s.fields } b
    if due then s.setB (F.loopStatusFresh b) true else s

/-- The tick at which a module goes on after strokes that it did not commit: committed values passed on, loops fresh, and after a takeover its event
with the number of skipped strokes. -/
def M.resume (s : M) (k1 : DWord) (onBus : List Nat) : M :=
  let old := s.fields
  let was := s.mode
  let n := s.red.skipped + 1
  let s := ((s.freshenSkipped k1 n).boundaryMode k1).dropStale was onBus
  let s := (s.modeLoops was).passOutputs old onBus
  let took := s.red.wantBucket == 5
  let s := { s with run := { s.run with abandoned := false }, red := { s.red with skipped := 0, wantBucket := if took then 0 else s.red.wantBucket } }
  let s := if took then s.toRole s.role 7 n else s
  (s.answerRestart none s.stroke).commitEnd k1 s.run.committed s.stroke s.run.wallAt

/-- A stroke skipped: counted, nothing committed or executed; a holder still reads its SSI encoders at S (R248). -/
def M.skipStroke (s : M) (k1 : DWord) : M :=
  { s with run := { s.run with compare := 0, executed := false, partner := none }
           red := { s.red with skipped := s.red.skipped + 1 } }.triggerSsi.set64 F.stkCountLo F.stkCountHi k1

/-! ### Role events at a boundary (R350, R357) -/

/-- ROLE_AT of a handover: the old lead module releases after its commit; the shadow module is to take. The snapshot of this stroke still takes the old lead
module's own data, which its supplies fed (R350 step 3). -/
def M.handOver (s : M) (onBus : List Nat) : M :=
  if s.role = 1 then
    let s := { s.release false with aio := s.aio }.ropeOut .handover
    foldNat 2 s fun s p => s.dropTx onBus p false
  else if s.role = 2 then { s with red := { s.red with taker := true } }
  else s

/-- The stroke after ROLE_AT of a handover: the roles change; a Fytric request that the old lead module has not yet taken into a snapshot is the new one's, in whose
own State it stands. -/
def M.swapRoles (s : M) : M :=
  if s.role = 1 then ((s.refuseWrites.toRole 2 8).bump F.redCntSwitchovers 255 1).setN F.redStatusPartnerRole 1
  else if s.role = 2 ∧ s.holds then (((s.toRole 1 8).bump F.redCntSwitchovers 255 1).setN F.redStatusPartnerRole 2).forwardSpare
  else { s with red := { s.red with roleEvent := 0, roleAsked := false } }

/-- The role event announced, at S of stroke k1. -/
def M.roleBoundary (s : M) (k1 : DWord) (onBus : List Nat) : M :=
  let at1 := s.red.roleAt
  if s.red.roleEvent = 2 ∧ at1.toNat ≤ k1.toNat then
    if s.role = 2 then s.cancelChange.toRole 4 9 else if s.role = 1 then s.toRole 4 9 else s
  else if s.red.roleEvent = 1 ∧ at1 = k1 then s.handOver onBus
  else if s.red.roleEvent = 1 ∧ at1.toNat < k1.toNat then s.swapRoles
  else s

/-- The joiner's catch-up at S of stroke c: SHADOW in the pair's mode (R355, R65), with which the priming of one that joined in its bucket step ends (R76,
R79). DESIGN CHOICE (log entry 21): a latch that the joiner brought along stays set, as only SAFE_ACK clears it (R72), while the module is in the mode of the pair. -/
def M.catchUp (s : M) (k1 : DWord) : M :=
  if s.role = 3 ∧ s.red.catchup = some k1 then
    let mode := (s.red.partner.map (·.mode)).getD s.mode
    let cause := (getField ((s.run.manifest.map (·.fields)).getD []) F.modStatusSafeCause).toNat
    let s := if mode = 5 ∧ s.mode ≠ 5 then s.enterSafe cause
      else if 2 ≤ mode ∧ mode ≤ 4 then (s.setN F.modStatusMode mode).setN F.modStatusSafeCause 0 else s
    let s := if s.ctl.firstCommit then s.startDone else s
    (s.joinDone.toRole 2 10).showListen
  else s

/-! ### The tick (R87) -/

/-- STRAP_CHANGED (R34): the live straps differ from the latched ones; once. -/
def M.checkStraps (s : M) (x : TickIn) : M :=
  if (x.station % 64 ≠ s.nat F.idStrapsStationAddr ∨ x.slotB ≠ s.on F.idStrapsSlot) ∧ !s.on F.idStrapsStrapChanged then
    (s.setB F.idStrapsStrapChanged true).hw (ev 0x0010 0x1010)
  else s

/-- The bucket step at a tick: with the partner present and the line held there is no take, and with the rope UP and AUTO_JOIN, or again after code 5, the module asks for a join and
waits for the answer (R76, row 3 of R347); nor does slot B take with ROPE off. -/
def M.judgeStep8 (s : M) : M :=
  if s.red.absent then s
  else if s.on F.idStrapsBucketLine then
    if s.ropeUp && s.joinsItself && !s.red.noJoin then (if s.red.joinAsked then s else s.askJoin) else s.leaveStep8 4
  else if s.on F.idStrapsSlot && !s.on F.pwrCtrlRopeEn then s.leaveStep8 4
  else s

/-- Whether the lease is renewed at S of stroke k1 (R87 step 1a, R350): never in SAFE, in step only on a match, and not by the old lead module of a
handover. -/
def M.mayRenew (s : M) (k1 : DWord) : Bool :=
  s.holds && s.mode != 5 && !s.ctl.firstCommit && !s.run.abandoned && (!s.inStep || s.run.compare == 1) &&
    !(s.role == 1 && s.red.roleEvent == 1 && s.red.roleAt == k1)

/-- The commit side of a tick. -/
def M.commitAt (s : M) (k1 : DWord) (onBus : List Nat) : M :=
  if s.ctl.firstCommit && s.role != 3 then s.firstCommitAt k1 onBus
  else if s.run.abandoned || s.red.wantBucket == 5 then s.resume k1 onBus
  else if s.inStep && s.run.compare != 1 then s.abandon.discardStroke.resume k1 onBus
  else s.commit k1 onBus

/-- The stroke executed, unless the lanes of the loop engine disagree on a block of it, which is an F3 fault (R20, R201). DESIGN CHOICE (log entry 88): the
event names the block in its source alone, all its parameters being 0, as the spec states none. -/
def M.executeLanes (s : M) : M :=
  match s.run.lane with
  | some b => if s.mode = 3 ∨ s.mode = 4 then s.f3 (ev (0x0500 + b % 1024) 0x7505) 4 else s.execute
  | none => s.execute

/-- The snapshot side of a tick: a module that acts on its own data cuts and executes; a shadow module or a joiner freezes its local data and waits for
the manifest (R16). -/
def M.beginStroke (s : M) (x : TickIn) : M :=
  let s := { s with run := { s.run with compare := 0, executed := false, partner := none, manifest := none, lane := x.laneFault, parked := none
                                        paceDue := false, exchanged := false, wallAt := s.wall } }
  if s.role = 2 ∨ s.role = 3 then s.cutDw.cutAw.showIdleAio else s.triggerSsi.cutOwn.executeLanes

/-- The number of the stroke that begins at a tick (R86). -/
def M.nextStroke (s : M) : DWord := if s.ctl.firstCommit && s.ctl.cold && s.role != 3 then 0#64 else s.stroke + 1#64

/-- A tick of a module that has primed. A shadow module shows the lease that the lead module renews on the same match (R343). -/
def M.tick (s : M) (x : TickIn) : M :=
  let k1 := s.nextStroke
  if s.on F.redStatusArmed || s.red.mismatch.isSome then s.skipStroke k1
  else
    let s := if s.mayRenew k1 then (if x.leaseFault then s.f3 (ev 0x0050 0x7068) 11 else s.loadLease)
      else if s.role == 2 && s.run.compare == 1 then s.showLease else s
    if s.mode = 0 then s
    else
      let s := ((s.commitAt k1 x.onBus).roleBoundary k1 x.onBus).boundaryChange k1
      if s.mode = 0 then s
      else
        let s := (s.catchUp k1).set64 F.stkCountLo F.stkCountHi k1
        let s := s.setN F.redJoinPagesDirty (if s.red.joining && s.role == 1 then min 65535 (s.red.unsent + s.red.dirty.length) else 0)
        s.beginStroke x

/-- What a tick does in the module. -/
def M.tickOnce (s : M) (x : TickIn) : M :=
  let s := s.at x.now
  let s := { s with red := { s.red with tickAt := s.aon.now } }
  let s := s.ageDiscards
  if s.mode = 0 then s
  else
    let s := s.corrected x.sramFixed x.mramFixed
    let s := match x.sramBad with
      | some a => s.sramDouble (a / 8 * 8)
      | none => s
    let s := if x.mramBad then s.f3 (ev 0x0040 0x7052) 7 else s
    if s.mode = 0 then s
    else if s.ctl.step8 then s.judgeStep8
    else if !s.ctl.primed then s
    else (s.checkStraps x).tick x

/-- The tick marker, which the module that sends the manifest transmits at S (R338). -/
def M.sendMarker (s : M) : M := if s.role = 1 ∧ s.mode ≠ 0 ∧ s.nat F.redStatusLanes ≠ 0 then s.emit .marker else s

/-- STROKE_TICK (R87), with the marker and the STATUS of the rope. -/
def strokeTick (x : TickIn) (s : M) : M := (s.sendMarker.tickOnce x).sendStatus

/-! ### The manifest (R95) -/

/-- The shadow module is not to execute the stroke (R95): counted, reported, detached and armed. -/
def M.lateManifest (s : M) : M :=
  let s := (s.bump F.stkLateManifestLate 65535 1).hw (ev 0x0020 0x3033)
  if s.holds then { s with run := { s.run with abandoned := true } }.toRole 4 3 else s.leaveArmed 4 3

/-- A manifest taken: a shadow module that can resolve it builds its snapshot and executes; one that cannot yet keeps it (R95). -/
def M.takeManifest (s : M) (m : Manifest) : M :=
  match s.cutShadow m with
  | none => { s with run := { s.run with parked := some m } }
  | some t =>
    { t with run := { t.run with parked := none } }.executeLanes.answerRestart (some (getField m.fields F.pwrRestartStatusStatus).toNat) (t.stroke - 1#64)

/-- ROPE_MANIFEST (R95, R354): a shadow module builds its snapshot and executes, a joiner takes the stroke number and only builds its snapshot. -/
def ropeManifest (m : Manifest) (s : M) : M :=
  if (m.stroke ≠ s.stroke ∧ s.role ≠ 3) ∨ s.run.executed ∨ s.run.manifest.isSome ∨ (s.mode < 2 ∧ s.role ≠ 3) ∨ s.red.mismatch.isSome then s
  else if s.role = 2 then s.takeManifest m
  else if s.role = 3 then
    let s := s.set64 F.stkCountLo F.stkCountHi m.stroke
    (s.cutShadow m).getD s
  else s

/-- MANIFEST_LATE (R95): S+20 µs, by which a manifest must have come and its references, with all that has arrived meanwhile, be resolved. -/
def manifestLate (s : M) : M :=
  if s.role = 2 ∧ s.mode ≥ 2 ∧ !s.run.executed ∧ s.red.mismatch.isNone then
    let t := match s.run.parked with
      | some m => s.takeManifest m
      | none => s
    if t.run.executed || t.mode = 0 then t else t.lateManifest
  else s

/-! ### The digest (R102, R104, R355) -/

/-- DIGEST_EXCHANGE (R102, R104, R353 to R355): `done` says that the engines have completed their charge and the loop engine its loops; `sent` pages and
all but `records` commit records have gone to a joiner. The digest of a shadow module reports every SAFE input asserted since its last one (R65). -/
def digestExchange (done : Bool) (sent records : Nat) (s : M) : M :=
  let s := { s with run := { s.run with exchanged := true } }
  if !s.run.executed then s
  else if !done then
    let t := s.f3 (ev 0x0020 0x7032) 5
    if s.run.paceDue then t.recordF3 (ev 0x0020 0x7031) 5 else t
  else if s.run.paceDue then s.f3 (ev 0x0020 0x7031) 5
  else
    let s := ((s.markStroke.sendPages sent).sendRecords records).sendCatchup
    if s.role = 1 then s.ropeOut (.digest s.strokeDigest true (s.on F.idStrapsSafeA) (s.on F.idStrapsSafeB) false)
    else if s.role = 2 then
      { s with ctl := { s.ctl with inputSeen := 0 } }.ropeOut (.digest s.strokeDigest true (s.safeSeen false) (s.safeSeen true) false)
    else s

/-- No digest of the partner that counts (R102, R337): the lead module goes on alone, the shadow module, and an old lead module that has released, is
armed. -/
def M.missDigest (s : M) : M :=
  let s := s.bump F.stkLateDigestMissing 65535 1
  if s.role = 1 ∧ s.drives then { s with run := { s.run with compare := 2 } }.toRole 4 4
  else if s.holds then { s.abandon.discardStroke with run := { s.abandon.discardStroke.run with abandoned := true } }.toRole 4 4
  else s.leaveArmed 4 4

/-- DIGEST_COMPARE (R102, R337, R372): a match allows commit and renewal, a difference leads to the self-tests of R351. DESIGN CHOICE (log entry 22): an
equal digest whose sender's self-check failed counts as missing. -/
def digestCompare (s : M) : M :=
  if !s.inStep || !s.run.executed then s
  else
    match s.run.partner with
    | none => s.missDigest
    | some d =>
      let s := (s.compareSafe 0).compareSafe 1
      if d ≠ s.strokeDigest then s.diverge s.strokeDigest d
      else if s.run.partnerOk then { s with run := { s.run with compare := 1 } } else s.missDigest

/-! ### The pace monitor (R103, R104) -/

/-- A signed 16-bit field value. -/
def half (i : Int) : Word := BitVec.ofInt 32 i &&& 0xFFFF#32

/-- Whether a time is the instant S+T_B − 10 µs of the stroke in progress, whose exchange is still to come. -/
def M.atExchange (s : M) : Bool :=
  s.run.executed && !s.run.exchanged && s.aon.now == s.red.tickAt + 1000 * s.nat F.stkPeriodTbUs - 10000

/-- PACE_MEASUREMENT (R103, R104): the margin in 0.1 %; PACE_LOW once per crossing; two consecutive negative margins are PACE_PREDICTED. One detected at the
instant of the digest exchange waits for it, since PACE_MISSED is the fault recorded where both are detected at that instant. -/
def paceMeasurement (x : PaceMeas) (s : M) : M :=
  let s := s.at x.now
  if s.mode = 0 then s
  else
    let m := max (-1000) (min 3000 x.margin)
    let least := min m (signedField 16 (s.nat F.stkPaceMinMargin))
    let s := (s.set F.stkPaceMargin (half m)).set F.stkPaceMinMargin (half least)
    let low := decide (m < s.nat F.stkPaceCfgLowThr)
    let neg := s.run.paceNeg
    let was := s.run.paceWasLow
    let s := { s with run := { s.run with paceNeg := decide (m < 0), paceWasLow := low } }
    let s := if low && !was then s.hw (ev 0x0020 0x1030) else s
    if neg ∧ m < 0 then (if s.atExchange then { s with run := { s.run with paceDue := true } } else s.f3 (ev 0x0020 0x7031) 5) else s

/-! ### What the commands do -/

/-- STROKE_TICK (R87). -/
def execStrokeTick (x : TickIn) (s : State) : Host.Outcome State Fault Refusal := runM (strokeTick x) s

/-- DIGEST_EXCHANGE (R102). -/
def execDigestExchange (done : Bool) (sent records : Nat) (s : State) : Host.Outcome State Fault Refusal := runM (digestExchange done sent records) s

/-- DIGEST_COMPARE (R102). -/
def execDigestCompare (s : State) : Host.Outcome State Fault Refusal := runM digestCompare s

/-- PACE_MEASUREMENT (R103). -/
def execPaceMeasurement (margin : PaceMeas) (s : State) : Host.Outcome State Fault Refusal := runM (paceMeasurement margin) s

/-- ROPE_MANIFEST (R95). -/
def execRopeManifest (m : Manifest) (s : State) : Host.Outcome State Fault Refusal := runM (ropeManifest m) s

/-- MANIFEST_LATE (R95). -/
def execManifestLate (s : State) : Host.Outcome State Fault Refusal := runM manifestLate s

end Sys2Proof.Machine
end

