-- ==== Sys2Proof/Machine/Trust.lean ====
section
/-! DEFINITION. Trust material, claiming, attestation (R399 to R405, R422), and reading and clearing the event log (R379, R387, R388). -/

namespace Sys2Proof.Machine

/-! ### Trust material -/

/-- The places of a set: 0 image anchors, 1 client anchors. -/
def M.anchorPlaces (s : M) (set : Nat) : Tab (List Byte) := if set = 0 then s.store.images else s.store.clients

/-- A place of a set filled or emptied. -/
def M.putAnchor (s : M) (set place : Nat) (c : List Byte) : M :=
  let t := (s.anchorPlaces set).set [] place c
  { s with store := if set = 0 then { s.store with images := t } else { s.store with clients := t } }.showAnchors

/-- ANCHOR_CHANGED (R399): the set, the place, the lowest 32 bits of the fingerprint, the principal. -/
def M.anchorChanged (s : M) (set place : Nat) (print : Word) (principal : Word) : M :=
  s.hw (ev 0x0070 0x1083 (Config.anchorSet set) place print.toNat principal.toNat)

/-- The first free place of a set. -/
def freePlace (t : Tab (List Byte)) : Option Nat := (List.range 8).find? fun i => (t.get [] i).isEmpty

/-- Whether a content is fit for a set (R400). -/
def anchorOk (set : Nat) (c : List Byte) : Bool := if set = 0 then c.length == 32 && Config.keyOk c else !c.isEmpty && Config.certificateOk c

/-- Sessions that the present anchors and deny list no longer admit, closed (R400). -/
def M.closeUnadmitted (s : M) : M := s.dropSessions (fun x => x.auth && (!s.anchored x.anchor || s.store.deny.contains x.cert)) 0

/-- An anchor installed in the first free place, with its event. -/
def M.installAnchor (s : M) (set : Nat) (c : List Byte) (principal : Word) : M :=
  match freePlace (s.anchorPlaces set) with
  | some p => (s.putAnchor set p c).anchorChanged set p (low32 (Config.sha256 c)) principal
  | none => s

/-- CLAIM (R401): in the session of an unclaimed module, with DBG_EN fitted; the session closes after the reply. -/
def claim (r : Req) (client : List Byte) (images : List (List Byte)) (s : M) : M :=
  s.judge r 0x0080 0 anyMode anyRole fun x s =>
    let keys := images.take 8
    let st := if s.claimed || !x.usb then 5 else if !s.on F.idStrapsDbgEn then 6
      else if !anchorOk 1 client || !keys.all (anchorOk 0) then 26 else 0
    if st ≠ 0 then s.refuse r x 0x0080 st
    else
      let s := keys.foldl (init := s.installAnchor 1 client x.principal) fun s k => s.installAnchor 0 k x.principal
      ((s.hw (ev 0x0070 0x1084)).reply r 0).dropSessions (fun y => y.id == x.id) 0

/-- Everything that UNCLAIM erases (R402). -/
def M.eraseTrust (s : M) : M :=
  let s := s.cancelChange
  let s := { s with store := { s.store with images := [], clients := [], deny := [], slots := [], forwarding := none, fromRope := false } }.showAnchors
  foldNat 2 s fun s n => [F.idImgSlotState n, F.idImgSlotVerdict n, F.idImgSlotChangeBlock n, F.idImgSlotActive n, F.idImgSlotNext n, F.idImgIdLo n, F.idImgIdHi n,
    F.idImgBuild n].foldl (init := s) fun s k => s.setN k 0

/-- UNCLAIM (R402): open to any USB session; WRONG_MODE, WRONG_ROLE, DBG_DISABLED in this order; every session closes. -/
def unclaim (r : Req) (s : M) : M :=
  s.receive r 0x0081 none fun x s =>
    let st := if !x.usb then 5 else if s.mode ≠ 2 then 1 else if s.role ≠ 0 ∧ s.holds then 2 else if !s.on F.idStrapsDbgEn then 6 else 0
    if st ≠ 0 then s.refuse r x 0x0081 st
    else ((s.eraseTrust.hw (ev 0x0070 0x3085)).reply r 0).closeSessions

/-- ANCHOR_ADD (R400): set 0 image, 1 client. -/
def anchorAdd (r : Req) (set : Nat) (content : List Byte) (s : M) : M :=
  let k := min 1 set
  s.judge r 0x0082 3 runModes anyRole fun x s =>
    s.conclude r x 0x0082 (if (freePlace (s.anchorPlaces k)).isNone then 22 else if !anchorOk k content then 26 else 0) fun s => s.installAnchor k content x.principal

/-- An image anchor gone: a slot that is not ACTIVE and holds an image it signed is REFUSED, SIGNATURE (R400). -/
def M.orphanImage (s : M) (key : List Byte) (n : Nat) : M :=
  let signer := (List.range 32).map fun i => (s.img n).bytes.get 0#8 (0x58 + i)
  if s.activeSlot ≠ some n ∧ s.slotState n = 3 ∧ signer = key then
    (if s.store.change.isSome then s.cancelChange else s) |> fun s => ((s.setN (F.idImgSlotState n) 4).setN (F.idImgSlotVerdict n) 3).showBlocks
  else s

/-- Both slots after an image anchor has gone (R400). -/
def M.orphanImages (s : M) (key : List Byte) : M := (s.orphanImage key 0).orphanImage key 1

/-- The status of ANCHOR_REMOVE (R400). -/
def M.removeStatus (s : M) (set : Nat) (c : List Byte) : Nat :=
  let active := match s.activeSlot with
    | some n => (List.range 32).map fun i => (s.img n).bytes.get 0#8 (0x58 + i)
    | none => []
  if c.isEmpty then 0
  else if set = 0 then (if active = c then 23 else 0)
  else if placesUsed s.store.clients = 1 then 24 else 0

/-- ANCHOR_REMOVE (R400): an empty place has no effect; sessions it no longer admits close after the reply. -/
def anchorRemove (r : Req) (set place : Nat) (s : M) : M :=
  let k := min 1 set
  let p := min 7 place
  s.judge r 0x0083 3 runModes anyRole fun x s =>
    let c := (s.anchorPlaces k).get [] p
    let st := s.removeStatus k c
    if st ≠ 0 then s.refuse r x 0x0083 st
    else if c.isEmpty then s.reply r 0
    else
      let s := (s.putAnchor k p []).anchorChanged k p (low32 (Config.sha256 c)) x.principal
      ((if k = 0 then s.orphanImages c else s).reply r 0).closeUnadmitted

/-- DENY_ADD (R400): sessions it no longer admits close after the reply. -/
def denyAdd (r : Req) (print : List Byte) (s : M) : M :=
  let f := print.take 32
  s.judge r 0x0084 3 runModes anyRole fun x s =>
    if s.store.deny.length ≥ 16 then s.refuse r x 0x0084 25
    else if s.store.deny.contains f then s.reply r 0
    else
      let n := s.store.deny.length
      let s := { s with store := { s.store with deny := s.store.deny ++ [f] } }.anchorChanged 2 n (low32 f) x.principal
      (s.reply r 0).closeUnadmitted

/-- DENY_REMOVE (R400, R412): an absent fingerprint has no effect. -/
def denyRemove (r : Req) (print : List Byte) (s : M) : M :=
  let f := print.take 32
  s.judge r 0x0085 3 runModes anyRole fun x s =>
    match s.store.deny.findIdx? (· == f) with
    | none => s.reply r 0
    | some i => ({ s with store := { s.store with deny := s.store.deny.eraseIdx i } }.anchorChanged 2 i (low32 f) x.principal).reply r 0

/-- A content with its length before it. -/
def sized (c : List Byte) : List Byte := bytesLE 4 c.length ++ c

/-- ANCHOR_READ (R399, R412): 0 firmware anchors, 1 image anchors, 2 client anchors, 3 the deny list; other codes fall back to 0. -/
def anchorRead (r : Req) (set : Nat) (s : M) : M :=
  s.judge r 0x0086 0 anyMode anyRole fun _ s =>
    let places (t : Tab (List Byte)) : List (List Byte) := (List.range 8).map fun i => t.get [] i
    let l := if set = 1 then places s.store.images else if set = 2 then places s.store.clients
      else if set = 3 then (List.range 16).map fun i => s.store.deny.getD i [] else firmwareAnchors
    s.reply r 0 (l.flatMap sized)

/-! ### Attestation (R405, R422) -/

/-- The lowest 64 bits of an identity, zero for an empty slot. -/
def ident64 (empty : Bool) (h : List Byte) : List Byte := if empty then List.replicate 8 0#8 else bytesLE 8 (ofBytesLE (h.take 8))

/-- The 128-byte statement (R422). -/
def M.statement (s : M) (nonce : List Byte) : List Byte :=
  let fwId (n : Nat) := ident64 (s.nat (F.secFwSlotState n) == 0) (Config.sha256 ((List.range 0xC0).map fun i => (s.fwImg n).bytes.get 0#8 i))
  let imgId (n : Nat) := ident64 (s.slotState n == 0) (s.identityOf n)
  let w (k : Nat) := bytesLE 4 (s.nat k)
  let b (k : Nat) := bytesLE 1 (s.nat k)
  ((List.range 16).map fun i => nonce.getD i 0#8) ++ w F.idSerialLo ++ w F.idSerialHi ++ b F.idProductHwRev ++ b F.redStatusRole ++ b (F.idImgSlotState 0) ++
    b (F.idImgSlotState 1) ++ w F.secRollback ++ w (F.secFwVersion 0) ++ w (F.secFwVersion 1) ++ fwId 0 ++ fwId 1 ++ imgId 0 ++ imgId 1 ++
    bytesLE 8 s.wall.toNat ++ b F.wallQualQuality ++ b (F.secFwSlotState 0) ++ b (F.secFwSlotState 1) ++ List.replicate 45 0#8

/-- DEVICE_ATTEST (R405): the statement and its signature under the device key. -/
def deviceAttest (r : Req) (nonce : List Byte) (s : M) : M :=
  s.judge r 0x0087 0 anyMode anyRole fun _ s => s.reply r 0 (s.statement nonce ++ Config.deviceSign (s.statement nonce))

/-! ### The event log (R379, R387, R388) -/

/-- Whether SEQ a lies below SEQ b, modulo 2^32; a distance of 2^31 counts as below (R387). -/
def seqBelow (a b : Word) : Bool := let d := (b - a).toNat; decide (1 ≤ d) && decide (d ≤ 2 ^ 31)

/-- Whether SEQ a lies above SEQ b (R387). -/
def seqAbove (a b : Word) : Bool := let d := (a - b).toNat; decide (1 ≤ d) && decide (d < 2 ^ 31)

/-- The 64 bytes of a record with its CRC (R379). -/
def recordBytes (x : LogRec) : List Byte :=
  let body := bytesLE 4 x.seq.toNat ++ bytesLE 2 x.event.source.toNat ++ bytesLE 2 x.event.code.toNat ++ bytesLE 8 x.first.toNat ++ bytesLE 8 x.last.toNat ++
    bytesLE 8 x.wall.toNat ++ bytesLE 1 x.qual ++ bytesLE 1 x.kind ++ bytesLE 2 x.repeats ++ bytesLE 4 x.event.p0.toNat ++ bytesLE 4 x.event.p1.toNat ++
    bytesLE 4 x.event.p2.toNat ++ bytesLE 4 x.event.p3.toNat ++ bytesLE 8 0
  body ++ bytesLE 4 (crcOf .crc32c body)

/-- Every record, the open one last. -/
def M.allRecords (s : M) : List LogRec := s.log.records ++ s.log.opened.toList

/-- Double-bit errors found in places of the log store (R387): item 9 FAILED, and the event once per place. -/
def M.reportPlaces (s : M) (places : List Nat) : M :=
  places.foldl (init := s) fun s p =>
    if s.log.reported.contains p then s
    else { s with log := { s.log with reported := p :: s.log.reported } }.hw (ev 0x0001 0x1005 p)

/-- Records of places that fail their check become bad. -/
def M.spoilPlaces (s : M) (places : List Nat) : M :=
  { s with log := { s.log with records := s.log.records.zipIdx.map fun x => if places.contains x.2 then badRecord x.1.seq else x.1 } }

/-- LOG_READ (R387): at most 1000 records from a SEQ on. Of the places read, `crcBad` fail their CRC and `ecc.bad` hold a double-bit error; single-bit errors are
corrected and counted (R171). -/
def logRead (r : Req) (first : Word) (count : Nat) (crcBad : List Nat) (ecc : LogEcc) (s : M) : M :=
  s.judge r 0x0070 0 anyMode anyRole fun _ s =>
    let base := s.reg F.logBaseSeq
    let start := if seqBelow first base then base else first
    let skip := (start - base).toNat
    let n := clampNat 1 1000 count
    let read (l : List Nat) : List Nat := l.filter fun p => decide (skip ≤ p) && decide (p < skip + n) && decide (p < s.log.records.length)
    let s := (s.corrected [] ecc.fixed).spoilPlaces (read crcBad ++ read ecc.bad)
    let l := (s.allRecords.drop skip).take n
    let openLast := s.log.opened.isSome && l.getLast? == s.log.opened
    let head := bytesLE 4 start.toNat ++ bytesLE 4 l.length ++ bytesLE 4 base.toNat ++ bytesLE 4 (s.nat F.logNextSeq) ++ bytesLE 4 (s.nat F.logLost) ++
      bytesLE 1 (boolNat (s.on F.logStatFull) + 2 * boolNat openLast) ++ List.replicate 11 0#8
    (s.reportPlaces (read ecc.bad)).reply r 0 (head ++ l.flatMap recordBytes)

/-! ### MRAM (R180) -/

/-- The byte of MRAM at an offset (R180): the image and firmware slots, the verifier tables, the system records, the event log, the save areas; none beyond them, in a
record place not written since the log was cleared, or in one that is bad. -/
def M.mramByte (s : M) (off : Nat) : Option Byte :=
  if off < 0x0C00000 then some ((s.img 0).bytes.get 0#8 off)
  else if off < 0x1800000 then some ((s.img 1).bytes.get 0#8 (off - 0x0C00000))
  else if off < 0x1B00000 then some ((s.fwImg 0).bytes.get 0#8 (off - 0x1800000))
  else if off < 0x1E00000 then some ((s.fwImg 1).bytes.get 0#8 (off - 0x1B00000))
  else if off < 0x1FC0000 then some (Config.verifierTable (off - 0x1E00000))
  else if off < 0x2000000 then some (Config.systemRecord (off - 0x1FC0000))
  else if off < 0x2400000 then
    match s.log.records[(off - 0x2000000) / 64]? with
    | some x => if x.bad then none else (recordBytes x)[(off - 0x2000000) % 64]?
    | none => none
  else if off < 0x2800000 then
    let a := s.saves.areas.get Area.empty ((off - 0x2400000) / 0x200000)
    let i := (off - 0x2400000) % 0x200000
    if i < 0x1FFFFC then some (a.byteAt i) else if a.crcOk then some (BitVec.ofNat 8 (a.checkValue.toNat / 256 ^ (i - 0x1FFFFC))) else none
  else none

/-- The log cleared up to its newest record (R388): LOG_CLEARED is the first record of the empty log. -/
def M.clearLog (s : M) (principal : Word) : M :=
  let base := s.nat F.logBaseSeq
  let next := s.nat F.logNextSeq
  let e := ev 0x0001 0x1002 base ((next + 0xFFFFFFFF) % 0x100000000) (s.nat F.logLost) principal.toNat
  let s := { s with log := { s.log with records := [], opened := none, reported := [] }, hlt := { s.hlt with cause := some 0x00011002#32 } }
  let s := ((s.setN F.logBaseSeq next).setB F.logStatFull false).setN F.logLost 0
  let x : LogEntry := { event := e, stroke := s.stroke, wall := s.wall, qual := s.nat F.wallQualQuality, kind := s.kindOf e.code }
  let r := s.recordOf x
  { s with log := { s.log with opened := some r } }.setN F.logNextSeq ((next + 1) % 0x100000000)

/-- LOG_CLEAR (R388): refused while the log holds a record above UPTO. -/
def logClear (r : Req) (upto : Word) (s : M) : M :=
  s.judge r 0x0071 3 runModes anyRole fun x s =>
    s.conclude r x 0x0071 (if s.allRecords.any fun y => seqAbove y.seq upto then 21 else 0) fun s => s.clearLog x.principal

/-! ### What the commands do -/

/-- LOG_READ (R387). -/
def execLogRead (r : Req) (first : Word) (count : Nat) (crcBad : List Nat) (eccBad : LogEcc) (s : State) : Host.Outcome State Fault Refusal := runM (logRead r first count crcBad eccBad) s

/-- LOG_CLEAR (R388). -/
def execLogClear (r : Req) (upto : Word) (s : State) : Host.Outcome State Fault Refusal := runM (logClear r upto) s

/-- CLAIM (R401). -/
def execClaim (r : Req) (client : List Byte) (images : List (List Byte)) (s : State) : Host.Outcome State Fault Refusal := runM (claim r client images) s

/-- UNCLAIM (R402). -/
def execUnclaim (r : Req) (s : State) : Host.Outcome State Fault Refusal := runM (unclaim r) s

/-- ANCHOR_ADD (R400). -/
def execAnchorAdd (r : Req) (set : Nat) (content : List Byte) (s : State) : Host.Outcome State Fault Refusal := runM (anchorAdd r set content) s

/-- ANCHOR_REMOVE (R400). -/
def execAnchorRemove (r : Req) (set place : Nat) (s : State) : Host.Outcome State Fault Refusal := runM (anchorRemove r set place) s

/-- DENY_ADD (R400). -/
def execDenyAdd (r : Req) (print : List Byte) (s : State) : Host.Outcome State Fault Refusal := runM (denyAdd r print) s

/-- DENY_REMOVE (R400). -/
def execDenyRemove (r : Req) (print : List Byte) (s : State) : Host.Outcome State Fault Refusal := runM (denyRemove r print) s

/-- ANCHOR_READ (R399). -/
def execAnchorRead (r : Req) (set : Nat) (s : State) : Host.Outcome State Fault Refusal := runM (anchorRead r set) s

/-- DEVICE_ATTEST (R405). -/
def execDeviceAttest (r : Req) (nonce : List Byte) (s : State) : Host.Outcome State Fault Refusal := runM (deviceAttest r nonce) s

end Sys2Proof.Machine
end

