-- ==== Sys2Proof/Machine/Dispatch.lean ====
section
/-! DEFINITION. The dispatch: every command of the opcode table to its meaning. -/

namespace Sys2Proof.Machine

def exec (i : Instr) (s : State) : Host.Outcome State Fault Refusal :=
  match i with
  | .aonPowerUp now => Sys2Proof.Machine.execAonPowerUp now s
  | .aonPowerDown => Sys2Proof.Machine.execAonPowerDown s
  | .standpipeReady => Sys2Proof.Machine.execStandpipeReady s
  | .feedGood b v => Sys2Proof.Machine.execFeedGood b v s
  | .feedLow b v => Sys2Proof.Machine.execFeedLow b v s
  | .feedLost b v => Sys2Proof.Machine.execFeedLost b v s
  | .feedOver b v => Sys2Proof.Machine.execFeedOver b v s
  | .feedOverEnd b v => Sys2Proof.Machine.execFeedOverEnd b v s
  | .dipBegin now => Sys2Proof.Machine.execDipBegin now s
  | .dipRidden now => Sys2Proof.Machine.execDipRidden now s
  | .powerLoss => Sys2Proof.Machine.execPowerLoss s
  | .saveDone => Sys2Proof.Machine.execSaveDone s
  | .resetAssert => Sys2Proof.Machine.execResetAssert s
  | .resetRelease => Sys2Proof.Machine.execResetRelease s
  | .presentMated => Sys2Proof.Machine.execPresentMated s
  | .presentParted => Sys2Proof.Machine.execPresentParted s
  | .partnerAbsent => Sys2Proof.Machine.execPartnerAbsent s
  | .partnerPresent => Sys2Proof.Machine.execPartnerPresent s
  | .safeInputAsserted b => Sys2Proof.Machine.execSafeInputAsserted b s
  | .dbgEnOpen => Sys2Proof.Machine.execDbgEnOpen s
  | .ppsInEdge now adj => Sys2Proof.Machine.execPpsInEdge now adj s
  | .ppsOutPulse => Sys2Proof.Machine.execPpsOutPulse s
  | .almStrapChange w fitted => Sys2Proof.Machine.execAlmStrapChange w fitted s
  | .priming x => Sys2Proof.Machine.execPriming x s
  | .primingTimeout => Sys2Proof.Machine.execPrimingTimeout s
  | .primingRetry => Sys2Proof.Machine.execPrimingRetry s
  | .strokeTick x => Sys2Proof.Machine.execStrokeTick x s
  | .digestExchange done sent records => Sys2Proof.Machine.execDigestExchange done sent records s
  | .digestCompare => Sys2Proof.Machine.execDigestCompare s
  | .divergenceSelftest pass => Sys2Proof.Machine.execDivergenceSelftest pass s
  | .selftestTimeout => Sys2Proof.Machine.execSelftestTimeout s
  | .paceMeasurement margin => Sys2Proof.Machine.execPaceMeasurement margin s
  | .lockSourceLost => Sys2Proof.Machine.execLockSourceLost s
  | .lockSourceReturn adj => Sys2Proof.Machine.execLockSourceReturn adj s
  | .timebaseFault => Sys2Proof.Machine.execTimebaseFault s
  | .engineRail e => Sys2Proof.Machine.execEngineRail e s
  | .loopRail => Sys2Proof.Machine.execLoopRail s
  | .memRail => Sys2Proof.Machine.execMemRail s
  | .scrubRead errors => Sys2Proof.Machine.execScrubRead errors s
  | .checkpointDone good => Sys2Proof.Machine.execCheckpointDone good s
  | .verifierDone slot b => Sys2Proof.Machine.execVerifierDone slot b s
  | .fwCheckDone slot => Sys2Proof.Machine.execFwCheckDone slot s
  | .domainReturn t => Sys2Proof.Machine.execDomainReturn t s
  | .engineSelftestPass e good => Sys2Proof.Machine.execEngineSelftestPass e good s
  | .selftestOverdue e => Sys2Proof.Machine.execSelftestOverdue e s
  | .proofMarkSet n on => Sys2Proof.Machine.execProofMarkSet n on s
  | .proofMarkExpired n on => Sys2Proof.Machine.execProofMarkExpired n on s
  | .healthyClose now => Sys2Proof.Machine.execHealthyClose now s
  | .netFault => Sys2Proof.Machine.execNetFault s
  | .secureFault => Sys2Proof.Machine.execSecureFault s
  | .recordWrite => Sys2Proof.Machine.execRecordWrite s
  | .dwLinkFrame x => Sys2Proof.Machine.execDwLinkFrame x s
  | .awLinkFrame x => Sys2Proof.Machine.execAwLinkFrame x s
  | .islandWatchdogExpired wellhead => Sys2Proof.Machine.execIslandWatchdogExpired wellhead s
  | .dwLinkLost => Sys2Proof.Machine.execDwLinkLost s
  | .awLinkLost w => Sys2Proof.Machine.execAwLinkLost w s
  | .wireBreak n => Sys2Proof.Machine.execWireBreak n s
  | .thermalShutdown n => Sys2Proof.Machine.execThermalShutdown n s
  | .thermalRetry n => Sys2Proof.Machine.execThermalRetry n s
  | .groupOvercurrent g => Sys2Proof.Machine.execGroupOvercurrent g s
  | .externalDrive n => Sys2Proof.Machine.execExternalDrive n s
  | .switchFault n => Sys2Proof.Machine.execSwitchFault n s
  | .dgSupplyLow g => Sys2Proof.Machine.execDgSupplyLow g s
  | .dgSupplyLost g => Sys2Proof.Machine.execDgSupplyLost g s
  | .groupRestoreTimer g => Sys2Proof.Machine.execGroupRestoreTimer g s
  | .ssiReadDone n v fault => Sys2Proof.Machine.execSsiReadDone n v fault s
  | .encLineLoss n => Sys2Proof.Machine.execEncLineLoss n s
  | .encSupplyOverload => Sys2Proof.Machine.execEncSupplyOverload s
  | .encSupplyRetry ok => Sys2Proof.Machine.execEncSupplyRetry ok s
  | .supplySwitchOn w => Sys2Proof.Machine.execSupplySwitchOn w s
  | .supplyShort n => Sys2Proof.Machine.execSupplyShort n s
  | .complianceShort n => Sys2Proof.Machine.execComplianceShort n s
  | .openLoop n => Sys2Proof.Machine.execOpenLoop n s
  | .readbackFault n => Sys2Proof.Machine.execReadbackFault n s
  | .awReservoirLow w => Sys2Proof.Machine.execAwReservoirLow w s
  | .reservoirRecovered w => Sys2Proof.Machine.execReservoirRecovered w s
  | .awIslandReset w => Sys2Proof.Machine.execAwIslandReset w s
  | .referenceCheck w ok => Sys2Proof.Machine.execReferenceCheck w ok s
  | .hartResponse n f => Sys2Proof.Machine.execHartResponse n f s
  | .hartRt1Timeout n => Sys2Proof.Machine.execHartRt1Timeout n s
  | .hartIdentifyTimer n => Sys2Proof.Machine.execHartIdentifyTimer n s
  | .hartBurstFrame n f => Sys2Proof.Machine.execHartBurstFrame n f s
  | .canFrameReceived p x => Sys2Proof.Machine.execCanFrameReceived p x s
  | .canFrameSent p b => Sys2Proof.Machine.execCanFrameSent p b s
  | .canBusError p e => Sys2Proof.Machine.execCanBusError p e s
  | .canRecovered p => Sys2Proof.Machine.execCanRecovered p s
  | .protocolException p => Sys2Proof.Machine.execProtocolException p s
  | .remoteFrame p => Sys2Proof.Machine.execRemoteFrame p s
  | .txdDominantTimeout p sending more => Sys2Proof.Machine.execTxdDominantTimeout p sending more s
  | .wazarIn x => Sys2Proof.Machine.execWazarIn x s
  | .wazarIdentRsp x => Sys2Proof.Machine.execWazarIdentRsp x s
  | .wazarOutReceived h => Sys2Proof.Machine.execWazarOutReceived h s
  | .identReqTimer n => Sys2Proof.Machine.execIdentReqTimer n s
  | .rioRingOpen now => Sys2Proof.Machine.execRioRingOpen now s
  | .conflictEnd n => Sys2Proof.Machine.execConflictEnd n s
  | .arpRequest target => Sys2Proof.Machine.execArpRequest target s
  | .icmpEcho target => Sys2Proof.Machine.execIcmpEcho target s
  | .modbusConnect conn => Sys2Proof.Machine.execModbusConnect conn s
  | .modbusIdleTimeout conn => Sys2Proof.Machine.execModbusIdleTimeout conn s
  | .readCoils r quantity => Sys2Proof.Machine.execReadCoils r quantity s
  | .readDiscreteInputs r quantity => Sys2Proof.Machine.execReadDiscreteInputs r quantity s
  | .readHoldingRegisters r quantity => Sys2Proof.Machine.execReadHoldingRegisters r quantity s
  | .readInputRegisters r quantity => Sys2Proof.Machine.execReadInputRegisters r quantity s
  | .writeSingleCoil r value => Sys2Proof.Machine.execWriteSingleCoil r value s
  | .writeSingleRegister r value => Sys2Proof.Machine.execWriteSingleRegister r value s
  | .writeMultipleCoils r quantity bytes values => Sys2Proof.Machine.execWriteMultipleCoils r quantity bytes values s
  | .writeMultipleRegisters r quantity bytes values => Sys2Proof.Machine.execWriteMultipleRegisters r quantity bytes values s
  | .readWriteMultipleRegisters r readStart readQuantity quantity bytes values => Sys2Proof.Machine.execReadWriteMultipleRegisters r readStart readQuantity quantity bytes values s
  | .ptpSync domain master twoStep x => Sys2Proof.Machine.execPtpSync domain master twoStep x s
  | .ptpFollowUp domain master x => Sys2Proof.Machine.execPtpFollowUp domain master x s
  | .ptpDelayResp domain x => Sys2Proof.Machine.execPtpDelayResp domain x s
  | .ptpAnnounce domain x => Sys2Proof.Machine.execPtpAnnounce domain x s
  | .delayReqTimer => Sys2Proof.Machine.execDelayReqTimer s
  | .ptpSyncTimeout => Sys2Proof.Machine.execPtpSyncTimeout s
  | .sessionOpen h => Sys2Proof.Machine.execSessionOpen h s
  | .sessionIdleTimeout id => Sys2Proof.Machine.execSessionIdleTimeout id s
  | .authLockoutEnd addr => Sys2Proof.Machine.execAuthLockoutEnd addr s
  | .usbAttach => Sys2Proof.Machine.execUsbAttach s
  | .usbDetach => Sys2Proof.Machine.execUsbDetach s
  | .ropeLaneUp lane => Sys2Proof.Machine.execRopeLaneUp lane s
  | .ropeLaneLost lane => Sys2Proof.Machine.execRopeLaneLost lane s
  | .ropeLost long => Sys2Proof.Machine.execRopeLost long s
  | .ropeRestored => Sys2Proof.Machine.execRopeRestored s
  | .tickMarker offset adj => Sys2Proof.Machine.execTickMarker offset adj s
  | .ropeStatus x => Sys2Proof.Machine.execRopeStatus x s
  | .ropeManifest m => Sys2Proof.Machine.execRopeManifest m s
  | .manifestLate => Sys2Proof.Machine.execManifestLate s
  | .rxNotice p x => Sys2Proof.Machine.execRxNotice p x s
  | .ropeDigest d ok safeA safeB pace => Sys2Proof.Machine.execRopeDigest d ok safeA safeB pace s
  | .transfer t gap => Sys2Proof.Machine.execTransfer t gap s
  | .catchup c => Sys2Proof.Machine.execCatchup c s
  | .ropeImage x => Sys2Proof.Machine.execRopeImage x s
  | .ropeCommand x => Sys2Proof.Machine.execRopeCommand x s
  | .handoverReleased => Sys2Proof.Machine.execHandoverReleased s
  | .selftestPass => Sys2Proof.Machine.execSelftestPass s
  | .selftestFail => Sys2Proof.Machine.execSelftestFail s
  | .bucketLineChange held => Sys2Proof.Machine.execBucketLineChange held s
  | .bucketTake twice signal => Sys2Proof.Machine.execBucketTake twice signal s
  | .bucketStuck => Sys2Proof.Machine.execBucketStuck s
  | .leaseLapsed => Sys2Proof.Machine.execLeaseLapsed s
  | .armedWindowEnd => Sys2Proof.Machine.execArmedWindowEnd s
  | .joinTimeout => Sys2Proof.Machine.execJoinTimeout s
  | .joinRetry => Sys2Proof.Machine.execJoinRetry s
  | .pwrRestart task target => Sys2Proof.Machine.execPwrRestart task target s
  | .requestStop task => Sys2Proof.Machine.execRequestStop task s
  | .requestSafe task => Sys2Proof.Machine.execRequestSafe task s
  | .ckptNow task interval => Sys2Proof.Machine.execCkptNow task interval s
  | .dioUnlatch task mask => Sys2Proof.Machine.execDioUnlatch task mask s
  | .groupAck task w => Sys2Proof.Machine.execGroupAck task w s
  | .encLoad task n w => Sys2Proof.Machine.execEncLoad task n w s
  | .canTxAbort task port mask => Sys2Proof.Machine.execCanTxAbort task port mask s
  | .recover task port => Sys2Proof.Machine.execRecover task port s
  | .dioOutSet task mask => Sys2Proof.Machine.execDioOutSet task mask s
  | .dioOutClr task mask => Sys2Proof.Machine.execDioOutClr task mask s
  | .bitSetAlias task addr mask => Sys2Proof.Machine.execBitSetAlias task addr mask s
  | .bitClearAlias task addr mask => Sys2Proof.Machine.execBitClearAlias task addr mask s
  | .clearStrapChanged task => Sys2Proof.Machine.execClearStrapChanged task s
  | .clearCanFlags task port bits => Sys2Proof.Machine.execClearCanFlags task port bits s
  | .stkCountLoRead r => Sys2Proof.Machine.execStkCountLoRead r s
  | .registerWrite task addr w => Sys2Proof.Machine.execRegisterWrite task addr w s
  | .add d a b => Sys2Proof.Machine.execAdd d a b s
  | .sub d a b => Sys2Proof.Machine.execSub d a b s
  | .addu d a b => Sys2Proof.Machine.execAddu d a b s
  | .subu d a b => Sys2Proof.Machine.execSubu d a b s
  | .and d a b => Sys2Proof.Machine.execAnd d a b s
  | .or d a b => Sys2Proof.Machine.execOr d a b s
  | .xor d a b => Sys2Proof.Machine.execXor d a b s
  | .andn d a b => Sys2Proof.Machine.execAndn d a b s
  | .shl d a b => Sys2Proof.Machine.execShl d a b s
  | .shr d a b => Sys2Proof.Machine.execShr d a b s
  | .sar d a b => Sys2Proof.Machine.execSar d a b s
  | .min d a b => Sys2Proof.Machine.execMin d a b s
  | .max d a b => Sys2Proof.Machine.execMax d a b s
  | .minu d a b => Sys2Proof.Machine.execMinu d a b s
  | .maxu d a b => Sys2Proof.Machine.execMaxu d a b s
  | .mul d a b => Sys2Proof.Machine.execMul d a b s
  | .mulu d a b => Sys2Proof.Machine.execMulu d a b s
  | .div d a b => Sys2Proof.Machine.execDiv d a b s
  | .divu d a b => Sys2Proof.Machine.execDivu d a b s
  | .rem d a b => Sys2Proof.Machine.execRem d a b s
  | .remu d a b => Sys2Proof.Machine.execRemu d a b s
  | .neg d a => Sys2Proof.Machine.execNeg d a s
  | .abs d a => Sys2Proof.Machine.execAbs d a s
  | .cmov d a b => Sys2Proof.Machine.execCmov d a b s
  | .eq d a b => Sys2Proof.Machine.execEq d a b s
  | .ne d a b => Sys2Proof.Machine.execNe d a b s
  | .lt d a b => Sys2Proof.Machine.execLt d a b s
  | .le d a b => Sys2Proof.Machine.execLe d a b s
  | .ltu d a b => Sys2Proof.Machine.execLtu d a b s
  | .leu d a b => Sys2Proof.Machine.execLeu d a b s
  | .not d a => Sys2Proof.Machine.execNot d a s
  | .fadd d a b => Sys2Proof.Machine.execFadd d a b s
  | .fsub d a b => Sys2Proof.Machine.execFsub d a b s
  | .fmul d a b => Sys2Proof.Machine.execFmul d a b s
  | .fdiv d a b => Sys2Proof.Machine.execFdiv d a b s
  | .fsqrt d a => Sys2Proof.Machine.execFsqrt d a s
  | .fmin d a b => Sys2Proof.Machine.execFmin d a b s
  | .fmax d a b => Sys2Proof.Machine.execFmax d a b s
  | .fabs d a => Sys2Proof.Machine.execFabs d a s
  | .fneg d a => Sys2Proof.Machine.execFneg d a s
  | .feq d a b => Sys2Proof.Machine.execFeq d a b s
  | .flt d a b => Sys2Proof.Machine.execFlt d a b s
  | .fle d a b => Sys2Proof.Machine.execFle d a b s
  | .itof d a => Sys2Proof.Machine.execItof d a s
  | .utof d a => Sys2Proof.Machine.execUtof d a s
  | .ftoi d a => Sys2Proof.Machine.execFtoi d a s
  | .ftoiz d a => Sys2Proof.Machine.execFtoiz d a s
  | .ftou d a => Sys2Proof.Machine.execFtou d a s
  | .add64 d a b => Sys2Proof.Machine.execAdd64 d a b s
  | .sub64 d a b => Sys2Proof.Machine.execSub64 d a b s
  | .mul64 d a b => Sys2Proof.Machine.execMul64 d a b s
  | .div64 d a b => Sys2Proof.Machine.execDiv64 d a b s
  | .rem64 d a b => Sys2Proof.Machine.execRem64 d a b s
  | .neg64 d a => Sys2Proof.Machine.execNeg64 d a s
  | .eq64 d a b => Sys2Proof.Machine.execEq64 d a b s
  | .lt64 d a b => Sys2Proof.Machine.execLt64 d a b s
  | .sx64 d a => Sys2Proof.Machine.execSx64 d a s
  | .zx64 d a => Sys2Proof.Machine.execZx64 d a s
  | .sat32 d a => Sys2Proof.Machine.execSat32 d a s
  | .tof64 d a => Sys2Proof.Machine.execTof64 d a s
  | .fto64 d a => Sys2Proof.Machine.execFto64 d a s
  | .movi d w => Sys2Proof.Machine.execMovi d w s
  | .ld d a x => Sys2Proof.Machine.execLd d a x s
  | .st b a x => Sys2Proof.Machine.execSt b a x s
  | .br off => Sys2Proof.Machine.execBr off s
  | .brt ra off => Sys2Proof.Machine.execBrt ra off s
  | .brf ra off => Sys2Proof.Machine.execBrf ra off s
  | .loop d ra bound len => Sys2Proof.Machine.execLoop d ra bound len s
  | .call entry => Sys2Proof.Machine.execCall entry s
  | .ret => Sys2Proof.Machine.execRet s
  | .endTask => Sys2Proof.Machine.execEndTask s
  | .nop => Sys2Proof.Machine.execNop s
  | .rise d ra n => Sys2Proof.Machine.execRise d ra n s
  | .fall d ra n => Sys2Proof.Machine.execFall d ra n s
  | .change d ra n => Sys2Proof.Machine.execChange d ra n s
  | .ton d ra rb n => Sys2Proof.Machine.execTon d ra rb n s
  | .tof d ra rb n => Sys2Proof.Machine.execTof d ra rb n s
  | .tp d ra rb n => Sys2Proof.Machine.execTp d ra rb n s
  | .trd d n => Sys2Proof.Machine.execTrd d n s
  | .trst n => Sys2Proof.Machine.execTrst n s
  | .ctu d ra rb rp n => Sys2Proof.Machine.execCtu d ra rb rp n s
  | .ctd d ra rb rp n => Sys2Proof.Machine.execCtd d ra rb rp n s
  | .crd d n => Sys2Proof.Machine.execCrd d n s
  | .cld ra n => Sys2Proof.Machine.execCld ra n s
  | .stroke d => Sys2Proof.Machine.execStroke d s
  | .taskid d => Sys2Proof.Machine.execTaskid d s
  | .evt d ra code => Sys2Proof.Machine.execEvt d ra code s
  | .auto d block => Sys2Proof.Machine.execAuto d block s
  | .manual d block => Sys2Proof.Machine.execManual d block s
  | .tuneStart who block rule => Sys2Proof.Machine.execTuneStart who block rule s
  | .tuneAccept who block => Sys2Proof.Machine.execTuneAccept who block s
  | .tuneDiscard who block => Sys2Proof.Machine.execTuneDiscard who block s
  | .tuneAbort who block => Sys2Proof.Machine.execTuneAbort who block s
  | .injectStart who block => Sys2Proof.Machine.execInjectStart who block s
  | .injectStop who block => Sys2Proof.Machine.execInjectStop who block s
  | .cantx d port buf base => Sys2Proof.Machine.execCantx d port buf base s
  | .canpop d port fifo base => Sys2Proof.Machine.execCanpop d port fifo base s
  | .canmb d port mailbox base => Sys2Proof.Machine.execCanmb d port mailbox base s
  | .hreq d chan arr => Sys2Proof.Machine.execHreq d chan arr s
  | .hres d chan arr => Sys2Proof.Machine.execHres d chan arr s
  | .crc d ra k arr => Sys2Proof.Machine.execCrc d ra k arr s
  | .crcc d ra rb k arr => Sys2Proof.Machine.execCrcc d ra rb k arr s
  | .seal d ra k arr slot => Sys2Proof.Machine.execSeal d ra k arr slot s
  | .check d ra k arr slot => Sys2Proof.Machine.execCheck d ra k arr slot s
  | .regRead r addr count => Sys2Proof.Machine.execRegRead r addr count s
  | .varRead r addr count => Sys2Proof.Machine.execVarRead r addr count s
  | .varWrite r ws => Sys2Proof.Machine.execVarWrite r ws s
  | .dipperRead r first count => Sys2Proof.Machine.execDipperRead r first count s
  | .modeRun r => Sys2Proof.Machine.execModeRun r s
  | .modeStop r => Sys2Proof.Machine.execModeStop r s
  | .modeSafe r => Sys2Proof.Machine.execModeSafe r s
  | .safeAck r => Sys2Proof.Machine.execSafeAck r s
  | .modeHold r => Sys2Proof.Machine.execModeHold r s
  | .holdStep r count => Sys2Proof.Machine.execHoldStep r count s
  | .breakSet r index task off => Sys2Proof.Machine.execBreakSet r index task off s
  | .breakClear r index => Sys2Proof.Machine.execBreakClear r index s
  | .forceSet r addr v => Sys2Proof.Machine.execForceSet r addr v s
  | .forceClear r addr => Sys2Proof.Machine.execForceClear r addr s
  | .restart r kind => Sys2Proof.Machine.execRestart r kind s
  | .imageDownload r offset total data => Sys2Proof.Machine.execImageDownload r offset total data s
  | .activateAtRestart r slot => Sys2Proof.Machine.execActivateAtRestart r slot s
  | .activateOnline r slot => Sys2Proof.Machine.execActivateOnline r slot s
  | .fwDownload r offset total data => Sys2Proof.Machine.execFwDownload r offset total data s
  | .fwActivate r slot => Sys2Proof.Machine.execFwActivate r slot s
  | .domainRestart r target => Sys2Proof.Machine.execDomainRestart r target s
  | .hartPass r chan cmd data => Sys2Proof.Machine.execHartPass r chan cmd data s
  | .clockSet r time => Sys2Proof.Machine.execClockSet r time s
  | .detach r => Sys2Proof.Machine.execDetach r s
  | .join r => Sys2Proof.Machine.execJoin r s
  | .switchover r => Sys2Proof.Machine.execSwitchover r s
  | .takeBucket r => Sys2Proof.Machine.execTakeBucket r s
  | .logRead r first count crcBad eccBad => Sys2Proof.Machine.execLogRead r first count crcBad eccBad s
  | .logClear r upto => Sys2Proof.Machine.execLogClear r upto s
  | .claim r client images => Sys2Proof.Machine.execClaim r client images s
  | .unclaim r => Sys2Proof.Machine.execUnclaim r s
  | .anchorAdd r set content => Sys2Proof.Machine.execAnchorAdd r set content s
  | .anchorRemove r set place => Sys2Proof.Machine.execAnchorRemove r set place s
  | .denyAdd r print => Sys2Proof.Machine.execDenyAdd r print s
  | .denyRemove r print => Sys2Proof.Machine.execDenyRemove r print s
  | .anchorRead r set => Sys2Proof.Machine.execAnchorRead r set s
  | .deviceAttest r nonce => Sys2Proof.Machine.execDeviceAttest r nonce s
  | .dioSample x => Sys2Proof.Machine.execDioSample x s
  | .analogSample x => Sys2Proof.Machine.execAnalogSample x s
  | .quadratureTransition n a b => Sys2Proof.Machine.execQuadratureTransition n a b s
  | .wireBreakCleared n => Sys2Proof.Machine.execWireBreakCleared n s
  | .externalDriveCleared n => Sys2Proof.Machine.execExternalDriveCleared n s
  | .retryCountReset n => Sys2Proof.Machine.execRetryCountReset n s
  | .dgSupplyGood g => Sys2Proof.Machine.execDgSupplyGood g s
  | .encLineValid n => Sys2Proof.Machine.execEncLineValid n s
  | .supplyRetry n => Sys2Proof.Machine.execSupplyRetry n s
  | .supplyShortCleared n => Sys2Proof.Machine.execSupplyShortCleared n s
  | .complianceShortCleared n => Sys2Proof.Machine.execComplianceShortCleared n s
  | .openLoopCleared n => Sys2Proof.Machine.execOpenLoopCleared n s
  | .readbackFaultCleared n => Sys2Proof.Machine.execReadbackFaultCleared n s
  | .awIslandRestart w => Sys2Proof.Machine.execAwIslandRestart w s
  | .safeInputReleased b => Sys2Proof.Machine.execSafeInputReleased b s
  | .dbgEnFitted => Sys2Proof.Machine.execDbgEnFitted s
  | .ethernetLinkUp port gig => Sys2Proof.Machine.execEthernetLinkUp port gig s
  | .ethernetLinkDown port => Sys2Proof.Machine.execEthernetLinkDown port s
  | .unknownFrame port hops drop => Sys2Proof.Machine.execUnknownFrame port hops drop s
  | .p3DroppedFrame => Sys2Proof.Machine.execP3DroppedFrame s
  | .modbusUnsupportedFunction r fn => Sys2Proof.Machine.execModbusUnsupportedFunction r fn s
  | .malformedHeader r code => Sys2Proof.Machine.execMalformedHeader r code s
  | .unknownCommand r code => Sys2Proof.Machine.execUnknownCommand r code s
  | .ropeCrcError lost => Sys2Proof.Machine.execRopeCrcError lost s
  | .becomesSafeDriver => Sys2Proof.Machine.execBecomesSafeDriver s

end Sys2Proof.Machine
end

