-- ==== Sys2Proof/Machine/Assemble.lean ====
section
/-! DEFINITION. The code words of the Fytric instructions, written from the encoding tables of chapter 07 (R135 to R159), for the statement that the
engine reads them as the commands they stand for. -/

namespace Sys2Proof.Machine

/-- A code word from its fields (R135). -/
def codeWord (major : Nat) (d a b : RegNo) (fn : Nat) : Word := BitVec.ofNat 6 major ++ d ++ a ++ b ++ BitVec.ofNat 5 fn

/-- The words of an LCMD (R153); none for a command of the host. -/
def loopWords (who : LoopBy) (cmd block : Nat) : List Word :=
  match who with
  | .task d b => [codeWord 0x18 d 0 b 0, word (0x1000 * cmd + block)]
  | .host _ => []

/-- An arithmetic instruction in R form or, with a literal in place of source B, in I form under the next MAJOR (R142, R143). -/
def arithWords (major fn : Nat) (d a : RegNo) (b : Src) : List Word :=
  match b with
  | .reg r => [codeWord major d a r fn]
  | .lit w => [codeWord (major + 1) d a 0 fn, w]

/-- FN of a load or store: KIND and SCALE (R145). -/
def accessFn (x : Access) : Nat :=
  (match x.kind with
    | .word => 0
    | .pair => 8) + x.scale.toNat

/-- A literal of two 16-bit fields. -/
def halves (hi lo : Nat) : Word := word (65536 * hi + lo)

/-- The code of a CRC (R158). -/
def crcCode : CrcKind → Nat
  | .crc8 => 0
  | .crc16 => 1
  | .crc32 => 2
  | .crc32c => 3

/-- The code words of an instruction; none for a command that is no Fytric instruction. -/
def assemble (i : Instr) : List Word :=
  match i with
  | .add d a b => arithWords 0x01 0 d a b
  | .sub d a b => arithWords 0x01 1 d a b
  | .addu d a b => arithWords 0x01 2 d a b
  | .subu d a b => arithWords 0x01 3 d a b
  | .and d a b => arithWords 0x01 4 d a b
  | .or d a b => arithWords 0x01 5 d a b
  | .xor d a b => arithWords 0x01 6 d a b
  | .andn d a b => arithWords 0x01 7 d a b
  | .shl d a b => arithWords 0x01 8 d a b
  | .shr d a b => arithWords 0x01 9 d a b
  | .sar d a b => arithWords 0x01 10 d a b
  | .min d a b => arithWords 0x01 11 d a b
  | .max d a b => arithWords 0x01 12 d a b
  | .minu d a b => arithWords 0x01 13 d a b
  | .maxu d a b => arithWords 0x01 14 d a b
  | .mul d a b => arithWords 0x01 15 d a b
  | .mulu d a b => arithWords 0x01 16 d a b
  | .div d a b => arithWords 0x01 17 d a b
  | .divu d a b => arithWords 0x01 18 d a b
  | .rem d a b => arithWords 0x01 19 d a b
  | .remu d a b => arithWords 0x01 20 d a b
  | .cmov d a b => arithWords 0x01 23 d a b
  | .eq d a b => arithWords 0x01 24 d a b
  | .ne d a b => arithWords 0x01 25 d a b
  | .lt d a b => arithWords 0x01 26 d a b
  | .le d a b => arithWords 0x01 27 d a b
  | .ltu d a b => arithWords 0x01 28 d a b
  | .leu d a b => arithWords 0x01 29 d a b
  | .neg d a => [codeWord 0x01 d a 0 21]
  | .abs d a => [codeWord 0x01 d a 0 22]
  | .not d a => [codeWord 0x01 d a 0 30]
  | .fadd d a b => arithWords 0x03 0 d a b
  | .fsub d a b => arithWords 0x03 1 d a b
  | .fmul d a b => arithWords 0x03 2 d a b
  | .fdiv d a b => arithWords 0x03 3 d a b
  | .fmin d a b => arithWords 0x03 5 d a b
  | .fmax d a b => arithWords 0x03 6 d a b
  | .feq d a b => arithWords 0x03 9 d a b
  | .flt d a b => arithWords 0x03 10 d a b
  | .fle d a b => arithWords 0x03 11 d a b
  | .fsqrt d a => [codeWord 0x03 d a 0 4]
  | .fabs d a => [codeWord 0x03 d a 0 7]
  | .fneg d a => [codeWord 0x03 d a 0 8]
  | .itof d a => [codeWord 0x03 d a 0 12]
  | .utof d a => [codeWord 0x03 d a 0 13]
  | .ftoi d a => [codeWord 0x03 d a 0 14]
  | .ftoiz d a => [codeWord 0x03 d a 0 15]
  | .ftou d a => [codeWord 0x03 d a 0 16]
  | .add64 d a b => [codeWord 0x05 d a b 0]
  | .sub64 d a b => [codeWord 0x05 d a b 1]
  | .mul64 d a b => [codeWord 0x05 d a b 2]
  | .div64 d a b => [codeWord 0x05 d a b 3]
  | .rem64 d a b => [codeWord 0x05 d a b 4]
  | .eq64 d a b => [codeWord 0x05 d a b 6]
  | .lt64 d a b => [codeWord 0x05 d a b 7]
  | .neg64 d a => [codeWord 0x05 d a 0 5]
  | .sx64 d a => [codeWord 0x05 d a 0 8]
  | .zx64 d a => [codeWord 0x05 d a 0 9]
  | .sat32 d a => [codeWord 0x05 d a 0 10]
  | .tof64 d a => [codeWord 0x05 d a 0 11]
  | .fto64 d a => [codeWord 0x05 d a 0 12]
  | .movi d w => [codeWord 0x06 d 0 0 0, w]
  | .ld d a x => [codeWord 0x08 d a 0 (accessFn x), word x.arr.base]
  | .st b a x => [codeWord 0x09 0 a b (accessFn x), word x.arr.base]
  | .br off => [codeWord 0x0C 0 0 0 0, off]
  | .brt ra off => [codeWord 0x0C 0 ra 0 1, off]
  | .brf ra off => [codeWord 0x0C 0 ra 0 2, off]
  | .loop d ra bound len => [codeWord 0x0C d ra 0 3, halves len bound]
  | .call entry => [codeWord 0x0C 0 0 0 4, word entry]
  | .ret => [codeWord 0x0C 0 0 0 5]
  | .endTask => [codeWord 0x0C 0 0 0 6]
  | .nop => [codeWord 0x0C 0 0 0 7]
  | .rise d ra n => [codeWord 0x10 d ra 0 0, word n]
  | .fall d ra n => [codeWord 0x10 d ra 0 1, word n]
  | .change d ra n => [codeWord 0x10 d ra 0 2, word n]
  | .ton d ra rb n => [codeWord 0x11 d ra rb 0, word n]
  | .tof d ra rb n => [codeWord 0x11 d ra rb 1, word n]
  | .tp d ra rb n => [codeWord 0x11 d ra rb 2, word n]
  | .trd d n => [codeWord 0x11 d 0 0 3, word n]
  | .trst n => [codeWord 0x11 0 0 0 4, word n]
  | .ctu d ra rb rp n => [codeWord 0x12 d ra rb 0, halves rp.toNat n]
  | .ctd d ra rb rp n => [codeWord 0x12 d ra rb 1, halves rp.toNat n]
  | .crd d n => [codeWord 0x12 d 0 0 2, word n]
  | .cld ra n => [codeWord 0x12 0 ra 0 3, word n]
  | .stroke d => [codeWord 0x14 d 0 0 0]
  | .taskid d => [codeWord 0x14 d 0 0 1]
  | .evt d ra code => [codeWord 0x14 d ra 0 2, word code]
  | .cantx d port buf base => [codeWord 0x1C d 0 0 0, word (0x2000000 * buf + 0x1000000 * port + base)]
  | .canpop d port fifo base => [codeWord 0x1C d 0 0 1, word (0x2000000 * fifo + 0x1000000 * port + base)]
  | .canmb d port mailbox base => [codeWord 0x1C d 0 0 2, word (0x2000000 * mailbox + 0x1000000 * port + base)]
  | .hreq d chan arr => [codeWord 0x1D d 0 0 0, word (0x1000000 * chan + arr.base)]
  | .hres d chan arr => [codeWord 0x1D d 0 0 1, word (0x1000000 * chan + arr.base)]
  | .crc d ra k arr => [codeWord 0x1E d ra 0 (crcCode k), word arr.base]
  | .crcc d ra rb k arr => [codeWord 0x1E d ra rb (4 + crcCode k), word arr.base]
  | .seal d ra k arr slot => [codeWord 0x1E d ra 0 (8 + crcCode k), word (0x1000000 * slot + arr.base)]
  | .check d ra k arr slot => [codeWord 0x1E d ra 0 (12 + crcCode k), word (0x1000000 * slot + arr.base)]
  | .aonPowerUp _ => []
  | .aonPowerDown => []
  | .standpipeReady => []
  | .feedGood _ _ => []
  | .feedLow _ _ => []
  | .feedLost _ _ => []
  | .feedOver _ _ => []
  | .feedOverEnd _ _ => []
  | .dipBegin _ => []
  | .dipRidden _ => []
  | .powerLoss => []
  | .saveDone => []
  | .resetAssert => []
  | .resetRelease => []
  | .presentMated => []
  | .presentParted => []
  | .partnerAbsent => []
  | .partnerPresent => []
  | .safeInputAsserted _ => []
  | .dbgEnOpen => []
  | .ppsInEdge _ _ => []
  | .ppsOutPulse => []
  | .almStrapChange _ _ => []
  | .priming _ => []
  | .primingTimeout => []
  | .primingRetry => []
  | .strokeTick _ => []
  | .digestExchange _ _ _ => []
  | .digestCompare => []
  | .divergenceSelftest _ => []
  | .selftestTimeout => []
  | .paceMeasurement _ => []
  | .lockSourceLost => []
  | .lockSourceReturn _ => []
  | .timebaseFault => []
  | .engineRail _ => []
  | .loopRail => []
  | .memRail => []
  | .scrubRead _ => []
  | .checkpointDone _ => []
  | .verifierDone _ _ => []
  | .fwCheckDone _ => []
  | .domainReturn _ => []
  | .engineSelftestPass _ _ => []
  | .selftestOverdue _ => []
  | .proofMarkSet _ _ => []
  | .proofMarkExpired _ _ => []
  | .healthyClose _ => []
  | .netFault => []
  | .secureFault => []
  | .recordWrite => []
  | .dwLinkFrame _ => []
  | .awLinkFrame _ => []
  | .islandWatchdogExpired _ => []
  | .dwLinkLost => []
  | .awLinkLost _ => []
  | .wireBreak _ => []
  | .thermalShutdown _ => []
  | .thermalRetry _ => []
  | .groupOvercurrent _ => []
  | .externalDrive _ => []
  | .switchFault _ => []
  | .dgSupplyLow _ => []
  | .dgSupplyLost _ => []
  | .groupRestoreTimer _ => []
  | .ssiReadDone _ _ _ => []
  | .encLineLoss _ => []
  | .encSupplyOverload => []
  | .encSupplyRetry _ => []
  | .supplySwitchOn _ => []
  | .supplyShort _ => []
  | .complianceShort _ => []
  | .openLoop _ => []
  | .readbackFault _ => []
  | .awReservoirLow _ => []
  | .reservoirRecovered _ => []
  | .awIslandReset _ => []
  | .referenceCheck _ _ => []
  | .hartResponse _ _ => []
  | .hartRt1Timeout _ => []
  | .hartIdentifyTimer _ => []
  | .hartBurstFrame _ _ => []
  | .canFrameReceived _ _ => []
  | .canFrameSent _ _ => []
  | .canBusError _ _ => []
  | .canRecovered _ => []
  | .protocolException _ => []
  | .remoteFrame _ => []
  | .txdDominantTimeout _ _ _ => []
  | .wazarIn _ => []
  | .wazarIdentRsp _ => []
  | .wazarOutReceived _ => []
  | .identReqTimer _ => []
  | .rioRingOpen _ => []
  | .conflictEnd _ => []
  | .arpRequest _ => []
  | .icmpEcho _ => []
  | .modbusConnect _ => []
  | .modbusIdleTimeout _ => []
  | .readCoils _ _ => []
  | .readDiscreteInputs _ _ => []
  | .readHoldingRegisters _ _ => []
  | .readInputRegisters _ _ => []
  | .writeSingleCoil _ _ => []
  | .writeSingleRegister _ _ => []
  | .writeMultipleCoils _ _ _ _ => []
  | .writeMultipleRegisters _ _ _ _ => []
  | .readWriteMultipleRegisters _ _ _ _ _ _ => []
  | .ptpSync _ _ _ _ => []
  | .ptpFollowUp _ _ _ => []
  | .ptpDelayResp _ _ => []
  | .ptpAnnounce _ _ => []
  | .delayReqTimer => []
  | .ptpSyncTimeout => []
  | .sessionOpen _ => []
  | .sessionIdleTimeout _ => []
  | .authLockoutEnd _ => []
  | .usbAttach => []
  | .usbDetach => []
  | .ropeLaneUp _ => []
  | .ropeLaneLost _ => []
  | .ropeLost _ => []
  | .ropeRestored => []
  | .tickMarker _ _ => []
  | .ropeStatus _ => []
  | .ropeManifest _ => []
  | .manifestLate => []
  | .rxNotice _ _ => []
  | .ropeDigest _ _ _ _ _ => []
  | .transfer _ _ => []
  | .catchup _ => []
  | .ropeImage _ => []
  | .ropeCommand _ => []
  | .handoverReleased => []
  | .selftestPass => []
  | .selftestFail => []
  | .bucketLineChange _ => []
  | .bucketTake _ _ => []
  | .bucketStuck => []
  | .leaseLapsed => []
  | .armedWindowEnd => []
  | .joinTimeout => []
  | .joinRetry => []
  | .pwrRestart _ _ => []
  | .requestStop _ => []
  | .requestSafe _ => []
  | .ckptNow _ _ => []
  | .dioUnlatch _ _ => []
  | .groupAck _ _ => []
  | .encLoad _ _ _ => []
  | .canTxAbort _ _ _ => []
  | .recover _ _ => []
  | .dioOutSet _ _ => []
  | .dioOutClr _ _ => []
  | .bitSetAlias _ _ _ => []
  | .bitClearAlias _ _ _ => []
  | .clearStrapChanged _ => []
  | .clearCanFlags _ _ _ => []
  | .stkCountLoRead _ => []
  | .registerWrite _ _ _ => []
  | .auto d block => [codeWord 0x18 d 0 0 0, word block]
  | .manual d block => [codeWord 0x18 d 0 0 0, word (0x1000 + block)]
  | .tuneStart who block _ => loopWords who 2 block
  | .tuneAccept who block => loopWords who 3 block
  | .tuneDiscard who block => loopWords who 4 block
  | .tuneAbort who block => loopWords who 5 block
  | .injectStart who block => loopWords who 6 block
  | .injectStop who block => loopWords who 7 block
  | .regRead _ _ _ => []
  | .varRead _ _ _ => []
  | .varWrite _ _ => []
  | .dipperRead _ _ _ => []
  | .modeRun _ => []
  | .modeStop _ => []
  | .modeSafe _ => []
  | .safeAck _ => []
  | .modeHold _ => []
  | .holdStep _ _ => []
  | .breakSet _ _ _ _ => []
  | .breakClear _ _ => []
  | .forceSet _ _ _ => []
  | .forceClear _ _ => []
  | .restart _ _ => []
  | .imageDownload _ _ _ _ => []
  | .activateAtRestart _ _ => []
  | .activateOnline _ _ => []
  | .fwDownload _ _ _ _ => []
  | .fwActivate _ _ => []
  | .domainRestart _ _ => []
  | .hartPass _ _ _ _ => []
  | .clockSet _ _ => []
  | .detach _ => []
  | .join _ => []
  | .switchover _ => []
  | .takeBucket _ => []
  | .logRead _ _ _ _ _ => []
  | .logClear _ _ => []
  | .claim _ _ _ => []
  | .unclaim _ => []
  | .anchorAdd _ _ _ => []
  | .anchorRemove _ _ _ => []
  | .denyAdd _ _ => []
  | .denyRemove _ _ => []
  | .anchorRead _ _ => []
  | .deviceAttest _ _ => []
  | .dioSample _ => []
  | .analogSample _ => []
  | .quadratureTransition _ _ _ => []
  | .wireBreakCleared _ => []
  | .externalDriveCleared _ => []
  | .retryCountReset _ => []
  | .dgSupplyGood _ => []
  | .encLineValid _ => []
  | .supplyRetry _ => []
  | .supplyShortCleared _ => []
  | .complianceShortCleared _ => []
  | .openLoopCleared _ => []
  | .readbackFaultCleared _ => []
  | .awIslandRestart _ => []
  | .safeInputReleased _ => []
  | .dbgEnFitted => []
  | .ethernetLinkUp _ _ => []
  | .ethernetLinkDown _ => []
  | .unknownFrame _ _ _ => []
  | .p3DroppedFrame => []
  | .modbusUnsupportedFunction _ _ => []
  | .malformedHeader _ _ => []
  | .unknownCommand _ _ => []
  | .ropeCrcError _ => []
  | .becomesSafeDriver => []

end Sys2Proof.Machine
end

