-- ==== Sys2Proof/Safety.lean ====
section
/-! DEFINITION. What counts as a sound state, in the terms the claims use: the registers that show other state agree with it, memory is in
canonical form, and the HEALTHY contact is closed only while its conditions hold. -/

namespace Sys2Proof.Machine

/-- The registers that count what the units hold show their counts (R330, R317, R394, R411). -/
def M.CountsShown (s : M) : Prop :=
  s.reg F.engStatSessions = word s.net.sessions.length ∧
  s.reg F.mbStatConnections = word s.net.conns.length ∧
  s.reg F.secStatusDenyCount = word s.store.deny.length ∧
  s.reg F.secStatusImageAnchors = word (placesUsed s.store.images) ∧
  s.reg F.secStatusClientAnchors = word (placesUsed s.store.clients) ∧
  s.reg F.secStatusClaimed = boolWord (decide (0 < placesUsed s.store.clients)) ∧
  s.reg F.logStatCount = word (s.log.records.length + boolNat s.log.opened.isSome)

/-- The HEALTHY contact is closed only while every condition of R374 holds. -/
def M.ContactSafe (s : M) : Prop := s.on F.hltSummaryHealthy = true → s.healthyNow = true

/-- Data memory in its canonical form: addresses strictly rising, no byte listed as the 0 that an unlisted address reads as. -/
def Memory.wf (m : List Host.Cell) : Bool := Tab.wf m fun _ => 0#8

/-- The fields that a command's end may bring up to date whatever the command does: the health summary, states and items (R369, R377), the
counts of R334, R377, R394 and R411, and the two fields of the recorder that a raised event may change (R385). A frame leaves these out. -/
def reportField (k : Nat) : Bool :=
  (decide (fieldKey 0x40003000 0 ≤ k) && decide (k < fieldKey 0x40003014 0)) ||
  (decide (fieldKey 0x40003100 0 ≤ k) && decide (k < fieldKey 0x40003500 0)) ||
  [F.engStatSessions, F.mbStatConnections, F.secStatusDenyCount, F.secStatusImageAnchors, F.secStatusClientAnchors, F.secStatusClaimed,
   F.logStatCount, F.logQueuePeak, F.logLost, F.hltRestartsCount].contains k

/-- `t` differs from `s` only in the fields listed, in report fields, in the queues of events, and in what a command's end keeps (followed
conditions, the cause of item changes, the refused restarts still wanted, the time from which HEALTHY may close): memory, every unit and every other register are unchanged. -/
def M.Only (s t : M) (touched : List Nat) : Prop :=
  t = { s with fields := t.fields, hlt := { s.hlt with since := t.hlt.since, cause := t.hlt.cause, refused := t.hlt.refused }, log := { s.log with queue := t.log.queue }
               aon := { s.aon with queue := t.aon.queue, lost := t.aon.lost, healthySince := t.aon.healthySince } } ∧
  ∀ k, reportField k = false → k ∉ touched → t.reg k = s.reg k

/-- Event `e` is raised once: with MEM powered and room in it, the recorder's queue has gained this one entry, with the stroke and the wall
clock of `s` (R379, R381, R385). -/
def M.Raised (s t : M) (e : Event) : Prop :=
  s.domainOn 1 = true → s.log.queue.length < 1024 →
    ∃ x : LogEntry, t.log.queue = s.log.queue ++ [x] ∧ x.event = e ∧ x.stroke = s.stroke ∧ x.wall = s.wall

/-- No event is raised. -/
def M.Silent (s t : M) : Prop := t.log.queue = s.log.queue ∧ t.aon.queue = s.aon.queue ∧ t.aon.lost = s.aon.lost

/-- The command is carried out: `exec` answers a next state with the queue as it was, and with a module for which `P` holds. -/
def Runs (c : Instr) (s : State) (P : M → Prop) : Prop := ∃ t, exec c s = .next t ∧ t.pending = s.pending ∧ P t.m

/-! ### Requests of the host (R12, R332, R413) -/

/-- Session `x`, which is not closing, gives request `r` with a proper header to a module that is out of RESET, and none of the session's earlier requests is
unanswered. -/
def M.Asks (s : M) (r : Req) (x : Session) : Prop :=
  s.session r = some x ∧ x.order = [] ∧ x.ready = [] ∧ s.mode ≠ 0 ∧ x.closing = false ∧ headerOk r = true ∧ r.place = 0

/-- The principal is authenticated and has at least the role `least`: 0 Viewer, 1 Operator, 2 Engineer, 3 Custodian. -/
def Session.May (x : Session) (least : Nat) : Prop := x.auth = true ∧ least ≤ x.role

/-- `t` is `base` with request `r` answered: only the fields listed may differ, and the sessions stand where each has its own number. -/
def M.Answered (base t : M) (r : Req) (st : Nat) (body : List Byte) (touched : List Nat) : Prop :=
  ({ base with net := { base.net with sessions := t.net.sessions }, out := base.out ++ [.reply r st body] } : M).Only t touched ∧
  (∀ x, base.session r = some x → (∀ y ∈ base.net.sessions, y.id = r.sess → y = x) → t.net.sessions = base.net.sessions)

/-- Command `c` is answered at once with status 0, the module being `base` otherwise, and no event is raised. -/
def Replies (c : Instr) (s : State) (r : Req) (base : M) (body : List Byte) (touched : List Nat) : Prop :=
  Runs c s fun t => base.Answered t r 0 body touched ∧ s.m.Silent t

/-- Command `c` of code `code` is refused with status `st`: its reply and COMMAND_REFUSED, and no other effect (R12, R418). -/
def Refuses (c : Instr) (s : State) (r : Req) (x : Session) (code st : Nat) : Prop :=
  Runs c s fun t => s.m.Answered t r st [] [] ∧ s.m.Raised t (ev 0x0070 0x1080 code st x.principal.toNat)

/-! ### Fytric instructions -/

/-- The Fytric context that instruction commands act on becomes `g`, and nothing else changes. -/
def FyNext (c : Instr) (s : State) (g : Fy) : Prop := exec c s = .next { s with m := { s.m with fy := g } }

/-- `p` is `a` one instruction of `len` words and `bu` BU later, but for its registers. -/
def Act.Past (a p : Act) (len bu : Nat) : Prop := p = { a with regs := p.regs, pc := a.pc + len, charge := a.charge + bu }

/-- Register `d` reads `w` and every other register as before; g0 takes nothing (R138). -/
def Act.SetsReg (a p : Act) (d : RegNo) (w : Word) : Prop := ∀ r, p.reg r = if r = d ∧ d ≠ 0#7 then w else a.reg r

/-- The pair of `d` and `d + 1` reads `v`, low word first, and every other register as before; the zero pair takes nothing (R119, R144). -/
def Act.SetsPair (a p : Act) (d : RegNo) (v : DWord) : Prop :=
  ∀ r, p.reg r = if d = 0#7 then a.reg r else if r = d then v.lo else if r = d + 1 ∧ r ≠ 0#7 then v.hi else a.reg r

/-- The instruction writes `w` to register `d` and goes on behind its `len` words, `bu` BU dearer; LOOP bodies that end there are then settled
(`settleLoops`, R148). Slots and everything else are as before. -/
def Writes (c : Instr) (s : State) (d : RegNo) (w : Word) (len bu : Nat) : Prop :=
  ∃ p : Act, s.m.fy.act.Past p len bu ∧ s.m.fy.act.SetsReg p d w ∧ FyNext c s { s.m.fy with act := settleLoops p p.loops }

/-- As `Writes`, for a pair. -/
def WritesPair (c : Instr) (s : State) (d : RegNo) (v : DWord) (len bu : Nat) : Prop :=
  ∃ p : Act, s.m.fy.act.Past p len bu ∧ s.m.fy.act.SetsPair p d v ∧ FyNext c s { s.m.fy with act := settleLoops p p.loops }

/-- The instruction leaves the activation `p`, whose LOOP bodies that end at its pc are then settled (`settleLoops`, R148), and the slots `sl`. -/
def Leaves (c : Instr) (s : State) (p : Act) (sl : Slots) : Prop := FyNext c s { act := settleLoops p p.loops, slots := sl }

/-- As `Writes`, with the slots changed to `sl`. -/
def WritesIn (c : Instr) (s : State) (d : RegNo) (w : Word) (len bu : Nat) (sl : Slots) : Prop :=
  ∃ p : Act, s.m.fy.act.Past p len bu ∧ s.m.fy.act.SetsReg p d w ∧ Leaves c s p sl

/-- `p` is `a` one instruction of `len` words and `bu` BU later, with `w` in register `d`, the stores `ws` made and the effects `es` recorded; in the
priming section the stores have already reached its snapshot (R116). -/
def Act.Did (a p : Act) (d : RegNo) (w : Word) (len bu : Nat) (ws : List (Nat × Word)) (es : List Effect) : Prop :=
  p = { a with regs := p.regs, pc := a.pc + len, charge := a.charge + bu, writes := a.writes ++ ws, effects := a.effects ++ es, snap := p.snap } ∧
  a.SetsReg p d w ∧ p.snap = if a.priming then ws.foldl (init := a.snap) fun m e => m.storeNow e.1 e.2 else a.snap

/-- Whether a LOOP body is left by a jump to word `target` (R147, R148): one of the present subroutine level that does not hold it. -/
def Act.loopLeft (a : Act) (target : Nat) (f : LoopFrame) : Bool := f.depth == a.calls.length && !(decide (f.start ≤ target) && decide (target < f.stop))

/-- The instruction continues at word `target`, `bu` BU dearer: the innermost LOOPs whose bodies it leaves end with gd = passes, and every other
register, LOOP and slot is as before (R147, R148). -/
def Jumps (c : Instr) (s : State) (target bu : Nat) : Prop :=
  let a := s.m.fy.act
  let gone := a.loops.takeWhile (a.loopLeft target)
  ∃ p : Act, p = { a with regs := p.regs, pc := target, charge := a.charge + bu, loops := a.loops.dropWhile (a.loopLeft target) } ∧
    (∀ r, (∀ f ∈ gone, f.reg ≠ r) → p.reg r = a.reg r) ∧
    (∀ f l l', gone = l ++ f :: l' → (∀ g ∈ l', g.reg ≠ f.reg) → f.reg ≠ 0#7 → p.reg f.reg = word (f.pass + 1)) ∧
    FyNext c s { s.m.fy with act := p }

/-- `i` limited to the INT32 range (R141). -/
def limit32 (i : Int) : Int := max (-2147483648) (min 2147483647 i)

/-- `i` limited to the UINT32 range (R141). -/
def limitU32 (i : Int) : Int := max 0 (min 4294967295 i)

/-- `i` limited to the INT64 range (R141). -/
def limit64 (i : Int) : Int := max (-9223372036854775808) (min 9223372036854775807 i)

/-! ### REAL32 values (R119, R141)

Every REAL32 value that is not NaN or infinite is a whole number of units of 2^−149. -/

/-- The value that a REAL32 operand is read as (R141), in units of 2^−149. -/
def realUnits (w : Word) : Int := (if (realOf w).neg then -1 else 1) * ((realOf w).sig * 2 ^ ((realOf w).exp + 149).toNat : Nat)

/-- A word that is no NaN, no infinity and no subnormal. -/
def realProper (w : Word) : Prop := w.bits 30 23 ≠ 255 ∧ (w.bits 30 23 = 0 → w.bits 22 0 = 0)

/-- `w` is what R141 makes of the exact value `num / den` units, `den` positive: the nearest REAL32 value, of two equally near ones that with an even
significand; the largest finite one on overflow; a zero of the exact result's sign where the value, rounded to 24 significand bits, lies below
2^−126, which is 2^23 units. The sign of an exact zero is left to the operation. -/
def RoundsTo (w : Word) (num den : Int) : Prop :=
  realProper w ∧ (num ≠ 0 → w.msb = decide (num < 0)) ∧
  (4 * num.natAbs < 33554431 * den → realUnits w = 0) ∧
  (33554431 * den ≤ 4 * num.natAbs → num.natAbs < 8388608 * den → (realUnits w).natAbs = 8388608) ∧
  (8388608 * den ≤ num.natAbs → ∀ q : Word,
    (realUnits w * den - num).natAbs ≤ (realUnits q * den - num).natAbs ∧
    ((realUnits w * den - num).natAbs = (realUnits q * den - num).natAbs → realUnits q = realUnits w ∨ w.toNat % 2 = 0))

end Sys2Proof.Machine
end

