-- ==== Sys2Proof/WellFormed.lean ====
section
/-! DEFINITION. Well-formed commands: every operand within the range that the spec's encoding of it has. The meanings are total; a
command that is not well formed is one that no module edge, frame or code word can spell. -/

namespace Sys2Proof

/-- A number below `n`. -/
def below (n k : Nat) : Bool := decide (k < n)

/-! ### Registers and data SRAM (R117, R119, R135, R145) -/

/-- A destination pair: even, at least 2 (R119). -/
def okPairDest (r : RegNo) : Bool := r.toNat % 2 == 0 && decide (2 ≤ r.toNat)

/-- A source pair, or 0 for the zero pair (R144). -/
def okPairSrc (r : RegNo) : Bool := r.toNat % 2 == 0

/-- An address of the address map. -/
def okAddr (a : Nat) : Bool := below 4294967296 a

/-- A word-aligned address (R4). -/
def okWordAddr (a : Nat) : Bool := okAddr a && a % 4 == 0

/-- A word of SYS space or of loop block space (R117). -/
def okRegAddr (a : Nat) : Bool :=
  a % 4 == 0 && ((decide (0x40000000 ≤ a) && below 0x400C0000 a) || (decide (0x50000000 ≤ a) && below 0x50040000 a))

/-- A word of data SRAM, which both aliases address (R91). -/
def okAlias (a : Nat) : Bool := a % 4 == 0 && below 0x01000000 a

/-- A buffer of `n` bytes in data SRAM (R156, R157). -/
def okBuffer (n a : Nat) : Bool := a % 4 == 0 && decide (a + n ≤ 0x01000000)

/-- What reads of data SRAM find: addresses in it. -/
def okEcc (e : EccFound) : Bool := (e.fixed.all (below 16777216)) && e.bad.all (below 16777216)

/-- A declared array in data SRAM, one word long at least. -/
def okArray (x : ArrRef) : Bool := x.base % 4 == 0 && decide (4 ≤ x.bytes) && decide (x.base + x.bytes ≤ 0x01000000)

/-- The array of a load or store: at least one access long, in the address map. -/
def okAccess (x : Access) : Bool :=
  okWordAddr x.arr.base && decide ((if x.kind = .pair then 8 else 4) ≤ x.arr.bytes) && decide (x.arr.base + x.arr.bytes ≤ 4294967296) && okEcc x.ecc

/-! ### Frames (chapters 12 to 16) -/

/-- The data lengths of CAN (R155). -/
def canLengths : List Nat := [0, 1, 2, 3, 4, 5, 6, 7, 8, 12, 16, 20, 24, 32, 48, 64]

/-- A data frame of CAN or CAN FD. -/
def okFrame (f : CanFrame) : Bool :=
  (if f.ide then below 536870912 f.ident else below 2048 f.ident) && canLengths.contains f.data.length && (f.fdf || (below 9 f.data.length && !f.brs))

/-- A bus error: the steps of 8 up to bus-off, and the identifiers of CAN. -/
def okCanError (e : CanError) : Bool :=
  match e with
  | .arbitration => true
  | .sending _ more => below 32 more
  | .receiving more => below 32 more
  | .collision ident => below 536870912 ident

/-- A HART response: 38-bit long address, 16-bit command, at most 255 bytes. -/
def okHart (f : HartFrame) : Bool := below 274877906944 f.uid && below 65536 f.command && below 256 f.data.length

/-- A DW link frame: 8-bit alive counter, four groups (R231). -/
def okDw (x : DwFrame) : Bool :=
  below 256 x.alive && x.groups.length == 4 && (x.groups.all fun g => below 65536 g.1 && below 65536 g.2) && below 65536 x.encMa

/-- An AW link frame (R267). -/
def okAw (x : AwFrame) : Bool := below 2 x.w && below 256 x.alive && below 101 x.reservoir

/-- A sampling of the digital wellhead: 32 contacts (R234). -/
def okDioMeas (x : DioMeas) : Bool := x.pins.length == 32

/-- A sample instant of an analog wellhead: eight channels, 16-bit codes (R255). -/
def okAwMeas (x : AwMeas) : Bool :=
  below 2 x.w && x.codes.length == 8 && (x.codes.all (below 65536)) && x.drive.length == 8 && x.readback.length == 8

/-- The head of a Wazar frame (R302). -/
def okHead (h : WazarHead) : Bool :=
  decide (1 ≤ h.port) && below 3 h.port && below 256 h.hops && below 65536 h.seq && below 64 h.ctrl && below 64 h.stn && below 281474976710656 h.mac

/-- A data record (R303). -/
def okRecord (r : RioRecord) : Bool := below 64 r.slot && below 65 r.words.length

/-- An identity record (R303). -/
def okIdent (r : IdentRecord) : Bool := below 64 r.slot && below 256 r.inWords && below 256 r.outWords

/-! ### Ticks and priming -/

/-- What a priming finds. -/
def okPriming (x : PrimingIn) : Bool := below 64 x.station && (x.fwBad.all (below 2)) && x.areaBad.all (below 2) && x.sramFixed.all (below 16777216)

/-- What a tick finds. -/
def okTick (x : TickIn) : Bool :=
  below 64 x.station && (x.onBus.all (below 64)) && x.sramFixed.all (below 16777216) && x.sramBad.all (below 16777216) && (match x.laneFault with
    | some n => below 1024 n
    | none => true)

/-! ### The host, Modbus and the rope (chapters 17, 18 and 22) -/

/-- A request: the widths of the fields of its header (R331). -/
def okReq (r : Req) : Bool :=
  below 4294967296 r.tag && below 4294967296 r.length && below 65536 r.command && below 65536 r.flags && below 65536 r.spare

/-- A Modbus request: 16-bit transaction and address, 8-bit unit identifier (R320). -/
def okMb (r : MbReq) : Bool := below 65536 r.tag && below 65536 r.start && below 256 r.unit

/-- An LCMD, or a request. -/
def okBy (w : LoopBy) : Bool :=
  match w with
  | .task _ _ => true
  | .host r => okReq r

/-- A STATUS frame: the codes of roles, modes and priming kinds (R341). -/
def okStatus (x : RopeStatus) : Bool :=
  below 5 x.role && below 6 x.mode && below 64 x.station && below 65536 x.ropeVersion && below 4294967296 x.firmware && below 4294967296 x.ack &&
    below 18446744073709551616 x.imageId && below 32 x.refusal

/-- A manifest of at most 8192 bytes holds no more entries than bytes (R93). -/
def okManifest (m : Manifest) : Bool :=
  below 6 m.newMode && below 2 m.changeSlot && below 8 m.inputs && (m.raw.all fun e => below 16 e.1 && below 65536 e.2) && (m.can.all fun e => okFrame e.frame) &&
    decide (m.hostWrites.length + m.can.length + m.modbus.length + m.hart.length ≤ 8192)

/-- What the best master clock algorithm compares of a master (R325): the widths of the fields of its Announce. -/
def okMaster (x : PtpMaster) : Bool :=
  below 256 x.priority1 && below 256 x.clockClass && below 256 x.accuracy && below 65536 x.variance && below 256 x.priority2 &&
    below 18446744073709551616 x.identity && below 65536 x.steps && below 18446744073709551616 x.sender

/-- An IMAGE frame: at most 8 image anchors and 8 client anchors. -/
def okRopeImage (x : RopeImage) : Bool :=
  match x with
  | .bytes offset total _ => below 4294967296 offset && below 4294967296 total
  | .anchors images clients _ => below 9 images.length && below 9 clients.length

/-- The sections of an image: at most 12,582,912 bytes of code (R108). -/
def okBody (b : ImageBody) : Bool := below 3145729 b.code.length && (b.tasks.all fun t => below 16 t.num && below 4 t.engine)

/-! ### Commands -/

/-- Whether a command is well formed. -/
def Instr.wf (i : Instr) : Bool :=
  match i with
  | .aonPowerUp _ => true
  | .aonPowerDown => true
  | .standpipeReady => true
  | .feedGood _ v => below 65536 v.volts
  | .feedLow _ v => below 65536 v.volts
  | .feedLost _ v => below 65536 v.volts
  | .feedOver _ v => below 65536 v.volts
  | .feedOverEnd _ v => below 65536 v.volts
  | .dipBegin _ => true
  | .dipRidden _ => true
  | .powerLoss => true
  | .saveDone => true
  | .resetAssert => true
  | .resetRelease => true
  | .presentMated => true
  | .presentParted => true
  | .partnerAbsent => true
  | .partnerPresent => true
  | .safeInputAsserted _ => true
  | .dbgEnOpen => true
  | .ppsInEdge _ _ => true
  | .ppsOutPulse => true
  | .almStrapChange w _ => below 2 w
  | .priming x => okPriming x
  | .primingTimeout => true
  | .primingRetry => true
  | .strokeTick x => okTick x
  | .digestExchange _ _ _ => true
  | .digestCompare => true
  | .divergenceSelftest _ => true
  | .selftestTimeout => true
  | .paceMeasurement _ => true
  | .lockSourceLost => true
  | .lockSourceReturn _ => true
  | .timebaseFault => true
  | .engineRail e => below 4 e
  | .loopRail => true
  | .memRail => true
  | .scrubRead _ => true
  | .checkpointDone _ => true
  | .verifierDone slot b => below 2 slot && okBody b
  | .fwCheckDone slot => below 2 slot
  | .domainReturn t => decide (1 ≤ t) && below 6 t
  | .engineSelftestPass e _ => below 4 e
  | .selftestOverdue e => below 4 e
  | .proofMarkSet n _ => below 32 n
  | .proofMarkExpired n _ => below 32 n
  | .healthyClose _ => true
  | .netFault => true
  | .secureFault => true
  | .recordWrite => true
  | .dwLinkFrame x => okDw x
  | .awLinkFrame x => okAw x
  | .islandWatchdogExpired wellhead => below 3 wellhead
  | .dwLinkLost => true
  | .awLinkLost w => below 2 w
  | .wireBreak n => below 32 n
  | .thermalShutdown n => below 32 n
  | .thermalRetry n => below 32 n
  | .groupOvercurrent g => below 4 g
  | .externalDrive n => below 32 n
  | .switchFault n => below 32 n
  | .dgSupplyLow g => below 4 g
  | .dgSupplyLost g => below 4 g
  | .groupRestoreTimer g => below 4 g
  | .ssiReadDone n v _ => below 4 n && below 4294967296 v
  | .encLineLoss n => below 4 n
  | .encSupplyOverload => true
  | .encSupplyRetry _ => true
  | .supplySwitchOn w => below 2 w
  | .supplyShort n => below 16 n
  | .complianceShort n => below 16 n
  | .openLoop n => below 16 n
  | .readbackFault n => below 16 n
  | .awReservoirLow w => below 2 w
  | .reservoirRecovered w => below 2 w
  | .awIslandReset w => below 2 w
  | .referenceCheck w _ => below 2 w
  | .hartResponse n f => below 16 n && okHart f
  | .hartRt1Timeout n => below 16 n
  | .hartIdentifyTimer n => below 16 n
  | .hartBurstFrame n f => below 16 n && okHart f
  | .canFrameReceived p x => below 2 p && okFrame x.frame
  | .canFrameSent p b => below 2 p && below 32 b
  | .canBusError p e => below 2 p && okCanError e
  | .canRecovered p => below 2 p
  | .protocolException p => below 2 p
  | .remoteFrame p => below 2 p
  | .txdDominantTimeout p _ more => below 2 p && below 32 more
  | .wazarIn x => okHead x.head && x.records.all okRecord
  | .wazarIdentRsp x => okHead x.head && x.records.all okIdent
  | .wazarOutReceived h => okHead h
  | .identReqTimer n => below 64 n
  | .rioRingOpen _ => true
  | .conflictEnd n => below 64 n
  | .arpRequest _ => true
  | .icmpEcho _ => true
  | .modbusConnect conn => below 8 conn
  | .modbusIdleTimeout conn => below 8 conn
  | .readCoils r quantity => okMb r && below 65536 quantity
  | .readDiscreteInputs r quantity => okMb r && below 65536 quantity
  | .readHoldingRegisters r quantity => okMb r && below 65536 quantity
  | .readInputRegisters r quantity => okMb r && below 65536 quantity
  | .writeSingleCoil r value => okMb r && below 65536 value
  | .writeSingleRegister r value => okMb r && below 65536 value
  | .writeMultipleCoils r quantity bytes values => okMb r && below 65536 quantity && below 256 bytes && values.all (below 65536)
  | .writeMultipleRegisters r quantity bytes values => okMb r && below 65536 quantity && below 256 bytes && values.all (below 65536)
  | .readWriteMultipleRegisters r readStart readQuantity quantity bytes values => okMb r && below 65536 readStart && below 65536 readQuantity && below 65536 quantity && below 256 bytes && values.all (below 65536)
  | .ptpSync domain _ _ _ => below 256 domain
  | .ptpFollowUp domain _ _ => below 256 domain
  | .ptpDelayResp domain _ => below 256 domain
  | .ptpAnnounce domain x => below 256 domain && okMaster x
  | .delayReqTimer => true
  | .ptpSyncTimeout => true
  | .sessionOpen h => decide (0 < h.chain)
  | .sessionIdleTimeout _ => true
  | .authLockoutEnd _ => true
  | .usbAttach => true
  | .usbDetach => true
  | .ropeLaneUp lane => below 2 lane
  | .ropeLaneLost lane => below 2 lane
  | .ropeLost _ => true
  | .ropeRestored => true
  | .tickMarker _ _ => true
  | .ropeStatus x => okStatus x
  | .ropeManifest m => okManifest m
  | .manifestLate => true
  | .rxNotice p x => below 2 p && okFrame x
  | .ropeDigest _ _ _ _ _ => true
  | .transfer _ x => below 4294967296 x.seq
  | .catchup _ => true
  | .ropeImage x => okRopeImage x
  | .ropeCommand _ => true
  | .handoverReleased => true
  | .selftestPass => true
  | .selftestFail => true
  | .bucketLineChange _ => true
  | .bucketTake _ _ => true
  | .bucketStuck => true
  | .leaseLapsed => true
  | .armedWindowEnd => true
  | .joinTimeout => true
  | .joinRetry => true
  | .pwrRestart task _ => below 16 task
  | .requestStop task => below 16 task
  | .requestSafe task => below 16 task
  | .ckptNow task _ => below 16 task
  | .dioUnlatch task _ => below 16 task
  | .groupAck task _ => below 16 task
  | .encLoad task n _ => below 16 task && below 4 n
  | .canTxAbort task port _ => below 16 task && below 2 port
  | .recover task port => below 16 task && below 2 port
  | .dioOutSet task _ => below 16 task
  | .dioOutClr task _ => below 16 task
  | .bitSetAlias task addr _ => below 16 task && okAlias addr
  | .bitClearAlias task addr _ => below 16 task && okAlias addr
  | .clearStrapChanged task => below 16 task
  | .clearCanFlags task port _ => below 16 task && below 2 port
  | .stkCountLoRead r => okReq r
  | .registerWrite task addr _ => below 16 task && okRegAddr addr
  | .add _ _ _ => true
  | .sub _ _ _ => true
  | .addu _ _ _ => true
  | .subu _ _ _ => true
  | .and _ _ _ => true
  | .or _ _ _ => true
  | .xor _ _ _ => true
  | .andn _ _ _ => true
  | .shl _ _ _ => true
  | .shr _ _ _ => true
  | .sar _ _ _ => true
  | .min _ _ _ => true
  | .max _ _ _ => true
  | .minu _ _ _ => true
  | .maxu _ _ _ => true
  | .mul _ _ _ => true
  | .mulu _ _ _ => true
  | .div _ _ _ => true
  | .divu _ _ _ => true
  | .rem _ _ _ => true
  | .remu _ _ _ => true
  | .neg _ _ => true
  | .abs _ _ => true
  | .cmov _ _ _ => true
  | .eq _ _ _ => true
  | .ne _ _ _ => true
  | .lt _ _ _ => true
  | .le _ _ _ => true
  | .ltu _ _ _ => true
  | .leu _ _ _ => true
  | .not _ _ => true
  | .fadd _ _ _ => true
  | .fsub _ _ _ => true
  | .fmul _ _ _ => true
  | .fdiv _ _ _ => true
  | .fsqrt _ _ => true
  | .fmin _ _ _ => true
  | .fmax _ _ _ => true
  | .fabs _ _ => true
  | .fneg _ _ => true
  | .feq _ _ _ => true
  | .flt _ _ _ => true
  | .fle _ _ _ => true
  | .itof _ _ => true
  | .utof _ _ => true
  | .ftoi _ _ => true
  | .ftoiz _ _ => true
  | .ftou _ _ => true
  | .add64 d a b => okPairDest d && okPairSrc a && okPairSrc b
  | .sub64 d a b => okPairDest d && okPairSrc a && okPairSrc b
  | .mul64 d a b => okPairDest d && okPairSrc a && okPairSrc b
  | .div64 d a b => okPairDest d && okPairSrc a && okPairSrc b
  | .rem64 d a b => okPairDest d && okPairSrc a && okPairSrc b
  | .neg64 d a => okPairDest d && okPairSrc a
  | .eq64 _ a b => okPairSrc a && okPairSrc b
  | .lt64 _ a b => okPairSrc a && okPairSrc b
  | .sx64 d _ => okPairDest d
  | .zx64 d _ => okPairDest d
  | .sat32 _ a => okPairSrc a
  | .tof64 _ a => okPairSrc a
  | .fto64 d _ => okPairDest d
  | .movi _ _ => true
  | .ld d _ x => (if x.kind = .pair then okPairDest d else true) && okAccess x
  | .st b _ x => (if x.kind = .pair then okPairSrc b else true) && okAccess x
  | .br _ => true
  | .brt _ _ => true
  | .brf _ _ => true
  | .loop _ _ bound len => decide (1 ≤ bound) && below 65536 bound && decide (1 ≤ len) && below 65536 len
  | .call entry => below 4294967296 entry
  | .ret => true
  | .endTask => true
  | .nop => true
  | .rise _ _ n => below 4096 n
  | .fall _ _ n => below 4096 n
  | .change _ _ n => below 4096 n
  | .ton _ _ _ n => below 4096 n
  | .tof _ _ _ n => below 4096 n
  | .tp _ _ _ n => below 4096 n
  | .trd _ n => below 4096 n
  | .trst n => below 4096 n
  | .ctu _ _ _ _ n => below 4096 n
  | .ctd _ _ _ _ n => below 4096 n
  | .crd _ n => below 4096 n
  | .cld _ n => below 4096 n
  | .stroke d => okPairDest d
  | .taskid _ => true
  | .evt _ ra code => decide (1 ≤ ra.toNat) && below 125 ra.toNat && below 32768 code
  | .auto _ block => below 1024 block
  | .manual _ block => below 1024 block
  | .tuneStart who block _ => okBy who && below 1024 block
  | .tuneAccept who block => okBy who && below 1024 block
  | .tuneDiscard who block => okBy who && below 1024 block
  | .tuneAbort who block => okBy who && below 1024 block
  | .injectStart who block => okBy who && below 1024 block
  | .injectStop who block => okBy who && below 1024 block
  | .cantx _ port buf base => below 2 port && below 32 buf && okBuffer 76 base
  | .canpop _ port fifo base => below 2 port && below 2 fifo && okBuffer 76 base
  | .canmb _ port mailbox base => below 2 port && below 128 mailbox && okBuffer 76 base
  | .hreq _ chan arr => below 16 chan && okArray arr
  | .hres _ chan arr => below 16 chan && okArray arr
  | .crc _ _ _ arr => okArray arr
  | .crcc _ _ _ _ arr => okArray arr
  | .seal _ _ _ arr slot => okArray arr && below 256 slot
  | .check _ _ _ arr slot => okArray arr && below 256 slot
  | .regRead r addr count => okReq r && okAddr addr && below 65536 count
  | .varRead r addr count => okReq r && okAddr addr && below 65536 count.count && okEcc count.ecc
  | .varWrite r ws => okReq r && (ws.all fun e => okWordAddr e.1)
  | .dipperRead r first count => okReq r && below 4294967296 first && below 65536 count
  | .modeRun r => okReq r
  | .modeStop r => okReq r
  | .modeSafe r => okReq r
  | .safeAck r => okReq r
  | .modeHold r => okReq r
  | .holdStep r count => okReq r && below 4294967296 count
  | .breakSet r index task off => okReq r && below 256 index && below 256 task && below 4294967296 off
  | .breakClear r index => okReq r && below 256 index
  | .forceSet r addr _ => okReq r && okAddr addr
  | .forceClear r addr => okReq r && okAddr addr
  | .restart r kind => okReq r && below 256 kind
  | .imageDownload r offset total data => okReq r && below 4294967296 offset && below 4294967296 total && below 65537 data.length
  | .activateAtRestart r slot => okReq r && below 256 slot
  | .activateOnline r slot => okReq r && below 256 slot.slot
  | .fwDownload r offset total data => okReq r && below 4294967296 offset && below 4294967296 total && below 65537 data.length
  | .fwActivate r slot => okReq r && below 256 slot
  | .domainRestart r target => okReq r && below 65536 target
  | .hartPass r chan cmd data => okReq r && below 256 chan && below 65536 cmd && below 65537 data.length
  | .clockSet r _ => okReq r
  | .detach r => okReq r
  | .join r => okReq r
  | .switchover r => okReq r
  | .takeBucket r => okReq r
  | .logRead r _ count _ _ => okReq r && below 65536 count
  | .logClear r _ => okReq r
  | .claim r _ _ => okReq r
  | .unclaim r => okReq r
  | .anchorAdd r set _ => okReq r && below 256 set
  | .anchorRemove r set place => okReq r && below 256 set && below 256 place
  | .denyAdd r print => okReq r && print.length == 32
  | .denyRemove r print => okReq r && print.length == 32
  | .anchorRead r set => okReq r && below 256 set
  | .deviceAttest r nonce => okReq r && nonce.length == 32
  | .dioSample x => okDioMeas x
  | .analogSample x => okAwMeas x
  | .quadratureTransition n _ _ => below 4 n
  | .wireBreakCleared n => below 32 n
  | .externalDriveCleared n => below 32 n
  | .retryCountReset n => below 32 n
  | .dgSupplyGood g => below 4 g
  | .encLineValid n => below 4 n
  | .supplyRetry n => below 16 n
  | .supplyShortCleared n => below 16 n
  | .complianceShortCleared n => below 16 n
  | .openLoopCleared n => below 16 n
  | .readbackFaultCleared n => below 16 n
  | .awIslandRestart w => below 2 w
  | .safeInputReleased _ => true
  | .dbgEnFitted => true
  | .ethernetLinkUp port _ => decide (1 ≤ port) && below 4 port
  | .ethernetLinkDown port => decide (1 ≤ port) && below 4 port
  | .unknownFrame port hops _ => decide (1 ≤ port) && below 3 port && below 256 hops
  | .p3DroppedFrame => true
  | .modbusUnsupportedFunction r fn => okMb r && below 256 fn
  | .malformedHeader r code => okReq r && below 65536 code
  | .unknownCommand r code => okReq r && below 65536 code
  | .ropeCrcError _ => true
  | .becomesSafeDriver => true

end Sys2Proof
end

