-- ==== Sys2Proof/Certificates/Slice0/Obligations.lean ====
section
/-! DEFINITION. The statements. -/

open Sys2Proof Sys2Proof.Machine

/-! ### Fytric instructions (chapter 07) -/

/-- R141, R142: ADD, SUB, ADDU, SUBU, MUL, MULU, NEG and ABS give the exact result limited to their type, in every operand form, and change nothing
else.
R141, R142: DIV and DIVU round toward zero, REM and REMU leave the rest with the sign of the dividend; a divisor 0 and the quotient beyond the
maximum give what R141 states. -/
def Obligations.IntegerArithmeticAndDivision : Prop :=
  (∀ (s : State) (d a : RegNo) (b : Src), let x := s.m.fy.act.reg a; let y := s.m.fy.act.src b
    (∃ w, w.toInt = limit32 (x.toInt + y.toInt) ∧ Writes (.add d a b) s d w (srcWords b) 1) ∧
    (∃ w, w.toInt = limit32 (x.toInt - y.toInt) ∧ Writes (.sub d a b) s d w (srcWords b) 1) ∧
    (∃ w, (w.toNat : Int) = limitU32 (x.toNat + y.toNat) ∧ Writes (.addu d a b) s d w (srcWords b) 1) ∧
    (∃ w, (w.toNat : Int) = limitU32 (x.toNat - y.toNat) ∧ Writes (.subu d a b) s d w (srcWords b) 1) ∧
    (∃ w, w.toInt = limit32 (x.toInt * y.toInt) ∧ Writes (.mul d a b) s d w (srcWords b) 2) ∧
    (∃ w, (w.toNat : Int) = limitU32 (x.toNat * y.toNat) ∧ Writes (.mulu d a b) s d w (srcWords b) 2) ∧
    (∃ w, w.toInt = limit32 (-x.toInt) ∧ Writes (.neg d a) s d w 1 1) ∧
    (∃ w, w.toInt = limit32 (if x.toInt < 0 then -x.toInt else x.toInt) ∧ Writes (.abs d a) s d w 1 1)) ∧
  (∀ (s : State) (d a : RegNo) (b : Src), let x := s.m.fy.act.reg a; let y := s.m.fy.act.src b
    (∃ w, Writes (.div d a b) s d w (srcWords b) 8 ∧
      (y = 0#32 → w.toInt = if 0 < x.toInt then 2147483647 else if x.toInt < 0 then -2147483648 else 0) ∧
      (x.toInt = -2147483648 → y.toInt = -1 → w.toInt = 2147483647) ∧
      (y ≠ 0#32 → ¬(x.toInt = -2147483648 ∧ y.toInt = -1) → w.toInt = x.toInt.tdiv y.toInt)) ∧
    (∃ w, Writes (.divu d a b) s d w (srcWords b) 8 ∧
      (y = 0#32 → w.toNat = if x = 0#32 then 0 else 4294967295) ∧ (y ≠ 0#32 → w.toNat = x.toNat / y.toNat)) ∧
    (∃ w, Writes (.rem d a b) s d w (srcWords b) 8 ∧
      (y = 0#32 → w = 0#32) ∧ (y ≠ 0#32 → w.toInt = x.toInt - y.toInt * x.toInt.tdiv y.toInt)) ∧
    (∃ w, Writes (.remu d a b) s d w (srcWords b) 8 ∧
      (y = 0#32 → w = 0#32) ∧ (y ≠ 0#32 → w.toNat = x.toNat % y.toNat)))

/-- R142: the bitwise instructions, bit by bit; a shift by 32 or more gives 0, an arithmetic one by 31 or more the sign bit everywhere.
R142: choices and comparisons; a comparison gives 1 or 0. -/
def Obligations.IntegerBitsAndChoice : Prop :=
  (∀ (s : State) (d a : RegNo) (b : Src), let x := s.m.fy.act.reg a; let y := s.m.fy.act.src b; let n := y.toNat
    (∃ w, (∀ i, w.getLsbD i = (x.getLsbD i && y.getLsbD i)) ∧ Writes (.and d a b) s d w (srcWords b) 1) ∧
    (∃ w, (∀ i, w.getLsbD i = (x.getLsbD i || y.getLsbD i)) ∧ Writes (.or d a b) s d w (srcWords b) 1) ∧
    (∃ w, (∀ i, w.getLsbD i = (x.getLsbD i != y.getLsbD i)) ∧ Writes (.xor d a b) s d w (srcWords b) 1) ∧
    (∃ w, (∀ i, w.getLsbD i = (x.getLsbD i && !y.getLsbD i)) ∧ Writes (.andn d a b) s d w (srcWords b) 1) ∧
    (∃ w, (∀ i, i < 32 → w.getLsbD i = (decide (n ≤ i) && x.getLsbD (i - n))) ∧ Writes (.shl d a b) s d w (srcWords b) 1) ∧
    (∃ w, (∀ i, i < 32 → w.getLsbD i = (decide (i + n < 32) && x.getLsbD (i + n))) ∧ Writes (.shr d a b) s d w (srcWords b) 1) ∧
    (∃ w, (∀ i, i < 32 → w.getLsbD i = x.getLsbD (min (i + n) 31)) ∧ Writes (.sar d a b) s d w (srcWords b) 1)) ∧
  (∀ (s : State) (d a : RegNo) (b : Src), let x := s.m.fy.act.reg a; let y := s.m.fy.act.src b
    (∃ w, (w = x ∨ w = y) ∧ w.toInt = min x.toInt y.toInt ∧ Writes (.min d a b) s d w (srcWords b) 1) ∧
    (∃ w, (w = x ∨ w = y) ∧ w.toInt = max x.toInt y.toInt ∧ Writes (.max d a b) s d w (srcWords b) 1) ∧
    (∃ w, (w = x ∨ w = y) ∧ w.toNat = min x.toNat y.toNat ∧ Writes (.minu d a b) s d w (srcWords b) 1) ∧
    (∃ w, (w = x ∨ w = y) ∧ w.toNat = max x.toNat y.toNat ∧ Writes (.maxu d a b) s d w (srcWords b) 1) ∧
    Writes (.cmov d a b) s d (if x ≠ 0#32 then y else s.m.fy.act.reg d) (srcWords b) 1 ∧
    Writes (.eq d a b) s d (if x = y then 1#32 else 0#32) (srcWords b) 1 ∧
    Writes (.ne d a b) s d (if x = y then 0#32 else 1#32) (srcWords b) 1 ∧
    Writes (.lt d a b) s d (if x.toInt < y.toInt then 1#32 else 0#32) (srcWords b) 1 ∧
    Writes (.le d a b) s d (if x.toInt ≤ y.toInt then 1#32 else 0#32) (srcWords b) 1 ∧
    Writes (.ltu d a b) s d (if x.toNat < y.toNat then 1#32 else 0#32) (srcWords b) 1 ∧
    Writes (.leu d a b) s d (if x.toNat ≤ y.toNat then 1#32 else 0#32) (srcWords b) 1 ∧
    Writes (.not d a) s d (if x = 0#32 then 1#32 else 0#32) 1 1)

/-- R141, R143, R144: the exact result of FADD, FSUB, FMUL, FDIV, FSQRT, ITOF, UTOF and TOF64 is rounded once, with the results of R141 for zeros, a zero
divisor and the root of a negative number. -/
def Obligations.FloatRounding : Prop :=
  ∀ (s : State) (d a : RegNo) (b : Src), let x := s.m.fy.act.reg a; let y := s.m.fy.act.src b; let i := realUnits x; let j := realUnits y
    (∃ w, RoundsTo w (i + j) 1 ∧ (i + j = 0 → w = if i = 0 ∧ (realOf x).neg ∧ (realOf y).neg then 0x80000000#32 else 0#32) ∧
      Writes (.fadd d a b) s d w (srcWords b) 2) ∧
    (∃ w, RoundsTo w (i - j) 1 ∧ (i - j = 0 → w = if i = 0 ∧ (realOf x).neg ∧ (realOf y).neg = false then 0x80000000#32 else 0#32) ∧
      Writes (.fsub d a b) s d w (srcWords b) 2) ∧
    (∃ w, RoundsTo w (i * j) (2 ^ 149) ∧ w.msb = ((realOf x).neg != (realOf y).neg) ∧ Writes (.fmul d a b) s d w (srcWords b) 2) ∧
    (∃ w, (j ≠ 0 → RoundsTo w (if j < 0 then -(i * 2 ^ 149) else i * 2 ^ 149) j.natAbs ∧ w.msb = ((realOf x).neg != (realOf y).neg)) ∧
      (j = 0 → w = if i = 0 then 0#32 else if (realOf x).neg then 0xFF7FFFFF#32 else 0x7F7FFFFF#32) ∧
      Writes (.fdiv d a b) s d w (srcWords b) 10) ∧
    (∃ w, realProper w ∧ (i < 0 → w = 0#32) ∧ (i = 0 → realUnits w = 0) ∧
      (0 < i → ∀ q : Word, (0 ≤ realUnits q → realUnits q < realUnits w → (realUnits q + realUnits w) ^ 2 ≤ 4 * i * 2 ^ 149) ∧
        (realUnits w < realUnits q → 4 * i * 2 ^ 149 ≤ (realUnits q + realUnits w) ^ 2)) ∧
      Writes (.fsqrt d a) s d w 1 12) ∧
    (∃ w, RoundsTo w (x.toInt * 2 ^ 149) 1 ∧ (x = 0#32 → w = 0#32) ∧ Writes (.itof d a) s d w 1 2) ∧
    (∃ w, RoundsTo w (x.toNat * 2 ^ 149) 1 ∧ (x = 0#32 → w = 0#32) ∧ Writes (.utof d a) s d w 1 2) ∧
    (∃ w, RoundsTo w ((s.m.fy.act.pair a).toInt * 2 ^ 149) 1 ∧ (s.m.fy.act.pair a = 0#64 → w = 0#32) ∧ Writes (.tof64 d a) s d w 1 3)

/-- R141, R143, R144: comparisons, choices, signs and conversions to integers of REAL32 values; conversions round to nearest even, FTOIZ toward zero, and
a value out of range gives the nearest limit. -/
def Obligations.FloatValues : Prop :=
  ∀ (s : State) (d a : RegNo) (b : Src), let x := s.m.fy.act.reg a; let y := s.m.fy.act.src b; let i := realUnits x; let j := realUnits y
    let near (n : Int) : Prop := 2 * (n * 2 ^ 149 - i).natAbs ≤ 2 ^ 149 ∧ (2 * (n * 2 ^ 149 - i).natAbs = 2 ^ 149 → n % 2 = 0)
    (∃ w, realProper w ∧ realUnits w = min i j ∧ (i = 0 → j = 0 → w.msb = ((realOf x).neg || (realOf y).neg)) ∧
      Writes (.fmin d a b) s d w (srcWords b) 2) ∧
    (∃ w, realProper w ∧ realUnits w = max i j ∧ (i = 0 → j = 0 → w.msb = ((realOf x).neg && (realOf y).neg)) ∧
      Writes (.fmax d a b) s d w (srcWords b) 2) ∧
    (∃ w, realProper w ∧ realUnits w = i.natAbs ∧ w.msb = false ∧ Writes (.fabs d a) s d w 1 1) ∧
    (∃ w, realProper w ∧ realUnits w = -i ∧ w.msb = !(realOf x).neg ∧ Writes (.fneg d a) s d w 1 1) ∧
    Writes (.feq d a b) s d (if i = j then 1#32 else 0#32) (srcWords b) 2 ∧
    Writes (.flt d a b) s d (if i < j then 1#32 else 0#32) (srcWords b) 2 ∧
    Writes (.fle d a b) s d (if i ≤ j then 1#32 else 0#32) (srcWords b) 2 ∧
    (∃ w n, near n ∧ w.toInt = limit32 n ∧ Writes (.ftoi d a) s d w 1 2) ∧
    (∃ w, w.toInt = limit32 (i.tdiv (2 ^ 149)) ∧ Writes (.ftoiz d a) s d w 1 2) ∧
    (∃ w n, near n ∧ (w.toNat : Int) = limitU32 n ∧ Writes (.ftou d a) s d w 1 2) ∧
    (∃ v n, near n ∧ v.toInt = limit64 n ∧ WritesPair (.fto64 d a) s d v 1 3)

/-- R141, R144: the INT64 instructions on register pairs, and the literal move. -/
def Obligations.Int64Results : Prop :=
  ∀ (s : State) (d a b : RegNo) (lit : Word), let x := s.m.fy.act.pair a; let y := s.m.fy.act.pair b; let r := s.m.fy.act.reg a
    (∃ v, v.toInt = limit64 (x.toInt + y.toInt) ∧ WritesPair (.add64 d a b) s d v 1 2) ∧
    (∃ v, v.toInt = limit64 (x.toInt - y.toInt) ∧ WritesPair (.sub64 d a b) s d v 1 2) ∧
    (∃ v, v.toInt = limit64 (x.toInt * y.toInt) ∧ WritesPair (.mul64 d a b) s d v 1 4) ∧
    (∃ v, WritesPair (.div64 d a b) s d v 1 16 ∧
      (y = 0#64 → v.toInt = if 0 < x.toInt then 9223372036854775807 else if x.toInt < 0 then -9223372036854775808 else 0) ∧
      (y ≠ 0#64 → v.toInt = limit64 (x.toInt.tdiv y.toInt))) ∧
    (∃ v, WritesPair (.rem64 d a b) s d v 1 16 ∧
      (y = 0#64 → v = 0#64) ∧ (y ≠ 0#64 → v.toInt = x.toInt - y.toInt * x.toInt.tdiv y.toInt)) ∧
    (∃ v, v.toInt = limit64 (-x.toInt) ∧ WritesPair (.neg64 d a) s d v 1 2) ∧
    Writes (.eq64 d a b) s d (if x = y then 1#32 else 0#32) 1 2 ∧
    Writes (.lt64 d a b) s d (if x.toInt < y.toInt then 1#32 else 0#32) 1 2 ∧
    (∃ v, v.toInt = r.toInt ∧ WritesPair (.sx64 d a) s d v 1 1) ∧
    (∃ v, v.toNat = r.toNat ∧ WritesPair (.zx64 d a) s d v 1 1) ∧
    (∃ w, w.toInt = limit32 x.toInt ∧ Writes (.sat32 d a) s d w 1 1) ∧
    Writes (.movi d lit) s d lit 2 1

/-- R118, R145: the effective address of a load or store is the base plus index × 4 × 2^SCALE with the index, 0 for a field of 0, clamped to the elements
of the named array; so an access never leaves an array that can hold one. A scalar has one element. -/
def Obligations.AccessInBounds : Prop :=
  ∀ (a : Act) (ra : RegNo) (x : Access), accessBytes x ≤ x.arr.bytes →
    x.arr.base ≤ effAddr a ra x ∧ effAddr a ra x + accessBytes x ≤ x.arr.base + x.arr.bytes ∧
    (x.arr.scalar = true → effAddr a ra x = x.arr.base) ∧
    (x.arr.scalar = false → ∀ i : Nat, (if ra = 0#7 then 0 else (a.reg ra).toInt) = i → i * strideOf x + accessBytes x ≤ x.arr.bytes →
      effAddr a ra x = x.arr.base + i * (4 * 2 ^ x.scale.toNat)) ∧
    (ra ≠ 0#7 → (a.reg ra).toInt < 0 → effAddr a ra x = x.arr.base)

/-- R90, R117, R145, R146: LD reads one word, or two into a pair, at the effective address; ST stores the register or pair there, as a write of the
activation that its commit publishes, and nowhere else. A store outside every writable region is ignored. R168, R169: where a load finds single wrong bits in
the storage words that it reads, they are counted and the data delivered all the same; where it finds two in one, it delivers nothing and reports the fault. -/
def Obligations.LoadsAndStores : Prop :=
  ∀ (s : State) (d a b : RegNo) (x : Access), let t := s.m.fy.act; let ea := effAddr t a x; let v := t.pair b
    let found := eccWithin x.ecc (loadAddrs t a x); let clean : Prop := found.bad = none ∧ found.fixed = []
    (clean → x.kind = .word → Writes (.ld d a x) s d (t.load ea) 2 2) ∧
    (clean → x.kind = .pair → WritesPair (.ld d a x) s d (dword (t.load (ea + 4)) (t.load ea)) 2 3) ∧
    (∀ i, found.bad = none → found.fixed = [i] → s.m.aon.powered = true → s.m.mode ≠ 0 → s.m.log.queue.length < 1024 → s.m.domainOn 1 = true →
      Runs (.ld d a x) s fun u => u.fy = fyLd d a x s.m.fy ∧ u.nat F.memEccSramCorrected = min 65535 (s.m.nat F.memEccSramCorrected + 1) ∧
        u.reg F.memEccLastWordAddr = word (i / 8) ∧ ∃ y ∈ u.log.queue, y.event = ev 0x0040 0x1050) ∧
    (∀ i, found.bad = some i → s.m.aon.powered = true → 2 ≤ s.m.mode → s.m.log.queue.length < 1024 → s.m.domainOn 1 = true →
      Runs (.ld d a x) s fun u => u.aon.f3 = true ∧ (u.mode = 0 ∨ u.mode = 5) ∧ 6 ∈ u.hlt.latched) ∧
    (x.kind = .word → ∃ p, t.Did p 0#7 0#32 2 2 (if writable ea then [(ea, t.reg b)] else []) [] ∧ Leaves (.st b a x) s p s.m.fy.slots) ∧
    (x.kind = .pair → writable ea = true → writable (ea + 4) = true →
      ∃ p, t.Did p 0#7 0#32 2 3 [(ea, v.lo), (ea + 4, v.hi)] [] ∧ Leaves (.st b a x) s p s.m.fy.slots)

/-- R90, R91, R117: what a load returns. In data SRAM the activation sees its own latest plain store to the word, else the snapshot; after a store of its
own to another word it still sees the snapshot; the system part of the cistern takes none (R172); an alias address reads the word it names; outside every region a load returns 0. -/
def Obligations.LoadVisibility : Prop :=
  ∀ (a : Act) (ad : Nat) (w : Word), a.priming = false →
    (inOpenSram ad → (a.store ad w).load ad = w) ∧ (inSram ad → inOpenSram ad = false → a.store ad w = a) ∧
    (inSram ad → (∀ e ∈ a.writes, e.1 ≠ ad) → a.load ad = memWord a.snap.mem ad) ∧
    (∀ other, inSram ad → ad ≠ other → (a.store other w).load ad = a.load ad) ∧
    (inSetAlias ad ∨ inClrAlias ad → a.load ad = a.load (ad % 0x01000000)) ∧
    (inSram ad = false → inSetAlias ad = false → inClrAlias ad = false → inCodeWindow ad = false → inSys ad = false → inLoop ad = false → a.load ad = 0#32)

/-- R138, R147, R149: branches go forward only and end the LOOPs they leave; CALL and RET; END; NOP. -/
def Obligations.ControlFlow : Prop :=
  ∀ (s : State) (ra : RegNo) (off : Word) (entry : Nat), let a := s.m.fy.act; let target := a.pc + 2 + off.toNat
    Jumps (.br off) s target 1 ∧
    (a.reg ra ≠ 0#32 → Jumps (.brt ra off) s target 1) ∧
    (a.reg ra = 0#32 → Leaves (.brt ra off) s { a with pc := a.pc + 2, charge := a.charge + 1 } s.m.fy.slots) ∧
    (a.reg ra = 0#32 → Jumps (.brf ra off) s target 1) ∧
    (a.reg ra ≠ 0#32 → Leaves (.brf ra off) s { a with pc := a.pc + 2, charge := a.charge + 1 } s.m.fy.slots) ∧
    FyNext (.call entry) s { s.m.fy with act := { a with calls := (a.pc + 2) :: a.calls, pc := entry, charge := a.charge + 4 } } ∧
    (a.calls = [] → FyNext .ret s { s.m.fy with act := { a with done := true } }) ∧
    (∀ back rest, a.calls = back :: rest →
      Leaves .ret s { a with calls := rest, pc := back, loops := a.loops.filter fun l => l.depth ≤ rest.length } s.m.fy.slots) ∧
    FyNext .endTask s { s.m.fy with act := { a with done := true, charge := a.charge + 1 } } ∧
    Leaves .nop s { a with pc := a.pc + 1, charge := a.charge + 1 } s.m.fy.slots

/-- R148: LOOP takes its count from ga, clamped to 0 .. N, or N where field a is 0; with no pass gd is 0 and the body is skipped; otherwise the first pass
begins with gd 0. Where execution reaches the end of a body, the next pass begins with gd one higher and 1 BU charged, or, after the last pass,
gd is the number of passes and execution goes on, perhaps at the end of the body around it. -/
def Obligations.LoopPasses : Prop :=
  (∀ (s : State) (d ra : RegNo) (bound len : Nat), let a := s.m.fy.act
    let n := if ra = 0#7 then bound else (max 0 (min (bound : Int) (a.reg ra).toInt)).toNat
    (n = 0 → Writes (.loop d ra bound len) s d 0#32 (2 + len) 3) ∧
    (n ≠ 0 → ∃ p : Act, FyNext (.loop d ra bound len) s { s.m.fy with act := p } ∧ a.SetsReg p d 0#32 ∧
      p = { a with regs := p.regs, pc := a.pc + 2, charge := a.charge + 4
                   loops := { start := a.pc + 2, stop := a.pc + 2 + len, pass := 0, count := n, reg := d, depth := a.calls.length } :: a.loops })) ∧
  (∀ (p : Act) (f : LoopFrame) (r : List LoopFrame),
    (¬(p.pc = f.stop ∧ f.depth = p.calls.length) → settleLoops p (f :: r) = { p with loops := f :: r }) ∧
    (p.pc = f.stop → f.depth = p.calls.length → f.pass + 1 < f.count → ∃ q : Act, settleLoops p (f :: r) = q ∧ p.SetsReg q f.reg (word (f.pass + 1)) ∧
      q = { p with regs := q.regs, pc := f.start, charge := p.charge + 1, loops := { f with pass := f.pass + 1 } :: r }) ∧
    (p.pc = f.stop → f.depth = p.calls.length → f.count ≤ f.pass + 1 → ∃ q : Act, settleLoops p (f :: r) = settleLoops q r ∧
      p.SetsReg q f.reg (word (f.pass + 1)) ∧ q = { p with regs := q.regs, loops := r })) ∧
  ∀ p : Act, settleLoops p [] = { p with loops := [] }

/-- R138, R152: STROKE and TASKID (whose value in the priming section, which is no task, is free: log entry 6), and EVT, which records at most 16 events
in an activation and returns EVENT_LIMIT beyond. -/
def Obligations.SystemInstructions : Prop :=
  ∀ (s : State) (d ra : RegNo) (code : Nat), let a := s.m.fy.act
    WritesPair (.stroke d) s d a.snap.stroke 1 2 ∧
    Writes (.taskid d) s d (if a.priming then Config.primingTaskId else word a.task) 1 1 ∧
    (16 ≤ a.events → Writes (.evt d ra code) s d 37#32 2 6) ∧
    (a.events < 16 → ∃ p, { a with events := a.events + 1 }.Did p d 0#32 2 6 []
        [.event { source := if a.priming then 0x0F10#16 else BitVec.ofNat 16 (0x0F00 + a.task), code := BitVec.ofNat 16 (0x8000 + code % 0x8000)
                  p0 := a.reg ra, p1 := a.reg (ra + 1), p2 := a.reg (ra + 2), p3 := a.reg (ra + 3) }] ∧
      Leaves (.evt d ra code) s p s.m.fy.slots)

/-- R150, R151: RISE, FALL and CHANGE report the edge between the stored and the present input and store it; a FRESH slot reports none. No other slot
changes.
R150, R151: the timers by the activations that have passed since the slot's last execution; TRD and TRST. No other slot changes. -/
def Obligations.EdgeAndTimerSlots : Prop :=
  (∀ (s : State) (d ra : RegNo) (n : Nat), let e := s.m.fy.slots.edges.get freshEdge n; let x := s.m.fy.act.reg ra ≠ 0#32
    ∃ t : Tab EdgeSlot, (∀ k, t.get freshEdge k = if k = n then { prev := decide x, fresh := false } else s.m.fy.slots.edges.get freshEdge k) ∧
      let sl := { s.m.fy.slots with edges := t }
      WritesIn (.rise d ra n) s d (if e.fresh = false ∧ x ∧ e.prev = false then 1#32 else 0#32) 2 2 sl ∧
      WritesIn (.fall d ra n) s d (if e.fresh = false ∧ ¬x ∧ e.prev = true then 1#32 else 0#32) 2 2 sl ∧
      WritesIn (.change d ra n) s d (if e.fresh = false ∧ (x ↔ e.prev = false) then 1#32 else 0#32) 2 2 sl) ∧
  (∀ (s : State) (d ra rb : RegNo) (n : Nat)
    (t : TimerSlot) (delta : Nat), t = s.m.fy.slots.timers.get idleTimer n → delta = s.m.fy.act.number - t.last →
    let input := s.m.fy.act.reg ra ≠ 0#32; let pt := (s.m.fy.act.reg rb).toNat; let now := s.m.fy.act.number
    let slots (f : Tab TimerSlot → Prop) (P : Slots → Prop) : Prop := ∃ tab, f tab ∧ P { s.m.fy.slots with timers := tab }
    let only (u : TimerSlot) (tab : Tab TimerSlot) : Prop := ∀ k, tab.get idleTimer k = if k = n then u else s.m.fy.slots.timers.get idleTimer k
    let q (b : Bool) : Word := if b then 1#32 else 0#32
    -- TON
    (∃ et run out, (¬input → et = 0 ∧ run = false) ∧ (input → t.timing = false → et = 0 ∧ run = true) ∧
      (input → t.timing = true → et = min pt (t.et + delta) ∧ run = true) ∧ out = (run && decide (pt ≤ et)) ∧
      slots (only { t with et := et, timing := run, q := out, last := now }) (WritesIn (.ton d ra rb n) s d (q out) 2 3)) ∧
    -- TOF
    (∃ et run out, (input → et = 0 ∧ run = false ∧ out = true) ∧
      (¬input → t.q = true → t.timing = false → et = 0 ∧ run = decide (0 < pt) ∧ out = decide (0 < pt)) ∧
      (¬input → t.timing = true → et = min pt (t.et + delta) ∧ run = decide (et < pt) ∧ out = (t.q && decide (et < pt))) ∧
      (¬input → t.q = false → t.timing = false → et = t.et ∧ run = false ∧ out = false) ∧
      slots (only { t with et := et, timing := run, q := out, last := now }) (WritesIn (.tof d ra rb n) s d (q out) 2 3)) ∧
    -- TP
    (∃ et run, (t.timing = true → et = min pt (t.et + delta) ∧ run = decide (et < pt)) ∧
      (t.timing = false → input → t.prevIn = false → 0 < pt → et = 0 ∧ run = true) ∧
      (t.timing = false → (¬input ∨ t.prevIn = true ∨ pt = 0) → et = t.et ∧ run = false) ∧
      slots (only { t with et := et, timing := run, q := run, prevIn := decide input, last := now }) (WritesIn (.tp d ra rb n) s d (q run) 2 3)) ∧
    Writes (.trd d n) s d (word t.et) 2 2 ∧
    slots (only { t with et := 0, q := false, timing := false }) (WritesIn (.trst n) s 0#7 0#32 2 2))

/-- R151: the counters, with their limits, their reset or load, and the comparison with the preset; CRD and CLD. No other slot changes. -/
def Obligations.CounterSlots : Prop :=
  ∀ (s : State) (d ra rb rp : RegNo) (n : Nat), let a := s.m.fy.act; let c := s.m.fy.slots.counters.get zeroCounter n; let x := a.reg ra ≠ 0#32
    let rising := x ∧ c.prev = false; let pv := (a.reg rp).toInt
    let slots (u : CounterSlot) (P : Slots → Prop) : Prop :=
      ∃ tab, (∀ k, Tab.get tab zeroCounter k = if k = n then u else s.m.fy.slots.counters.get zeroCounter k) ∧ P { s.m.fy.slots with counters := tab }
    (∃ cv, (a.reg rb ≠ 0#32 → cv = 0) ∧ (a.reg rb = 0#32 → rising → cv = min (c.cv + 1) 2147483647) ∧ (a.reg rb = 0#32 → ¬rising → cv = c.cv) ∧
      slots { cv := cv, prev := decide x } (WritesIn (.ctu d ra rb rp n) s d (if pv ≤ cv then 1#32 else 0#32) 2 3)) ∧
    (∃ cv, (a.reg rb ≠ 0#32 → cv = pv) ∧ (a.reg rb = 0#32 → rising → cv = max (c.cv - 1) (-2147483648)) ∧ (a.reg rb = 0#32 → ¬rising → cv = c.cv) ∧
      slots { cv := cv, prev := decide x } (WritesIn (.ctd d ra rb rp n) s d (if cv ≤ 0 then 1#32 else 0#32) 2 3)) ∧
    (-2147483648 ≤ c.cv → c.cv ≤ 2147483647 → ∃ w, w.toInt = c.cv ∧ Writes (.crd d n) s d w 2 2) ∧
    slots { c with cv := (a.reg ra).toInt } (WritesIn (.cld ra n) s 0#7 0#32 2 2)

/-- R12, R155, R156: CANTX takes the frame of its descriptor for the next commit, or refuses with WRONG_MODE, NOT_CONFIGURED or BUSY and the event of
R12; CANPOP and CANMB write the frame of the snapshot view to the descriptor and return OK, NOT_NEW, EMPTY or NOT_CONFIGURED.
R12, R157: HREQ reads its request and starts a transaction at the next commit, or refuses; HRES writes the completed result of the snapshot to its
buffer, or returns EMPTY. -/
def Obligations.CanAndHartInstructions : Prop :=
  (∀ (s : State) (d : RegNo) (port buf box fifo base : Nat), let a := s.m.fy.act
    let refused (fn st obj : Nat) : Effect := .event { source := a.source, code := 0x00F0#16, p0 := 0x1C#32, p1 := word fn, p2 := word st, p3 := word obj }
    let does (c : Instr) (w : Word) (ws : List (Nat × Word)) (es : List Effect) : Prop := ∃ p, a.Did p d w 2 12 ws es ∧ Leaves c s p s.m.fy.slots
    let lines (f : CanFrame) (filter : Nat) (lost : Bool) : List (Nat × Word) := (rxDescriptor f filter lost).zipIdx.map (fun e => (base + 4 * e.2, e.1)) |>.filter fun e => writable e.1
    (a.mode = 1 ∨ a.mode = 4 → does (.cantx d port buf base) 1#32 [] [refused 0 1 buf]) ∧
    (a.mode ≠ 1 → a.mode ≠ 4 → a.canOn port = false → does (.cantx d port buf base) 11#32 [] [refused 0 11 buf]) ∧
    (a.mode ≠ 1 → a.mode ≠ 4 → a.canOn port = true → a.txLoaded port buf = true → does (.cantx d port buf base) 3#32 [] [refused 0 3 buf]) ∧
    (a.mode ≠ 1 → a.mode ≠ 4 → a.canOn port = true → a.txLoaded port buf = false →
      does (.cantx d port buf base) 0#32 [] [.canTx port buf (txFrame a base)]) ∧
    (a.canOn port = false → does (.canpop d port fifo base) 11#32 [] [refused 1 11 fifo] ∧ does (.canmb d port box base) 11#32 [] [refused 2 11 box]) ∧
    (a.canOn port = true → (a.snap.fifos.get [] (fifoKey port fifo)).length ≤ a.popped port fifo → does (.canpop d port fifo base) 32#32 [] []) ∧
    (a.canOn port = true → a.snap.boxes.get none (boxKey port box) = none → does (.canmb d port box base) 32#32 [] []) ∧
    (a.canOn port = true → ∀ f filter l, (a.snap.fifos.get [] (fifoKey port fifo)).drop (a.popped port fifo) = (f, filter) :: l →
      does (.canpop d port fifo base) 0#32 (lines f filter false) [.canPop port fifo]) ∧
    (a.canOn port = true → ∀ b, a.snap.boxes.get none (boxKey port box) = some b →
      does (.canmb d port box base) (if b.isRead then 33#32 else 0#32) (lines b.frame b.filter b.lost) [.canMb port box])) ∧
  (∀ (s : State) (d : RegNo) (chan : Nat) (arr : ArrRef), let a := s.m.fy.act; let w0 := a.load arr.base
    let refused (st : Nat) : Effect := .event { source := a.source, code := 0x00F0#16, p0 := 0x1D#32, p1 := 0#32, p2 := word st, p3 := word chan }
    let does (c : Instr) (w : Word) (es : List Effect) : Prop := ∃ p, a.Did p d w 2 40 [] es ∧ Leaves c s p s.m.fy.slots
    (a.mode = 1 → does (.hreq d chan arr) 1#32 [refused 1]) ∧
    (a.mode ≠ 1 → a.hartOn chan = false → does (.hreq d chan arr) 11#32 [refused 11]) ∧
    (a.mode ≠ 1 → a.hartOn chan = true → a.hartBusy chan = true → does (.hreq d chan arr) 3#32 [refused 3]) ∧
    (a.mode ≠ 1 → a.hartOn chan = true → a.hartBusy chan = false → does (.hreq d chan arr) 0#32
      [.hartStart chan (w0.toNat % 65536) ((List.range (min (w0.toNat / 65536 % 256) (arr.bytes - 8))).map fun i => a.loadByte (arr.base + 8 + i))]) ∧
    (a.hartTook chan = true ∨ a.snap.hart.get none chan = none → does (.hres d chan arr) 32#32 []) ∧
    (∀ r, a.hartTook chan = false → a.snap.hart.get none chan = some r → arr.base % 4 = 0 → arr.base + 264 ≤ 0x00FF0000 → a.priming = false →
      ∃ p : Act, (∀ i, i < 264 → p.loadByte (arr.base + i) = (hresBytes r).getD i 0#8) ∧ a.SetsReg p d 0#32 ∧
        (∀ ad, ad % 4 = 0 → inSram ad → ad < arr.base ∨ arr.base + 264 ≤ ad → p.load ad = a.load ad) ∧
        p = { a with regs := p.regs, pc := a.pc + 2, charge := a.charge + 40, writes := p.writes, effects := a.effects ++ [.hartTaken chan] } ∧
        Leaves (.hres d chan arr) s p s.m.fy.slots))

/-- R158, R160, R161: CRC and CRCC give the CRC of the bytes; a CRC continued over more bytes is the CRC of all; SEAL writes the next counter value and
the CRC over payload and counter at the end of its buffer; CHECK returns CRC_FAIL, OK, REPEAT or LOSS and moves its slot only on OK and LOSS. -/
def Obligations.CheckUnit : Prop :=
  (∀ (k : CrcKind) (x y : List Byte), crcFrom k ((crcOf k x ^^^ crcXor k) % 2 ^ (8 * CrcKind_bytes k)) y = crcOf k (x ++ y)) ∧
  ∀ (s : State) (d ra rb : RegNo) (k : CrcKind) (arr : ArrRef) (slot : Nat), let a := s.m.fy.act; let w := CrcKind_bytes k
    let bytes (n : Nat) : List Byte := (List.range n).map fun i => a.loadByte (arr.base + i)
    let len := (max 0 (min ((min arr.bytes 4096 : Nat) : Int) (a.reg ra).toInt)).toNat; let l := max (w + 1) len
    let cost (lmax : Nat) : Nat := 6 + (4 + (lmax + 7) / 8) + a.waitBu; let most := min arr.bytes 4096
    (∃ p, a.Did p d (word (crcOf k (bytes len))) 2 (cost most) [] [.cvu 1 0 0] ∧ Leaves (.crc d ra k arr) s p s.m.fy.slots) ∧
    (∃ p, a.Did p d (word (crcFrom k (((a.reg rb).toNat ^^^ crcXor k) % 2 ^ (8 * w)) (bytes len))) 2 (cost most) [] [.cvu 1 0 0] ∧
      Leaves (.crcc d ra rb k arr) s p s.m.fy.slots) ∧
    (∀ c, c = ((s.m.fy.slots.streams.get freshStream slot).counter + 1) % 256 → arr.base + l ≤ 0x00FF0000 → a.priming = false →
      ∃ (p : Act) (tab : Tab StreamSlot), p.loadByte (arr.base + (l - w - 1)) = BitVec.ofNat 8 c ∧
        (∀ i, i < w → p.loadByte (arr.base + (l - w) + i) = BitVec.ofNat 8 (crcOf k (bytes (l - w - 1) ++ [BitVec.ofNat 8 c]) >>> (8 * i))) ∧
        (∀ ad, ad < 0x01000000 → ad < arr.base + (l - w - 1) ∨ arr.base + l ≤ ad → p.loadByte ad = a.loadByte ad) ∧
        a.SetsReg p d 0#32 ∧
        p = { a with regs := p.regs, pc := a.pc + 2, charge := a.charge + cost (max (w + 1) most), writes := p.writes, effects := a.effects ++ [.cvu 1 0 0] } ∧
        (∀ j, tab.get freshStream j = if j = slot then { s.m.fy.slots.streams.get freshStream slot with counter := c } else s.m.fy.slots.streams.get freshStream j) ∧
        Leaves (.seal d ra k arr slot) s p { s.m.fy.slots with streams := tab }) ∧
    (∀ st u, let z := s.m.fy.slots.streams.get freshStream slot; let c := (a.loadByte (arr.base + (l - w - 1))).toNat
      let good := crcOf k (bytes (l - w)) = ofBytesLE ((List.range w).map fun i => a.loadByte (arr.base + (l - w) + i)); let gap := (c + 256 - z.counter) % 256
      (st, u) = (if ¬good then (34, z) else if z.fresh then (0, { counter := c, fresh := false }) else if gap = 0 then (35, z)
        else if gap = 1 then (0, { z with counter := c }) else (36, { z with counter := c })) →
      ∃ (p : Act) (tab : Tab StreamSlot),
        a.Did p d (word st) 2 (cost (max (w + 1) most)) [] [.cvu 1 (if st = 34 then 1 else 0) (if st = 35 ∨ st = 36 then 1 else 0)] ∧
        (∀ j, tab.get freshStream j = if j = slot then u else s.m.fy.slots.streams.get freshStream j) ∧
        Leaves (.check d ra k arr slot) s p { s.m.fy.slots with streams := tab })

/-- R135 to R159: the code words of a Fytric instruction, written from the encoding tables, are read back as that instruction: the engine that finds them
at its pc does what the command of that name does. Two hypotheses say that the image's reference list names the array that a load, a store or a
buffer instruction was built for (R145), and the load meets no wrong bit (R168). -/
def Obligations.CodeWordsDecode : Prop :=
  ∀ (i : Instr) (b : ImageBody) (s : State), let pc := s.m.fy.act.pc
    i.wf = true → assemble i ≠ [] → (∀ n, n < (assemble i).length → b.code.getD (pc + n) 0#32 = (assemble i).getD n 0#32) →
    (∀ d a x, i = .ld d a x ∨ i = .st d a x → namedArray b pc x.arr.base x.kind x.scale = x.arr ∧ x.ecc = {}) →
    (∀ d ra rb k n arr, i = .hreq d n arr ∨ i = .hres d n arr ∨ i = .crc d ra k arr ∨ i = .crcc d ra rb k arr ∨ i = .seal d ra k arr n ∨ i = .check d ra k arr n →
      namedArray b pc arr.base .word 0#3 = arr) →
    ∃ cost f, decodeAt b s.m.fy = some (cost, f) ∧ exec i s = .next { s with m := { s.m with fy := f s.m.fy } }

/-! ### The queue, the interface, and what every command shares -/

/-- The block takes its commands one at a time, first in, first out: a step with `c` at the front of the queue is `exec c` on the state with the queue's
rest. (On an empty queue the model idles: its own choice, log entry 1.) -/
def Obligations.StepRunsFront : Prop :=
  (∀ (m : M) (c : Instr) (r : List Instr), step { m := m, pending := c :: r } = exec c { m := m, pending := r }) ∧
  ∀ m : M, step { m := m, pending := [] } = .next { m := m, pending := [] }

/-- R12: no command is ever a fault or refused by the model, and none touches the queue; what the hardware refuses is a status or an event. While AON has
no power every command but AON_POWER_UP and the Fytric instructions, which an unpowered module does not execute, leaves the module as it is (R30, R50). -/
def Obligations.CommandsComplete : Prop :=
  (∀ (c : Instr) (s : State), Runs c s fun _ => True) ∧
  ∀ (c : Instr) (s : State), assemble c = [] → (∀ now, c ≠ .aonPowerUp now) → s.m.aon.powered = false → exec c s = .next s

/-- R135 to R161: a Fytric instruction changes the activation that executes it and the slots, and nothing else of the module: stores, events and requests
take effect at the commit that ends the activation (R107, R146). (An LD that meets an error in a storage word is the statement of the loads and stores.) -/
def Obligations.InstructionFrame : Prop :=
  ∀ (c : Instr) (s : State), assemble c ≠ [] → (∀ d a x, c = .ld d a x → eccWithin x.ecc (loadAddrs s.m.fy.act a x) = {}) →
    ∃ f, exec c s = .next { s with m := { s.m with fy := f } }

/-- R330, R374, R394, R411: whatever a step does, the registers that show counts agree with what the units hold, and the HEALTHY contact is closed only
while its conditions hold, if both were so before it. -/
def Obligations.StepKeepsReports : Prop :=
  ∀ s t : State, s.m.CountsShown → s.m.ContactSafe → step s = .next t → t.m.CountsShown ∧ t.m.ContactSafe

/-- Both invariants hold right after reset.
R50, R63, R401: the machine right after reset is in RESET with AON powered, every other domain off, the bucket line not pulled by it, no output
enabled, no session and no record; its identity registers hold the product, and data memory lists nothing. The firmware fields are the model's choice
(log entry 3). -/
def Obligations.ResetState : Prop :=
  (State.reset.m.CountsShown ∧ State.reset.m.ContactSafe) ∧
  (let m := State.reset.m
  m.mode = 0 ∧ m.aon.powered = true ∧ m.reg F.pwrDomainOn = 1#32 ∧ m.holds = false ∧ m.aon.enables = false ∧ m.reg F.idProductProduct = 480#32 ∧
  m.mem = [] ∧ m.net.sessions = [] ∧ m.log.records = [] ∧ m.reg F.wallQualQuality = 0#32 ∧ State.reset.pending = [])

/-- R4, R117: data memory. Two memories in canonical form that read alike are equal; writing a byte or a word keeps the form; a word reads back as
written, the byte at the lowest address least significant, and every other byte is left alone. That an unwritten byte reads as 0 is the model's choice
(log entry 4). -/
def Obligations.MemoryCanonical : Prop :=
  (∀ m n : List Host.Cell, Memory.wf m = true → Memory.wf n = true → (∀ a, memByte m a = memByte n a) → m = n) ∧
  (∀ (m : List Host.Cell) (a : Nat) (b : Byte) (w : Word), Memory.wf m = true → Memory.wf (memPut m a b) = true ∧ Memory.wf (memPutWord m a w) = true) ∧
  (∀ (m : List Host.Cell) (a : Nat) (w : Word), memWord (memPutWord m a w) a = w ∧
    (∀ i, i < 4 → memByte (memPutWord m a w) (a + i) = w.extractLsb' (8 * i) 8) ∧
    ∀ c, c < a ∨ a + 4 ≤ c → memByte (memPutWord m a w) c = memByte m c) ∧
  Memory.wf State.reset.m.mem = true

/-! ### Supplies, saves and lines -/

/-- R47, R50: the states of a feed, 0 GOOD, 1 LOW, 2 LOST, 3 OVER: what each edge makes of them, with the event of a state entered and the voltage shown, and the
time since when a GOOD feed, reading 19.2 V or more, has held the rail up outside a dip.
R49 to R51: a dip that begins is shown, and the standpipe that now supplies the module is no longer ready; one that is ridden through is counted, its
length in units of 10 µs kept as the longest and reported. The rail counts as up only outside a dip. -/
def Obligations.FeedsAndDips : Prop :=
  (∀ (s : State) (now : Nat) (b : Bool) (v : Nat), s.m.aon.powered = true → let m := s.m; let at1 := max m.aon.now now
    let k := if b then F.pwrFeedFeedB else F.pwrFeedFeedA; let vk := if b then F.pwrVoltFeedBV else F.pwrVoltFeedAV; let old := m.nat k
    let volt : M := (m.at now).setN vk (min 4000 v)
    let goes (c : Instr) (new : Nat) : Prop := Runs c s fun t => t.nat k = new ∧ t.reg vk = word (min 4000 v) ∧
      ({ m.at now with aon := { (m.at now).aon with railSince := t.aon.railSince } } : M).Only t [k, vk] ∧
      (t.aon.railSince = if t.railGood = true ∧ m.on F.pwrFeedDipActive = false then some (if volt.railGood then m.aon.railSince.getD at1 else at1) else none) ∧
      if new = old ∨ new = 0 then m.Silent t else (m.at now).Raised t (ev 0x0030 (0x103F + new))
    goes (.feedGood b ⟨now, v⟩) (if old = 1 ∨ old = 2 then 0 else old) ∧ goes (.feedLow b ⟨now, v⟩) (if old = 0 then 1 else old) ∧
    goes (.feedLost b ⟨now, v⟩) (if old < 2 then 2 else old) ∧ goes (.feedOver b ⟨now, v⟩) 3 ∧
    goes (.feedOverEnd b ⟨now, v⟩) (if old = 3 then (if 1920 ≤ v then 0 else if 1400 ≤ v then 1 else 2) else old)) ∧
  (∀ (s : State) (now : Nat), s.m.aon.powered = true → let m := s.m; let at1 := max m.aon.now now; let len := (at1 - m.aon.dipSince) / 10000
    (m.on F.pwrFeedDipActive = false → Runs (.dipBegin now) s fun t => t.on F.pwrFeedDipActive = true ∧ t.on F.pwrFeedStandpipeReady = false ∧
      t.nat F.pwrFeedStandpipePct ≤ 100 ∧ ({ m with aon := { m.aon with now := at1, dipSince := at1, railSince := none } } : M).Only t
        [F.pwrFeedDipActive, F.pwrFeedStandpipeReady, F.pwrFeedStandpipePct, F.wallLo, F.wallHi] ∧ m.Silent t) ∧
    (m.on F.pwrFeedDipActive = true → Runs (.dipRidden now) s fun t => t.on F.pwrFeedDipActive = false ∧
      t.nat F.pwrDipDipCount = min 65535 (m.nat F.pwrDipDipCount + 1) ∧ t.nat F.pwrDipLongestDip = max (m.nat F.pwrDipLongestDip) (min 65535 len) ∧
      ({ m.at now with aon := { (m.at now).aon with railSince := if m.railGood then some (m.aon.railSince.getD at1) else none } } : M).Only t
        [F.pwrFeedDipActive, F.pwrDipDipCount, F.pwrDipLongestDip] ∧ (m.at now).Raised t (ev 0x0030 0x1043 len)) ∧
    (m.on F.pwrFeedDipActive = true → Runs (.dipBegin now) s fun t => (m.at now).Only t [] ∧ m.Silent t) ∧
    (m.on F.pwrFeedDipActive = false → Runs (.dipRidden now) s fun t => (m.at now).Only t [] ∧ m.Silent t))

/-- R49, R50, R54, R435: AON gains and loses its power. It starts with the wall clock at 0, quality 0 and an empty queue; losing power it stands in RESET
with every domain off, a save that was running has left its area invalid, what the save areas held otherwise and the image slots stand, and of the log
the open record is lost. The standpipe
is ready once it is charged, but not during a dip. -/
def Obligations.AonPower : Prop :=
  ∀ (s : State) (now : Nat), let m := s.m; let at1 := max m.aon.now now
    (m.aon.powered = false → Runs (.aonPowerUp now) s fun t =>
      ({ m with aon := { m.aon with powered := true, now := at1, wallOff := -(at1 : Int), railSince := t.aon.railSince } } : M).Only t
        [F.wallQualQuality, F.wallLo, F.wallHi, F.pwrDomainOn] ∧ t.reg F.pwrDomainOn = 1#32 ∧
      t.wall = 0#64 ∧ t.reg F.wallLo = 0#32 ∧ t.reg F.wallHi = 0#32 ∧ t.nat F.wallQualQuality = 0 ∧ t.aon.queue = [] ∧ t.aon.lost = 0) ∧
    (m.aon.powered = true → Runs (.aonPowerUp now) s fun t => m.Only t [] ∧ m.Silent t) ∧
    (m.aon.powered = true → Runs .aonPowerDown s fun t => t.aon.powered = false ∧ t.mode = 0 ∧ t.reg F.pwrDomainOn = 0#32 ∧ t.aon.saving = 0 ∧
      t.on F.pwrFeedStandpipeReady = false ∧ t.nat F.pwrFeedStandpipePct = 0 ∧ t.on F.pwrFeedDipActive = false ∧ t.aon.queue = [] ∧
      (m.mode ≠ 0 → t.holds = false ∧ t.aon.enables = false) ∧ t.saves.areas = m.saves.areas ∧ t.store.slots = m.store.slots ∧
      t.log.queue = [] ∧ t.log.opened = none ∧ t.log.records = m.log.records ++ (m.log.opened.map fun r => badRecord r.seq).toList) ∧
    (m.aon.powered = true → m.on F.pwrFeedDipActive = false → Runs .standpipeReady s fun t =>
      t.on F.pwrFeedStandpipeReady = true ∧ t.nat F.pwrFeedStandpipePct = 100 ∧
      ({ m with aon := { m.aon with readyAt := if m.mode = 0 then some m.aon.now else m.aon.readyAt } } : M).Only t
        [F.pwrFeedStandpipeReady, F.pwrFeedStandpipePct] ∧ m.Silent t) ∧
    (m.aon.powered = true → m.on F.pwrFeedDipActive = true → Runs .standpipeReady s fun t => m.Only t [] ∧ m.Silent t)

/-- R38, R51, R53, R66, R75, R178, R179, R372: on a power loss and on RESET_n a module that runs halts with the bucket released, the outputs
cut and its field and network off, while a save runs in the older or invalid area, or in the one that a checkpoint was writing; the save holds the retained state of
the last commit, whose stroke AON stores. SAVE_DONE makes that area valid, and then only AON is powered. In priming there is no save, nor for a joiner that loses power, which
primes cold. RESET_n is kept while the line is low, and a module already in RESET stays as it is. What a module saves that has made no commit since its
priming is the model's choice (log entry 17). -/
def Obligations.ResetsAndSaves : Prop :=
  ∀ s : State, s.m.aon.powered = true → let m := s.m
    let halts (t : M) : Prop := t.mode = 0 ∧ t.holds = false ∧ t.aon.enables = false ∧ t.on F.hltSummaryHealthy = false
    let closed (t : M) : Prop := t.reg F.pwrDomainOn = 1#32 ∧ t.log.queue = [] ∧ t.log.opened = none
    let rests (t : M) : Prop := halts t ∧ closed t; let saves (t : M) : Prop := halts t ∧ t.reg F.pwrDomainOn = 0xF#32
    let drained (t : M) : Prop := t.on F.pwrFeedStandpipeReady = false ∧ t.on F.pwrFeedDipActive = false ∧ t.nat F.pwrFeedStandpipePct ≤ 100
    let n := match m.saves.running with
      | some x => x.1
      | none => m.saves.target
    let saving (t : M) (kind : Nat) : Prop := ∃ c : Area, t.saves.running = some (n, c) ∧ c.kind = kind ∧ c.seq = m.saves.seq + 1 ∧
      t.aon.lastStroke = (if m.ctl.primed then c.stroke else m.aon.lastStroke) ∧ (t.saves.areas.get Area.empty n).valid = false ∧
      (∀ j, j ≠ n → t.saves.areas.get Area.empty j = m.saves.areas.get Area.empty j) ∧
      (m.ctl.primed = true ∨ m.saves.newer = none → c.valid = true ∧ c.stroke = m.run.committed ∧
        ∀ l, m.run.last = some l → c.cells = l.cells ∧ c.prevMode = l.mode ∧ c.identity = l.identity)
    (2 ≤ m.mode → m.role ≠ 3 → Runs .powerLoss s (fun t => saves t ∧ drained t ∧ t.aon.saving = 2 ∧ saving t 2)) ∧
    (2 ≤ m.mode → m.role = 3 → Runs .powerLoss s (fun t => rests t ∧ drained t ∧ t.aon.saving = m.aon.saving ∧ t.saves.running = none ∧
      t.saves.areas = m.saves.areas ∧ t.aon.coldAsked = true)) ∧
    (2 ≤ m.mode → Runs .resetAssert s (fun t => saves t ∧ t.aon.saving = 1 ∧ t.aon.resetLow = true ∧ saving t 3)) ∧
    (m.mode = 1 → Runs .powerLoss s (fun t => rests t ∧ drained t ∧ t.saves.running = none ∧ t.saves.areas = m.saves.areas) ∧
      Runs .resetAssert s (fun t => rests t ∧ t.aon.resetLow = true ∧ t.saves.running = none ∧ t.saves.areas = m.saves.areas)) ∧
    (m.mode = 0 → Runs .powerLoss s (fun t => drained t ∧ m.Silent t ∧ ({ m with aon := { m.aon with railSince := t.aon.railSince } } : M).Only t
      [F.pwrFeedStandpipeReady, F.pwrFeedStandpipePct, F.pwrFeedDipActive]) ∧
      Runs .resetAssert s (fun t => ({ m with aon := { m.aon with resetLow := true } } : M).Only t [] ∧ m.Silent t)) ∧
    Runs .resetRelease s (fun t => ({ m with aon := { m.aon with resetLow := false } } : M).Only t [] ∧ m.Silent t) ∧
    (m.aon.saving ≠ 0 → ∀ n c, m.saves.running = some (n, c) → Runs .saveDone s fun t => t.aon.saving = 0 ∧ t.saves.running = none ∧
      t.saves.areas.get Area.empty n = c ∧ (∀ j, j ≠ n → t.saves.areas.get Area.empty j = m.saves.areas.get Area.empty j) ∧ closed t ∧ t.mode = m.mode) ∧
    (m.aon.saving ≠ 0 → m.saves.running = none → Runs .saveDone s fun t => t.aon.saving = 0 ∧ t.saves = m.saves ∧ closed t ∧ t.mode = m.mode) ∧
    (m.aon.saving = 0 → Runs .saveDone s fun t => m.Only t [] ∧ m.Silent t)

/-- R9: a register address that the map does not name reads as zero, to a task and in a host's read, and a write to it changes nothing at all; a bit of
a register that no field of it covers reads as zero, and writing it has no effect. -/
def Obligations.ReservedBits : Prop :=
  (∀ (t : Tab Word) (ad : Nat), fieldsAt ad = [] → readReg t ad = 0#32 ∧ ∀ ok w, writeReg ok t ad w = t) ∧
  (∀ (t : Tab Word) (ad b : Nat), b < 32 → (∀ f ∈ fieldsAt ad, b < f.lo ∨ f.hi < b) → (readReg t ad).getLsbD b = false ∧
    ∀ (ok : Bool) (v w : Word), (∀ j, j ≠ b → v.getLsbD j = w.getLsbD j) → writeReg ok t ad v = writeReg ok t ad w) ∧
  (∀ (a : Act) (ad b : Nat), (inSys ad = true ∨ inLoop ad = true) → b < 32 → (∀ f ∈ fieldsAt ad, b < f.lo ∨ f.hi < b) →
    (a.load ad).getLsbD b = false) ∧
  (∀ (m : M) (ad : Nat) (w : Word), (inSys ad = true ∨ inLoop ad = true) → fieldsAt ad = [] →
    (m.readRegs ad 1).2 = [0#32] ∧ m.plainWrite ad w = m ∧ m.putReg ad w = m)

/-- R35, R46, R337, R344: PRESENT_n and PARTNER_PRESENT_n. A holder that parts releases the bucket and cuts its outputs in one action; a partner's
absence makes a LEAD or DETACHED module LONE with cause 13, its return makes a LONE one DETACHED with cause 14, each with ROLE_CHANGED. (A refused
automatic restart that waits is requested anew at a role change, so none waits here.)
R33, R39, R66, R262, R375: the SAFE inputs, DBG_EN and an alarm strap as read, with what follows at once: the SEEN bit, in SAFE the cause; the
breakpoints of RUN, in HOLD DBG_REMOVED; both reach the next cut, even where they have ended by then. An alarm strap is read while its wellhead works, and one
that reads otherwise than ID_STRAPS is reported. -/
def Obligations.PresenceAndStrapLines : Prop :=
  (∀ s : State, s.m.aon.powered = true → let m := s.m; let aon (b : Bool) : M := { m with aon := { m.aon with mated := b } }
    let changed (t : M) (absent : Bool) (role cause : Nat) : Prop := t.role = role ∧ t.nat F.redStatusLastCause = cause ∧
      t.on F.idStrapsPartnerPresent = !absent ∧
      ({ m with red := { m.red with absent := absent, roleEvent := 0, roleAsked := false, taker := false, release := false, digestSafe := 0
                                    wantBucket := t.red.wantBucket } } : M).Only t [F.idStrapsPartnerPresent, F.redStatusRole, F.redStatusLastCause] ∧
      m.Raised t (ev 0x0050 0x1060 m.role role cause 0)
    Runs .presentMated s (fun t => (aon true).Only t [] ∧ m.Silent t) ∧
    (m.holds = false → Runs .presentParted s fun t => (aon false).Only t [] ∧ m.Silent t) ∧
    (m.holds = true → Runs .presentParted s fun t => t.holds = false ∧ t.aon.enables = false ∧ t.aon.mated = false ∧ t.on F.idStrapsBucketLine = false ∧
      (∀ p, p < 2 → t.on (F.canStatListenActive p) = true) ∧ t.mode = m.mode ∧ t.role = m.role ∧ m.Silent t) ∧
    (m.mode = 0 ∨ (m.mode = 1 ∧ m.role ≠ 3) ∨ m.role = 0 → Runs .partnerAbsent s fun t => t.on F.idStrapsPartnerPresent = false ∧
      ({ m with red := { m.red with absent := true } } : M).Only t [F.idStrapsPartnerPresent] ∧ m.Silent t) ∧
    (2 ≤ m.mode → m.hlt.refused = [] → (m.role = 1 ∧ m.red.joining = false ∨ m.role = 2 ∧ m.holds = true) →
      Runs .partnerAbsent s fun t => changed t true 0 13 ∧ t.red.wantBucket = m.red.wantBucket) ∧
    (2 ≤ m.mode → m.hlt.refused = [] → m.role = 4 → Runs .partnerAbsent s fun t => changed t true 0 13 ∧
      t.red.wantBucket = if m.holds ∨ m.on F.redStatusArmed ∨ m.mode = 5 then m.red.wantBucket else 7) ∧
    (2 ≤ m.mode → m.hlt.refused = [] → m.role = 1 → m.red.joining = true → Runs .partnerAbsent s fun t => t.role = 0 ∧ t.nat F.redStatusLastCause = 13 ∧
      t.red.joining = false ∧ t.nat F.redJoinAbortCause = 8 ∧ t.holds = m.holds ∧ t.mode = m.mode) ∧
    (m.mode ≠ 0 → m.hlt.refused = [] → m.role = 3 → Runs .partnerAbsent s fun t => t.mode = 0 ∧ t.aon.coldAsked = true ∧ t.nat F.redJoinAbortCause = 8 ∧
      t.on F.idStrapsPartnerPresent = false) ∧
    (2 ≤ m.mode → m.role = 2 → m.holds = false → Runs .partnerAbsent s fun t => t.role = 0 ∧ t.nat F.redStatusLastCause = 13 ∧ t.run.acts = [] ∧
      t.on F.redStatusArmed = (m.mode != 5) ∧ t.on F.idStrapsPartnerPresent = false) ∧
    (2 ≤ m.mode → m.hlt.refused = [] → m.role = 0 → Runs .partnerPresent s fun t => changed t false 4 14 ∧
      t.red.wantBucket = if m.red.wantBucket = 7 then 0 else m.red.wantBucket) ∧
    (m.mode < 2 ∨ m.role ≠ 0 → Runs .partnerPresent s fun t => t.on F.idStrapsPartnerPresent = true ∧
      ({ m with red := { m.red with absent := false } } : M).Only t [F.idStrapsPartnerPresent] ∧ m.Silent t)) ∧
  (∀ (s : State) (b fitted : Bool) (w : Nat), s.m.aon.powered = true → w < 2 → let m := s.m
    let k := if b then F.idStrapsSafeB else F.idStrapsSafeA; let seen := if b then F.hltSafeBSeen else F.hltSafeASeen
    let strap := if w = 0 then F.idStrapsAg0Alm else F.idStrapsAg1Alm; let cleared : M := { m with ctl := { m.ctl with breaks := [] } }
    let took : M := { m with ctl := { m.ctl with inputSeen := m.ctl.inputSeen ||| (if b then 2 else 1) } }
    let works : Prop := m.awOn w = true ∧ (m.awGet w).coreDead = false ∧ (m.awGet w).silent = false
    (m.mode ≠ 5 → Runs (.safeInputAsserted b) s fun t => t.on k = true ∧ t.on seen = true ∧ took.Only t [k, seen] ∧ m.Silent t) ∧
    (m.mode = 5 → Runs (.safeInputAsserted b) s fun t => t.on k = true ∧ t.on seen = true ∧ took.Only t [k, seen, F.modStatusSafeCause] ∧ m.Silent t ∧
      t.nat F.modStatusSafeCause = if m.on (if b then F.idStrapsSafeA else F.idStrapsSafeB) then 4 else if b then 3 else 2) ∧
    Runs (.safeInputReleased b) s (fun t => t.on k = false ∧ m.Only t [k] ∧ m.Silent t) ∧
    Runs .dbgEnFitted s (fun t => t.on F.idStrapsDbgEn = true ∧ m.Only t [F.idStrapsDbgEn] ∧ m.Silent t) ∧
    (m.mode = 3 → Runs .dbgEnOpen s fun t => t.on F.idStrapsDbgEn = false ∧ cleared.Only t [F.idStrapsDbgEn] ∧ m.Silent t) ∧
    (m.mode = 4 → m.on F.idStrapsDbgEn = true → Runs .dbgEnOpen s fun t => t.on F.idStrapsDbgEn = false ∧
      ({ m with ctl := { m.ctl with dbgSeen := true } } : M).Only t [F.idStrapsDbgEn] ∧ m.Raised t (ev 0x0010 0x1012)) ∧
    (m.mode ≠ 3 → m.mode ≠ 4 ∨ m.on F.idStrapsDbgEn = false → Runs .dbgEnOpen s fun t => t.on F.idStrapsDbgEn = false ∧ m.Only t [F.idStrapsDbgEn] ∧ m.Silent t) ∧
    Runs (.almStrapChange w fitted) s fun t => (∀ v, v ∈ t.aon.alm ↔ if v = w then fitted = true else v ∈ m.aon.alm) ∧
      ({ m with aon := { m.aon with alm := t.aon.alm } } : M).Only t [F.awStatAlmStrap w, strap] ∧
      (works → t.on (F.awStatAlmStrap w) = fitted ∧ t.on strap = fitted ∧
        if m.on strap = fitted then m.Silent t else m.Raised t (ev (0x0220 + w) 0x1214 w)) ∧
      (¬works → t.reg (F.awStatAlmStrap w) = m.reg (F.awStatAlmStrap w) ∧ t.reg strap = m.reg strap ∧ m.Silent t))

/-- R40, R83, R85, R107, R328: the timebase and the wall clock. A PPS edge within 100 ms of the clock's whole second moves its fraction to 0 with quality 2
(log entry 13) and steers a timebase locked to it, within ±50 ppm; a lost lock source means HOLDOVER, its return steering again; a module that
follows its partner does neither. PPS_OUT pulses only while the clock has a quality. -/
def Obligations.TimeSources : Prop :=
  ∀ (s : State) (now : Nat) (adj : Int), s.m.aon.powered = true → let m := s.m; let a := m.at now; let follows := m.role = 2 ∨ m.role = 3
    let q := m.nat F.wallQualQuality; let w := a.wall.toNat; let f := w % 1000000000; let src := m.nat F.stkTimebaseLockSrc
    let steered (t : M) : Prop := t.nat F.stkTimebaseLockState = 2 ∧ t.reg F.stkTimebaseFreqAdj = BitVec.ofInt 32 (max (-5000) (min 5000 adj)) &&& 0xFFFF#32
    let kept (t : M) : Prop := t.nat F.stkTimebaseLockState = m.nat F.stkTimebaseLockState ∧ t.reg F.stkTimebaseFreqAdj = m.reg F.stkTimebaseFreqAdj
    (m.mode = 0 → Runs (.ppsInEdge now adj) s fun t => a.Only t [] ∧ m.Silent t) ∧
    (m.mode ≠ 0 → Runs (.ppsInEdge now adj) s fun t => m.Silent t ∧
      ({ a with aon := { a.aon with wallOff := t.aon.wallOff } } : M).Only t
        [F.wallLo, F.wallHi, F.wallQualQuality, F.stkTimebaseLockState, F.stkTimebaseFreqAdj] ∧
      (src = 2 → ¬follows → steered t) ∧ (src ≠ 2 ∨ follows → kept t) ∧
      (¬follows → 1 ≤ q → q ≤ 3 → f ≤ 100000000 → t.wall = BitVec.ofNat 64 (w - f) ∧ t.nat F.wallQualQuality = 2) ∧
      (¬follows → 1 ≤ q → q ≤ 3 → 900000000 ≤ f → t.wall = BitVec.ofNat 64 (w - f + 1000000000) ∧ t.nat F.wallQualQuality = 2) ∧
      (follows ∨ q = 0 ∨ 3 < q ∨ (100000000 < f ∧ f < 900000000) → t.wall = a.wall ∧ t.nat F.wallQualQuality = q)) ∧
    Runs .ppsOutPulse s (fun t => m.Silent t ∧
      ({ m with out := if m.mode ≠ 0 ∧ 0 < q then m.out ++ [.ppsPulse] else m.out } : M).Only t []) ∧
    Runs .lockSourceLost s (fun t => m.Only t [F.stkTimebaseLockState] ∧ m.Silent t ∧
      t.nat F.stkTimebaseLockState = if src ≠ 0 ∧ ¬follows then 3 else m.nat F.stkTimebaseLockState) ∧
    (src ≠ 0 → ¬follows → Runs (.lockSourceReturn adj) s fun t => steered t ∧ m.Only t [F.stkTimebaseLockState, F.stkTimebaseFreqAdj] ∧ m.Silent t) ∧
    (src = 0 ∨ follows → Runs (.lockSourceReturn adj) s fun t => m.Only t [] ∧ m.Silent t)

/-- R66, R71, R336, R362, R365, R367: fail-stop. Every F3 fault of the module's own parts acts alike, by the mode and the pair: none in RESET; a priming
fails with start fault 5; with a partner in step, or armed, the module enters RESET and primes again by itself; otherwise SAFE with cause 1, the bucket
released and, where it held it, the module the safe driver, and a domain restart abandoned (R372) where none refused before is requested again with the role (R363); a joiner that primes acts as one that runs; a lapsed lease (R344) cuts the outputs first. HLT_LAST_F3 keeps the first fault. -/
def Obligations.FailStop : Prop :=
  ∀ (s : State) (e : Nat), s.m.aon.powered = true → e < 4 → let m := s.m
    let away := (m.inStep = true ∧ m.on F.redStatusSafeDriver = false) ∨ m.on F.redStatusArmed = true
    let seen (t : M) (x : Event) (item : Nat) : Prop := t.aon.f3 = true ∧ item ∈ t.hlt.latched ∧ t.on F.hltSummaryHealthy = false ∧
      (m.aon.f3 = false → t.reg F.hltLastF3Source = x.source.setWidth 32 ∧ t.reg F.hltLastF3Code = x.code.setWidth 32)
    let resets (t : M) : Prop := t.mode = 0 ∧ t.aon.waiting = true ∧ t.holds = false ∧ t.aon.enables = false ∧ t.reg F.pwrDomainOn = 1#32 ∧ t.saves.running = none
    let safe (t : M) (x : Event) (driver enables : Bool) : Prop := t.mode = 5 ∧ t.on F.modStatusSafeLatched = true ∧ t.nat F.modStatusSafeCause = 1 ∧
      t.holds = false ∧ t.on F.redStatusSafeDriver = driver ∧ t.aon.enables = enables ∧ t.run.acts = [] ∧ t.saves.running = none ∧
      (m.hlt.refused = [] → t.nat F.pwrDomainRestarting = 0) ∧
      (m.domainOn 1 = true → m.log.queue.length < 1024 → ∃ y ∈ t.log.queue, y.event = x ∧ y.stroke = m.stroke)
    let runs : Prop := 2 ≤ m.mode ∨ (m.mode = 1 ∧ m.role = 3)
    let stops (c : Instr) (x : Event) (item : Nat) : Prop :=
      (m.mode = 0 → Runs c s fun t => m.Only t [] ∧ m.Silent t) ∧
      (m.mode = 1 → m.role ≠ 3 → Runs c s fun t => t.nat F.modStatusStartFault = 5 ∧ t.aon.f3 = true ∧
        if (m.ctl.cold = true ∧ 1 ≤ m.nat F.modStartFailedCold) ∨ m.nat F.modStartFailedCold = 2 then t.mode = 2 else resets t) ∧
      (runs → away → Runs c s fun t => resets t ∧ seen t x item) ∧
      (runs → m.mode ≤ 4 → ¬away → Runs c s fun t => seen t x item ∧ safe t x (m.holds || m.on F.redStatusSafeDriver) (m.holds && m.aon.enables)) ∧
      (m.mode = 5 → ¬away → Runs c s fun t => seen t x item ∧ t.mode = 5 ∧ t.nat F.modStatusSafeCause = 1 ∧
        t.on F.redStatusSafeDriver = m.on F.redStatusSafeDriver)
    stops (.engineRail e) (ev 0x0060 0x7070) e ∧ stops .loopRail (ev 0x0060 0x7072) 4 ∧ stops .memRail (ev 0x0060 0x7073) 6 ∧
    stops .timebaseFault (ev 0x0020 0x7034) 10 ∧
    (2 ≤ m.mode → stops (.engineSelftestPass e false) (ev 0x0060 0x7071) e ∧ stops (.scrubRead 2) (ev 0x0040 0x7051 (8 * m.saves.scrubAt)) 6) ∧
    (m.holds = false → Runs .leaseLapsed s fun t => m.Only t [] ∧ m.Silent t) ∧
    (m.holds = true → 2 ≤ m.mode → m.mode ≤ 4 → ¬away → Runs .leaseLapsed s fun t => seen t (ev 0x0050 0x7067) 11 ∧
      safe t (ev 0x0050 0x7067) (m.on F.redStatusSafeDriver) false)

/-- R367, R368, R374: self-tests passed and overdue, the proof marks of a channel that is commanded to the state and shows no fault of it, and the HEALTHY contact, which closes where every condition has held for
1 s. -/
def Obligations.SelfTestsAndMarks : Prop :=
  ∀ (s : State) (e n now : Nat) (on : Bool), s.m.aon.powered = true → let m := s.m
    let k := if on then F.hltDioTestedOn else F.hltDioTestedOff; let same (c : Instr) : Prop := Runs c s fun t => m.Only t [] ∧ m.Silent t
    let bits (t : M) (b : Bool) : Prop := m.Only t [k] ∧ m.Silent t ∧ ∀ j, j < 32 → (t.reg k).getLsbD j = if j = n then b else (m.reg k).getLsbD j
    (2 ≤ m.mode → e < 4 → Runs (.engineSelftestPass e true) s fun t => m.Silent t ∧ e ∈ t.hlt.passed ∧ e ∉ t.hlt.overdue ∧
      (∀ j, j ≠ e → ((j ∈ t.hlt.passed ↔ j ∈ m.hlt.passed) ∧ (j ∈ t.hlt.overdue ↔ j ∈ m.hlt.overdue))) ∧
      ({ m with hlt := { m.hlt with passed := t.hlt.passed, overdue := t.hlt.overdue } } : M).Only t []) ∧
    (2 ≤ m.mode → e < 4 → Runs (.selftestOverdue e) s fun t => m.Silent t ∧ (∀ j, j ∈ t.hlt.overdue ↔ j = e ∨ j ∈ m.hlt.overdue) ∧
      ({ m with hlt := { m.hlt with overdue := t.hlt.overdue } } : M).Only t []) ∧
    (m.mode < 2 → same (.engineSelftestPass e true) ∧ same (.selftestOverdue e)) ∧
    (n < 32 → m.holds = true → m.dioDrives n = some on → m.isl (if on then F.dioStatSwitchFault n else F.dioStatExternalDrive n) = 0 →
      Runs (.proofMarkSet n on) s fun t => bits t true) ∧
    (m.holds = false ∨ m.dioDrives n ≠ some on → same (.proofMarkSet n on)) ∧
    (n < 32 → m.on F.hltCfgProofDays = true → Runs (.proofMarkExpired n on) s fun t => bits t false) ∧
    (m.on F.hltCfgProofDays = false → same (.proofMarkExpired n on)) ∧
    (∀ t0, m.aon.healthySince = some t0 → m.healthyNow = true → t0 + 1000000000 ≤ max m.aon.now now → Runs (.healthyClose now) s fun t =>
      m.Silent t ∧ (t.healthyNow = true → t.on F.hltSummaryHealthy = true) ∧ (m.at now).Only t []) ∧
    (m.healthyNow = false → Runs (.healthyClose now) s fun t => (m.at now).Only t [] ∧ m.Silent t)

/-- R168 to R171, R175, R178: the scrubber and the checkpoint copier. A corrected bit is counted with its word; a checkpoint makes its area valid, or,
failing its read-back, leaves it invalid with CKPT_FAILED. With nothing queued the recorder writes nothing (R385). -/
def Obligations.MemoryUpkeep : Prop :=
  ∀ s : State, s.m.aon.powered = true → let m := s.m; let i := m.saves.scrubAt; let same (c : Instr) : Prop := Runs c s fun t => m.Only t [] ∧ m.Silent t
    (m.mode = 0 → same (.scrubRead 0) ∧ same (.scrubRead 1) ∧ same (.scrubRead 2)) ∧
    (m.mode ≠ 0 → i + 1 < 2 ^ 21 →
      Runs (.scrubRead 0) s (fun t => ({ m with saves := { m.saves with scrubAt := i + 1 } } : M).Only t [] ∧ m.Silent t) ∧
      Runs (.scrubRead 1) s (fun t => t.nat F.memEccSramCorrected = min 65535 (m.nat F.memEccSramCorrected + 1) ∧ t.reg F.memEccLastWordAddr = word i ∧
        t.saves.scrubAt = i + 1 ∧ t.saves.passFixes = m.saves.passFixes + 1 ∧ (16 ≤ m.saves.passFixes → t.saves.passMany = true) ∧
        ({ m with saves := { m.saves with scrubAt := t.saves.scrubAt, passFixes := t.saves.passFixes, passMany := t.saves.passMany } } : M).Only t
          [F.memEccSramCorrected, F.memEccLastWordAddr] ∧ m.Raised t (ev 0x0040 0x1050))) ∧
    (m.mode ≠ 0 → i + 1 = 2 ^ 21 → Runs (.scrubRead 0) s fun t => t.nat F.memScrub = (m.nat F.memScrub + 1) % 2 ^ 32 ∧ t.saves.scrubbed = true ∧
      t.saves.passMany = decide (16 < m.saves.passFixes) ∧
      ({ m with saves := { m.saves with scrubAt := 0, passFixes := 0, passMany := t.saves.passMany, scrubbed := true } } : M).Only t [F.memScrub] ∧ m.Silent t) ∧
    (2 ≤ m.mode → m.aon.saving = 0 → ∀ n c, m.saves.running = some (n, c) →
      Runs (.checkpointDone true) s (fun t => t.saves.running = none ∧ t.saves.areas.get Area.empty n = c ∧ t.saves.failed = false ∧ m.Silent t ∧
        ∀ j, j ≠ n → t.saves.areas.get Area.empty j = m.saves.areas.get Area.empty j) ∧
      Runs (.checkpointDone false) s (fun t => t.saves.running = none ∧ t.saves.areas = m.saves.areas ∧ t.saves.failed = true ∧ m.Raised t (ev 0x0040 0x1053))) ∧
    (m.mode < 2 ∨ m.saves.running = none → same (.checkpointDone true)) ∧
    (m.domainOn 1 = true → m.log.queue = [] → same .recordWrite)

/-- R383: RECORD_WRITE brings the oldest queued event to the log. It merges into the open record, the one written last, when SOURCE, CODE and the four
parameters are equal, KIND bits [2:0] are equal and REPEAT is below 65,535: the merge increments REPEAT, sets LAST_STROKE and changes nothing else of the
log. Any other event closes the open record and opens a new one with REPEAT 0. (The last free place and a full log are R386's.) -/
def Obligations.OpenRecord : Prop :=
  ∀ (s : State) (x : LogEntry) (r : List LogEntry), s.m.aon.powered = true → s.m.domainOn 1 = true → s.m.log.queue = x :: r →
    s.m.on F.logStatFull = false → let m := s.m
    let same (o : LogRec) : Prop := o.event.source = x.event.source ∧ o.event.code = x.event.code ∧ o.event.p0 = x.event.p0 ∧ o.event.p1 = x.event.p1 ∧
      o.event.p2 = x.event.p2 ∧ o.event.p3 = x.event.p3 ∧ o.kind % 8 = x.kind % 8 ∧ o.repeats < 65535
    let new : LogRec := { seq := m.reg F.logNextSeq, event := x.event, first := x.stroke, last := x.stroke, wall := x.wall, qual := x.qual
                          kind := x.kind, repeats := 0, bad := false }
    (∀ o, m.log.opened = some o → same o → Runs .recordWrite s fun t =>
      t.log = { m.log with queue := r, opened := some { o with repeats := o.repeats + 1, last := x.stroke } } ∧
      t.nat F.logNextSeq = m.nat F.logNextSeq ∧ t.nat F.logLost = m.nat F.logLost) ∧
    ((∀ o, m.log.opened = some o → ¬same o) → m.log.records.length < 65534 → Runs .recordWrite s fun t =>
      t.log = { m.log with queue := r, records := m.log.records ++ m.log.opened.toList, opened := some new } ∧
      t.nat F.logNextSeq = (m.nat F.logNextSeq + 1) % 2 ^ 32 ∧ t.nat F.logLost = m.nat F.logLost)

/-! ### Priming and the stroke -/

/-- R50, R74, R76, R77, R80, R81, R171, R408: priming. It begins only in RESET with the rail up for 100 ms outside a dip, the standpipe ready, no save running,
RESET_n released and no wait left; it ends in a failed start for a bad data SRAM (1), firmware that may not run (2), a bad image (3), a timeout (4) or an
MRAM error beyond correction (5), and for want of an image in STOP with start fault 7; otherwise it powers every domain and waits in its bucket step. A
failed start is counted by its kind; the second failed cold one ends in STOP, any other in RESET for 100 ms. -/
def Obligations.PrimingSteps : Prop :=
  ∀ (s : State) (x : PrimingIn), s.m.aon.powered = true → let m := s.m
    let may := m.mode = 0 ∧ m.aon.saving = 0 ∧ m.aon.resetLow = false ∧ m.aon.waiting = false ∧ m.on F.pwrFeedStandpipeReady = true ∧
      m.on F.pwrFeedDipActive = false ∧ ∃ t0, m.aon.railSince = some t0 ∧ t0 + 100000000 ≤ max m.aon.now x.now
    let failed (t : M) (fault : Nat) : Prop := t.nat F.modStatusStartFault = fault ∧
      ((t.mode = 0 ∧ t.aon.waiting = true ∧ t.reg F.pwrDomainOn = 1#32) ∨ (t.mode = 2 ∧ t.nat F.modStartFailedCold = 2 ∧ t.ctl.primed = false))
    let fwRuns := (m.firmwareToRun x.fwBad).isSome = true
    (¬may → Runs (.priming x) s fun t => (m.at x.now).Only t [] ∧ m.Silent t) ∧
    (may → x.sramOk = false → Runs (.priming x) s fun t => failed t 1) ∧
    (may → x.sramOk = true → x.mramBad = true → Runs (.priming x) s fun t => failed t 5 ∧ t.aon.f3 = true) ∧
    (may → x.sramOk = true → x.mramBad = false → ¬fwRuns → Runs (.priming x) s fun t => failed t 2) ∧
    (may → x.sramOk = true → x.mramBad = false → fwRuns → m.slotToRun = none → Runs (.priming x) s fun t => t.mode = 2 ∧ t.nat F.modStatusStartFault = 7 ∧
      t.ctl.primed = false ∧ t.reg F.pwrDomainOn = 0x1FF#32 ∧ (m.on F.idStrapsPartnerPresent = true → t.role = 4)) ∧
    (may → x.sramOk = true → x.mramBad = false → fwRuns → m.slotToRun.isSome = true → x.imageBad = true → Runs (.priming x) s fun t => failed t 3) ∧
    (may → x.sramOk = true → fwRuns → m.slotToRun.isSome = true → x.imageBad = false → x.mramBad = false → Runs (.priming x) s fun t => t.ctl.step8 = true ∧
      t.ctl.primed = false ∧ t.aon.coldAsked = false ∧ t.aon.enables = m.aon.enables ∧
      t.run.acts = [] ∧ t.net.sessions = [] ∧ t.ctl.forces = [] ∧ t.red.absent = !m.on F.idStrapsPartnerPresent) ∧
    (m.mode = 1 → m.role ≠ 3 → Runs .primingTimeout s fun t => failed t 4 ∧
      (t.mode = 2 ↔ (m.ctl.cold = true ∧ 1 ≤ m.nat F.modStartFailedCold) ∨ m.nat F.modStartFailedCold = 2)) ∧
    (m.mode ≠ 1 ∨ m.role = 3 → Runs .primingTimeout s fun t => m.Only t [] ∧ m.Silent t) ∧
    Runs .primingRetry s (fun t => ({ m with aon := { m.aon with waiting := false } } : M).Only t [] ∧ m.Silent t)

/-- R76, R86, R101, R168, R171, R338, R340, R347, R348, R351, R352: ticks at which nothing is committed; the sender of manifests transmits the tick marker, and with a lane UP
STATUS follows. In RESET, and in a STOP without a priming behind it, a tick only moves the timebase on, and out of RESET counts the errors corrected; in the bucket step a module that finds the line held asks its partner for a join where the rope is UP and AUTO_JOIN is set, and is DETACHED
otherwise (row 3 of R347); an armed module, and one in a divergence, counts the stroke and neither commits nor executes. -/
def Obligations.StrokeSkipped : Prop :=
  ∀ (s : State) (x : TickIn), s.m.aon.powered = true → let m := s.m
    let a := ({ m.sendMarker.at x.now with red := { m.red with tickAt := max m.aon.now x.now } } : M).ageDiscards
    let joins := m.ropeUp = true ∧ (m.on F.redCfgAutoJoin = true ∨ m.aon.joinAgain = true) ∧ m.red.noJoin = false
    let quiet := x.sramFixed = [] ∧ x.mramFixed = 0 ∧ x.sramBad = none ∧ x.mramBad = false
    let step8 := m.mode ≠ 0 ∧ m.ctl.step8 = true; let held := m.red.absent = false ∧ m.on F.idStrapsBucketLine = true
    (m.mode = 0 → Runs (.strokeTick x) s fun t => a.Only t [] ∧ m.Silent t) ∧
    (m.mode ≠ 0 → m.ctl.step8 = false → m.ctl.primed = false → quiet → Runs (.strokeTick x) s fun t => a.sendStatus.Only t [] ∧ m.Silent t) ∧
    (m.mode ≠ 0 → m.ctl.primed = false → x.sramBad = none → x.mramBad = false → Runs (.strokeTick x) s fun t =>
      t.nat F.memEccMramCorrected = min 65535 (m.nat F.memEccMramCorrected + x.mramFixed) ∧
      t.nat F.memEccSramCorrected = min 65535 (m.nat F.memEccSramCorrected + x.sramFixed.length) ∧ t.saves.passFixes = m.saves.passFixes + x.sramFixed.length) ∧
    (step8 → m.red.absent = true → quiet → Runs (.strokeTick x) s fun t => a.sendStatus.Only t [] ∧ m.Silent t) ∧
    (step8 → held → joins → m.red.joinAsked = true → quiet → Runs (.strokeTick x) s fun t => a.sendStatus.Only t [] ∧ m.Silent t) ∧
    (step8 → held → joins → m.red.joinAsked = false → quiet → Runs (.strokeTick x) s fun t => m.Silent t ∧
      ({ a with red := { a.red with joinAsked := true, ask := false, refusal := 0 }, aon := { a.aon with joinAgain := false }
                out := a.out ++ [.join true 0] } : M).sendStatus.Only t []) ∧
    (step8 → held → ¬joins → quiet → Runs (.strokeTick x) s fun t =>
      t.role = 4 ∧ t.holds = m.holds ∧ t.ctl.step8 = false ∧ t.ctl.primed = true ∧ t.ctl.firstCommit = true ∧ t.stroke = m.stroke ∧ t.mem = m.mem) ∧
    (m.mode ≠ 0 → m.ctl.step8 = false → m.ctl.primed = true → m.ctl.firstCommit = false → x.sramBad = none → x.mramBad = false →
      m.on F.redStatusArmed = true ∨ m.red.mismatch.isSome = true → Runs (.strokeTick x) s fun t => t.stroke = m.stroke + 1#64 ∧
        t.red.skipped = m.red.skipped + 1 ∧ t.run.executed = false ∧ t.run.committed = m.run.committed ∧ t.mem = m.mem ∧ t.fy = m.fy ∧
        t.mode = m.mode ∧ t.role = m.role ∧ t.run.pend = m.run.pend ∧ t.log.records = m.log.records)

/-- R65, R86, R87, R107: the tick of a module alone that has primed, in STOP or RUN, with no other mode announced. The stroke that ended becomes the last committed one, the next number
begins and is executed, and the mode is the one announced for this boundary, or the same. -/
def Obligations.StrokeCommits : Prop :=
  ∀ (s : State) (x : TickIn), s.m.aon.powered = true → let m := s.m
    m.mode = 2 ∨ m.mode = 3 → m.role = 0 → m.holds = true → m.ctl.step8 = false → m.ctl.primed = true → m.ctl.firstCommit = false →
    m.run.abandoned = false → m.red.wantBucket = 0 → m.on F.redStatusArmed = false → m.red.mismatch = none → m.red.roleEvent = 0 → m.store.change = none →
    x.sramBad = none → x.mramBad = false → x.leaseFault = false → x.laneFault = none →
    (∀ at1 mode cause, m.ctl.nextMode = some (at1, mode, cause) → mode = 2 ∨ mode = 3) → Runs (.strokeTick x) s fun t =>
      t.stroke = m.stroke + 1#64 ∧ t.run.committed = m.stroke ∧ t.holds = true ∧ t.role = 0 ∧ t.run.executed = true ∧
      (m.ctl.nextMode = none → t.mode = m.mode) ∧
      (∀ at1 mode cause, m.ctl.nextMode = some (at1, mode, cause) → at1.toNat ≤ (m.stroke + 1#64).toNat → t.mode = mode)

/-- R65, R95, R102, R104, R354, R355: manifests and digests. A manifest for another stroke, in another role, or after the stroke has been executed is not taken;
one whose references the shadow module cannot yet resolve is kept until S+20 µs; one that has not come complete or cannot be resolved by then counts as
late with MANIFEST_LATE, and the module leaves the pair: the holder goes on alone, another is armed. A joiner takes the lead module's stroke number. The
lead module sends CATCHUP of the next stroke where every page has been sent, with the pages and records of this stroke, and not otherwise. The digest
of an executed stroke reports the SAFE inputs; one that matches allows the commit, one that differs starts the self-tests, and a missing one leaves the
holder alone. That an equal digest with a failed self-check counts as missing is the model's choice (log entry 22). -/
def Obligations.ManifestsAndDigests : Prop :=
  ∀ (s : State) (x : Manifest) (d : DWord) (sent records : Nat), s.m.aon.powered = true → let m := s.m
    let same (c : Instr) : Prop := Runs c s fun t => m.Only t [] ∧ m.Silent t
    let been : M := { m with run := { m.run with exchanged := true } }
    let late (c : Instr) : Prop := (m.hlt.refused = [] → m.store.change = none → Runs c s fun t => t.role = 4 ∧ t.nat F.redStatusLastCause = 3 ∧
      t.nat F.stkLateManifestLate = min 65535 (m.nat F.stkLateManifestLate + 1) ∧ t.run.abandoned = true ∧ t.holds = m.holds ∧
      t.on F.redStatusArmed = (if m.holds then m.on F.redStatusArmed else m.mode != 5) ∧
      (m.domainOn 1 = true → m.log.queue.length < 1023 → ∃ y z, t.log.queue = m.log.queue ++ [y, z] ∧ y.event = ev 0x0020 0x3033 ∧
        z.event = ev 0x0050 0x1060 2 4 3 0))
    let missed (t : M) : Prop := t.role = 4 ∧ t.nat F.redStatusLastCause = 4 ∧ t.run.compare = 2 ∧
      t.nat F.stkLateDigestMissing = min 65535 (m.nat F.stkLateDigestMissing + 1) ∧ t.holds = true
    ((m.role ≠ 3 ∧ (x.stroke ≠ m.stroke ∨ m.mode < 2)) ∨ m.run.executed = true ∨ m.run.manifest.isSome = true ∨ m.red.mismatch.isSome = true ∨ m.role < 2 ∨ 3 < m.role →
      same (.ropeManifest x)) ∧
    (x.stroke = m.stroke → m.run.executed = false → m.run.manifest = none → 2 ≤ m.mode → m.red.mismatch = none → m.role = 2 →
      (m.begun.cutShadow x = none → Runs (.ropeManifest x) s fun t => ({ m with run := { m.run with parked := some x } } : M).Only t [] ∧ m.Silent t) ∧
      ((m.begun.cutShadow x).isSome = true → m.run.lane = none → Runs (.ropeManifest x) s fun t => t.run.executed = true ∧ t.run.manifest = some x)) ∧
    (m.run.executed = false → m.run.manifest = none → m.red.mismatch = none → m.role = 3 → Runs (.ropeManifest x) s fun t =>
      t.stroke = x.stroke ∧ t.run.executed = false ∧ t.role = 3 ∧ t.mode = m.mode) ∧
    (m.role = 2 → 2 ≤ m.mode → m.run.executed = false → m.red.mismatch = none → (∀ p, m.run.parked = some p → m.begun.cutShadow p = none) → late .manifestLate) ∧
    (∀ p, m.role = 2 → 2 ≤ m.mode → m.run.executed = false → m.red.mismatch = none → m.run.parked = some p → (m.begun.cutShadow p).isSome = true → m.run.lane = none →
      Runs .manifestLate s fun t => t.run.executed = true ∧ t.run.manifest = some p) ∧
    (m.role ≠ 2 ∨ m.mode < 2 ∨ m.run.executed = true ∨ m.red.mismatch.isSome = true → same .manifestLate) ∧
    (m.run.executed = false ∨ (m.run.paceDue = false ∧ m.role ≠ 1 ∧ m.role ≠ 2) → Runs (.digestExchange true sent records) s fun t => been.Only t [] ∧ m.Silent t) ∧
    (m.run.executed = true → m.run.paceDue = false → m.role = 1 → m.red.joining = false → Runs (.digestExchange true sent records) s fun t => m.Silent t ∧
      (been.ropeOut (.digest m.strokeDigest true (m.on F.idStrapsSafeA) (m.on F.idStrapsSafeB) false)).Only t []) ∧
    (m.run.executed = true → m.run.paceDue = false → m.role = 2 → Runs (.digestExchange true sent records) s fun t => m.Silent t ∧
      (({ been with ctl := { m.ctl with inputSeen := 0 } } : M).ropeOut (.digest m.strokeDigest true (m.safeSeen false) (m.safeSeen true) false)).Only t []) ∧
    (m.run.executed = true → m.run.paceDue = false → m.role = 1 → m.red.joining = true → m.red.unsent = 0 →
      let red := m.markStroke.red
      Runs (.digestExchange true sent records) s fun t =>
        (red.dirty.length ≤ sent → min records red.records.length = 0 → t.red.catchup = some (m.stroke + 1#64) ∧ .catchup (m.stroke + 1#64) ∈ t.out) ∧
        (sent < red.dirty.length ∨ min records red.records.length ≠ 0 → t.red.catchup = m.red.catchup)) ∧
    (m.run.executed = true → m.role = 0 → 2 ≤ m.mode → m.mode ≤ 4 → m.on F.redStatusArmed = false → Runs (.digestExchange false sent records) s fun t =>
      t.mode = 5 ∧ t.nat F.modStatusSafeCause = 1 ∧ 5 ∈ t.hlt.latched) ∧
    (m.inStep = false ∨ m.run.executed = false → same .digestCompare) ∧
    (m.inStep = true → m.run.executed = true → m.run.partner = some d → d = m.strokeDigest → m.run.partnerOk = true → Runs .digestCompare s fun t =>
      t.run.compare = 1 ∧ t.mem = m.mem ∧ t.role = m.role ∧ t.holds = m.holds) ∧
    (m.inStep = true → m.run.executed = true → m.run.partner = some d → d ≠ m.strokeDigest → Runs .digestCompare s fun t => t.run.compare = m.run.compare ∧
      t.red.mismatch = some (m.stroke, if m.role = 1 then (m.strokeDigest, d) else (d, m.strokeDigest)) ∧ t.run.abandoned = true ∧ t.run.pend = Pend.empty ∧
      t.nat F.redCntDivergences = min 255 (m.nat F.redCntDivergences + 1) ∧ t.mem = m.mem) ∧
    (m.inStep = true → m.run.executed = true → m.role = 1 → m.holds = true → m.hlt.refused = [] →
      (m.run.partner = none → Runs .digestCompare s fun t => missed t) ∧
      (m.run.partner = some d → d = m.strokeDigest → m.run.partnerOk = false → Runs .digestCompare s fun t => missed t))

/-- R103, R104, R134, R340, R351, R362: the partner's digest is kept with its self-check flag, but for a stroke of a pace fault; after a divergence the self-tests decide who leaves the pair: a
module that failed stops, one whose partner failed goes on alone with the bucket or, without it, armed, and with two passes both detach with DIVERGED.
The pace monitor shows the margin and its least, reports the crossing of the threshold once, and fails the module on a second negative margin, which at the instant of the digest exchange waits for it. -/
def Obligations.DivergenceAndPace : Prop :=
  ∀ (s : State) (d : DWord) (ok a b pace : Bool) (z : SelfTest) (now : Nat) (margin : Int), s.m.aon.powered = true → let m := s.m
    let same (c : Instr) : Prop := Runs c s fun t => m.Only t [] ∧ m.Silent t
    let least := signedField 16 (m.nat F.stkPaceMinMargin); let mg := max (-1000) (min 3000 margin)
    (m.role = 1 ∨ m.role = 2 → Runs (.ropeDigest d ok a b pace) s fun t => m.Silent t ∧
      ({ m with run := { m.run with partner := if pace then none else some d, partnerOk := ok }
                red := { m.red with digestSafe := boolNat a + 2 * boolNat b } } : M).Only t []) ∧
    (m.role ≠ 1 → m.role ≠ 2 → same (.ropeDigest d ok a b pace)) ∧
    (m.red.mismatch = none → same (.divergenceSelftest z) ∧ same .selftestPass ∧ same .selftestFail ∧ same .selftestTimeout) ∧
    (m.red.selfPartner.isSome = true → same .selftestTimeout) ∧
    (m.red.mismatch.isSome = true → m.red.selfOwn ≠ some true →
      Runs .selftestPass s (fun t => ({ m with red := { m.red with selfPartner := some true } } : M).Only t [] ∧ m.Silent t) ∧
      Runs .selftestFail s (fun t => ({ m with red := { m.red with selfPartner := some false } } : M).Only t [] ∧ m.Silent t)) ∧
    (∀ k lead shadow, m.red.mismatch = some (k, lead, shadow) → m.red.selfOwn = some true → m.role = 1 ∨ m.role = 2 → m.hlt.refused = [] →
      Runs .selftestPass s (fun t => t.role = 4 ∧ (m.role = 1 → t.store.change = m.store.change) ∧ (m.role = 2 → t.store.change = none) ∧ t.nat F.redStatusLastCause = 6 ∧ 26 ∈ t.hlt.latched ∧ t.red.mismatch = none ∧ t.holds = m.holds ∧
        (m.domainOn 1 = true → m.log.queue.length < 1023 → ∃ y z, t.log.queue = m.log.queue ++ [y, z] ∧ y.event = ev 0x0050 0x1060 m.role 4 6 0 ∧
          z.event = ev 0x0050 0x506A k.lo.toNat k.hi.toNat lead.lo.toNat shadow.lo.toNat)) ∧
      Runs .selftestFail s (fun t => t.role = 4 ∧ t.nat F.redStatusLastCause = 6 ∧ t.red.mismatch = none ∧ t.holds = m.holds ∧
        (¬(m.role = 1 ∧ m.holds = true) → t.on F.redStatusArmed = (m.mode != 5) ∧ t.run.abandoned = true))) ∧
    (m.red.mismatch.isSome = true → m.red.selfPartner = none → m.role = 1 ∨ m.role = 2 → m.holds = false ∨ m.mode = 5 →
      z.pass = true → Runs (.divergenceSelftest z) s fun t => m.Silent t ∧
        (({ m with red := { m.red with selfOwn := some true } } : M).ropeOut (.selftest true)).Only t []) ∧
    (m.red.mismatch.isSome = true → m.role = 0 → 2 ≤ m.mode → m.mode ≤ 4 → m.on F.redStatusArmed = false →
      z.pass = false ∨ (z.leaseFault = true ∧ m.holds = true) → Runs (.divergenceSelftest z) s fun t => t.mode = 5 ∧ t.nat F.modStatusSafeCause = 1 ∧
        t.red.mismatch = none ∧ .selftest false ∈ t.out ∧ if z.pass then 11 ∈ t.hlt.latched else 26 ∈ t.hlt.latched) ∧
    (m.red.mismatch.isSome = true → m.red.selfPartner = none → m.red.lost = false → m.role = 1 → m.red.joining = false → Runs .selftestTimeout s fun t =>
      t.role = 4 ∧ t.nat F.redStatusLastCause = 2 ∧ t.red.lost = true ∧ t.nat F.redCntRopeLosses = min 255 (m.nat F.redCntRopeLosses + 1) ∧ 25 ∈ t.hlt.latched) ∧
    (m.mode = 0 → Runs (.paceMeasurement ⟨now, margin⟩) s fun t => (m.at now).Only t [] ∧ m.Silent t) ∧
    (m.mode ≠ 0 → m.run.paceNeg = false ∨ 0 ≤ margin → Runs (.paceMeasurement ⟨now, margin⟩) s fun t =>
      t.reg F.stkPaceMargin = BitVec.ofInt 32 mg &&& 0xFFFF#32 ∧ t.reg F.stkPaceMinMargin = BitVec.ofInt 32 (min mg least) &&& 0xFFFF#32 ∧
      ({ m.at now with run := { m.run with paceNeg := decide (mg < 0), paceWasLow := decide (mg < m.nat F.stkPaceCfgLowThr) } } : M).Only t
        [F.stkPaceMargin, F.stkPaceMinMargin] ∧
      if mg < m.nat F.stkPaceCfgLowThr ∧ m.run.paceWasLow = false then (m.at now).Raised t (ev 0x0020 0x1030) else m.Silent t) ∧
    (m.run.paceNeg = true → margin < 0 → m.role = 0 → 2 ≤ m.mode → m.mode ≤ 4 → m.on F.redStatusArmed = false → (m.at now).atExchange = false →
      Runs (.paceMeasurement ⟨now, margin⟩) s fun t => t.mode = 5 ∧ t.nat F.modStatusSafeCause = 1 ∧ 5 ∈ t.hlt.latched) ∧
    (m.run.paceNeg = true → margin < 0 → m.mode ≠ 0 → (m.at now).atExchange = true → Runs (.paceMeasurement ⟨now, margin⟩) s fun t =>
      t.run.paceDue = true ∧ t.mode = m.mode ∧ t.role = m.role ∧ t.holds = m.holds)

/-! ### Port P3 -/

/-- R317, R318, R324, R365: port P3 answers ARP and ICMP for its own address only; the Modbus server takes a connection while it is enabled and holds fewer
than 8, else resets it; a NET fault closes what P3 and CAN carried. While NET is off or no address is set, nothing is answered. -/
def Obligations.NetPort : Prop :=
  ∀ (s : State) (ip : Word) (conn : Nat), s.m.aon.powered = true → let m := s.m
    let on := m.mode ≠ 0 ∧ m.domainOn 4 = true; let live := on ∧ m.ownIp ≠ 0#32
    let same (c : Instr) : Prop := Runs c s fun t => m.Only t [] ∧ m.Silent t
    let sends (c : Instr) (o : Out) : Prop := Runs c s fun t => ({ m with out := m.out ++ [o] } : M).Only t [] ∧ m.Silent t
    (live → ip = m.ownIp → sends (.arpRequest ip) .arp ∧ sends (.icmpEcho ip) .icmp) ∧
    (¬live ∨ ip ≠ m.ownIp → same (.arpRequest ip) ∧ same (.icmpEcho ip)) ∧
    (on → Runs .p3DroppedFrame s fun t => t.nat F.netP3StatDropped = min 65535 (m.nat F.netP3StatDropped + 1) ∧ m.Only t [F.netP3StatDropped] ∧ m.Silent t) ∧
    (¬on → same .p3DroppedFrame ∧ same .netFault) ∧
    (on → Runs .netFault s fun t => t.net.conns = [] ∧ (∀ x ∈ t.net.sessions, x.usb = true) ∧ t.fifos = [] ∧ t.boxes = [] ∧
      (∀ p, p < 2 → t.nat (F.canStatState p) = 3) ∧ t.on F.netP3StatLink = false ∧ t.on F.ptpStatSynced = false ∧ 23 ∈ t.hlt.latched ∧ t.mem = m.mem ∧
      t.mode = m.mode ∧ t.role = m.role ∧ t.holds = m.holds ∧ (m.domainOn 1 = true → m.log.queue.length < 1024 → ∃ y ∈ t.log.queue, y.event = ev 0x0060 0x5074)) ∧
    (live → conn ∉ m.net.conns → m.cfgOn F.mbCfgEnable = true → m.net.conns.length < 8 → Runs (.modbusConnect conn) s fun t =>
      ({ m with net := { m.net with conns := m.net.conns ++ [conn] } } : M).Only t [] ∧ m.Silent t) ∧
    (live → conn ∉ m.net.conns → m.cfgOn F.mbCfgEnable = false ∨ 8 ≤ m.net.conns.length → sends (.modbusConnect conn) (.reset 502)) ∧
    (¬live ∨ conn ∈ m.net.conns → same (.modbusConnect conn)) ∧
    Runs (.modbusIdleTimeout conn) s (fun t => ({ m with net := { m.net with
        conns := m.net.conns.filter (· != conn), writes := m.net.writes.filter fun w => w.conn != conn } } : M).Only t [] ∧ m.Silent t)

/-- R21, R94, R319 to R324: Modbus requests. A read is answered at once from the server image, a request with an exception likewise, with its code: 6 for every
write in priming and in roles without writes, 3 for a quantity or byte count, 2 for a range beyond its table, 4 beyond the allowance; any other function code has
exception 1. A write without an exception, and whatever stands behind an earlier request of its connection, waits for a snapshot (the order of the
exceptions is log entry 14, a coil's two values log entry 15, the padding that A_MB counts log entry 93). The reply echoes the unit identifier. -/
def Obligations.ModbusRequests : Prop :=
  ∀ (s : State) (r : MbReq) (fn v n n2 rs rn : Nat) (bytes : Nat) (vs : List Nat), s.m.aon.powered = true → let m := s.m
    m.mode ≠ 0 → m.domainOn 4 = true → m.ownIp ≠ 0#32 → r.conn ∈ m.net.conns →
    let wait := ∃ w ∈ m.net.writes, w.conn = r.conn
    let answers (c : Instr) (fn ex : Nat) (values : List Nat) : Prop := Runs c s fun t => m.Silent t ∧
      t.nat F.mbStatRequests = (m.nat F.mbStatRequests + 1) % 65536 ∧
      t.nat F.mbStatExceptions = (if ex = 0 then m.nat F.mbStatExceptions else min 4095 (m.nat F.mbStatExceptions + 1)) ∧
      ({ m with out := m.out ++ [.modbus r.conn r.tag r.unit fn ex values] } : M).Only t [F.mbStatRequests, F.mbStatExceptions]
    let waits (c : Instr) (fn ex : Nat) (values : List Nat) (part : Option (Nat × Nat)) : Prop := Runs c s fun t => m.Silent t ∧
      ({ m with net := { m.net with writes := m.net.writes ++
        [{ fn := fn, ex := ex, conn := r.conn, tag := r.tag, start := r.start, values := values, readPart := part, unit := r.unit }] } } : M).Only t []
    let read (c : Instr) (fn most : Nat) : Prop := let ex := if n = 0 ∨ most < n then 3 else m.mbRange fn r.start n
      (¬wait → answers c fn ex (if ex = 0 then m.mbRead fn r.start n else [])) ∧ (wait → waits c fn ex (if ex = 0 then List.replicate n 0 else []) none)
    let write (c : Instr) (fn size : Nat) (bad : Prop) (n : Nat) (values : List Nat) (part : Option (Nat × Nat)) : Prop :=
      let own := m.mode ≠ 1 ∧ (m.role = 0 ∨ m.role = 1 ∨ m.role = 4)
      (¬own → ¬wait → answers c fn 6 []) ∧
      (own → bad → ¬wait → answers c fn 3 []) ∧
      (own → ¬bad → m.mbRange fn r.start n = 2 ∨ (∃ a k, part = some (a, k) ∧ m.mbRange 3 a k = 2) → ¬wait → answers c fn 2 []) ∧
      (own → ¬bad → m.mbRange fn r.start n = 0 → (∀ a k, part = some (a, k) → m.mbRange 3 a k = 0) →
        (m.aMb < (size + 3) / 4 * 4 + 8 → ¬wait → answers c fn 4 []) ∧ ((size + 3) / 4 * 4 + 8 ≤ m.aMb → waits c fn 0 values part))
    read (.readCoils r n) 1 2000 ∧ read (.readDiscreteInputs r n) 2 2000 ∧ read (.readHoldingRegisters r n) 3 125 ∧ read (.readInputRegisters r n) 4 125 ∧
    write (.writeSingleCoil r v) 5 1 (v ≠ 0xFF00 ∧ v ≠ 0) 1 [boolNat (v == 0xFF00)] none ∧
    write (.writeSingleRegister r v) 6 2 False 1 [v % 65536] none ∧
    write (.writeMultipleCoils r n bytes vs) 15 ((n + 7) / 8) (n = 0 ∨ 1968 < n ∨ bytes ≠ (n + 7) / 8 ∨ vs.length ≠ n) n (vs.map (· % 2)) none ∧
    write (.writeMultipleRegisters r n bytes vs) 16 (2 * n) (n = 0 ∨ 123 < n ∨ bytes ≠ 2 * n ∨ vs.length ≠ n) n (vs.map (· % 65536)) none ∧
    write (.readWriteMultipleRegisters r rs rn n2 bytes vs) 23 (2 * n2)
      (n2 = 0 ∨ 121 < n2 ∨ bytes ≠ 2 * n2 ∨ vs.length ≠ n2 ∨ rn = 0 ∨ 125 < rn) n2 (vs.map (· % 65536)) (some (rs, rn)) ∧
    (¬wait → answers (.modbusUnsupportedFunction r fn) fn 1 [])

/-- R325, R326, R328, R389: PTP. The best of the masters heard is measured from the start; Delay_Req, Delay_Resp and the two-step Sync advance the port, and the path
delay is the mean of both ways; the offset is the arrival less the origin, the corrections and that delay, with timestamps to 8 ns. Ten seconds within 1 µs gain
synchronisation, an offset beyond 10 µs or 3 s without Sync lose it, and with it quality 4. The clock of a synchronised module steps, with
CLOCK_STEPPED, on an error beyond 1 ms or from quality 0 or 1. (The order in which masters compare is that of IEEE 1588: log entry 92.) -/
def Obligations.PtpPort : Prop :=
  ∀ (s : State) (dom who : Nat) (x : PtpMeas) (g : PtpMaster) (y : PtpDelay), s.m.aon.powered = true → let m := s.m; let a := m.at x.now; let port := m.nat F.ptpStatPortState
    let hears := m.ptpOn = true ∧ dom = m.nat F.ptpCfgDomain; let mine := hears ∧ m.net.ptpMaster = some who; let live := port = 2 ∨ port = 3
    let same (c : Instr) : Prop := Runs c s fun t => m.Only t [] ∧ m.Silent t; let follows := m.role = 2 ∨ m.role = 3
    let lost (t : M) : Prop := t.on F.ptpStatSynced = false ∧ (m.on F.ptpStatSynced = true → m.nat F.wallQualQuality = 4 → t.nat F.wallQualQuality = 3)
    let stamped (n : Nat) : Int := (n / 8 * 8 : Nat) + m.net.ptpClock
    let measured (c : Instr) (arrival : Nat) (corr : Int) : Prop :=
      let offset := stamped arrival - x.origin - corr - m.net.ptpDelay; let time : DWord := BitVec.ofInt 64 (a.aon.now + m.net.ptpClock - offset); let err := (time - a.wall).toInt
      let off := BitVec.ofInt 32 (max (-2147483647) (min 2147483647 offset)); let near := -1000 ≤ offset ∧ offset ≤ 1000; let far := offset < -10000 ∨ 10000 < offset
      (far → Runs c s fun t => t.reg F.ptpOffset = off ∧ lost t ∧ t.wall = a.wall ∧ t.net.inBand = none ∧ m.Silent t) ∧
      (near → port = 3 → m.on F.ptpStatSynced = false → (∀ t0, m.net.inBand = some t0 → a.aon.now < t0 + 10000000000) → Runs c s fun t =>
        t.reg F.ptpOffset = off ∧ t.net.inBand = some (m.net.inBand.getD a.aon.now) ∧ t.on F.ptpStatSynced = false ∧ t.wall = a.wall ∧ m.Silent t) ∧
      (near → port = 3 → (∃ t0, m.net.inBand = some t0 ∧ t0 + 10000000000 ≤ a.aon.now) → ¬follows →
        m.nat F.wallQualQuality ≤ 1 ∨ err < -1000000 ∨ 1000000 < err → Runs c s fun t => t.reg F.ptpOffset = off ∧ t.on F.ptpStatSynced = true ∧
          t.wall = time ∧ t.nat F.wallQualQuality = 4 ∧ ({ a with aon := { a.aon with wallOff := t.aon.wallOff } } : M).Raised t
            { source := 0x0080#16, code := 0x1004#16, p0 := a.wall.lo, p1 := a.wall.hi, p2 := time.lo, p3 := time.hi }) ∧
      (¬far → m.on F.ptpStatSynced = true → ¬follows → 2 ≤ m.nat F.wallQualQuality → -1000000 ≤ err → err ≤ 1000000 → Runs c s fun t =>
        t.reg F.ptpOffset = off ∧ t.on F.ptpStatSynced = true ∧ t.nat F.wallQualQuality = 4 ∧ m.Silent t ∧
        ∃ d : Int, t.aon.wallOff = m.aon.wallOff + d ∧ d.natAbs ≤ err.natAbs ∧ 0 ≤ d * err ∧ (d.natAbs : Int) * 1000000 ≤ 50 * ((a.aon.now - m.net.ptpSince : Nat) : Int))
    (hears → 1 ≤ port → port ≤ 3 → Runs (.ptpAnnounce dom g) s fun t => m.Silent t ∧ (t.nat F.ptpStatPortState = 2 ∨ t.nat F.ptpStatPortState = port) ∧
      (∀ z, z ∈ t.net.masters ↔ z = g ∨ (z ∈ m.net.masters ∧ z.sender ≠ g.sender)) ∧
      ∃ b ∈ t.net.masters, (∀ z ∈ t.net.masters, ranksBefore (ptpRanks z) (ptpRanks b) = false) ∧ t.net.ptpMaster = some b.sender ∧
        (m.net.ptpMaster ≠ some b.sender ∨ port = 1 → t.nat F.ptpStatPortState = 2 ∧ t.net.inBand = none ∧ t.net.delayAsked = false ∧ t.net.twoStepOpen = false)) ∧
    (¬hears ∨ port = 0 ∨ 3 < port → same (.ptpAnnounce dom g)) ∧
    (m.ptpOn = true → live → Runs .delayReqTimer s fun t => m.Silent t ∧
      ({ m with net := { m.net with delayAsked := true }, out := m.out ++ [.delayReq] } : M).Only t []) ∧
    (m.ptpOn = false ∨ ¬live → same .delayReqTimer) ∧
    (m.netOn = false ∨ m.on F.ptpCfgPtpEn = false ∨ ¬live → same .ptpSyncTimeout) ∧
    (m.netOn = true → m.on F.ptpCfgPtpEn = true → live → Runs .ptpSyncTimeout s fun t => lost t ∧ t.nat F.ptpStatPortState = 2 ∧ t.net.masters = [] ∧ m.Silent t) ∧
    (hears → m.net.ptpMaster = some y.master → m.net.delayAsked = true → Runs (.ptpDelayResp dom y) s fun t =>
      t.nat F.ptpStatPortState = (if port = 2 then 3 else port) ∧ m.Silent t ∧
      ({ m with net := { m.net with delayAsked := false, ptpDelay := (m.net.ptpDiff + (y.receive - y.correction - stamped y.sent)) / 2 } } : M).Only t [F.ptpStatPortState]) ∧
    (¬hears ∨ m.net.ptpMaster ≠ some y.master ∨ m.net.delayAsked = false → same (.ptpDelayResp dom y)) ∧
    (mine → live → Runs (.ptpSync dom who true x) s fun t =>
      ({ m with net := { m.net with twoStepOpen := true, syncAt := x.now, syncCorr := x.correction } } : M).Only t [] ∧ m.Silent t) ∧
    (mine → live → measured (.ptpSync dom who false x) x.now x.correction ∧
      (m.net.twoStepOpen = true → measured (.ptpFollowUp dom who x) m.net.syncAt (m.net.syncCorr + x.correction))) ∧
    (¬mine ∨ ¬live → same (.ptpSync dom who true x) ∧ same (.ptpSync dom who false x) ∧ same (.ptpFollowUp dom who x)) ∧
    (m.net.twoStepOpen = false → same (.ptpFollowUp dom who x))

/-! ### The ring -/

/-- R300, R302, R305, R306, R312, R317: the ring ports beside station frames. A frame of no use is counted, and forwarded unless it is of another
EtherType or its HOPS, one less, are used up; a searched station is asked again, one whose conflict ended is searched; the ring is CLOSED while a frame of this
controller came both ways within 10 ms, OPEN while some came, else UNKNOWN, with the event of a change; link states follow the ports. With NET off or in
RESET nothing happens but a link going down. -/
def Obligations.RingPorts : Prop :=
  ∀ (s : State) (port hops n now : Nat) (drop gig : Bool), s.m.aon.powered = true → n < 64 → let m := s.m
    let on := m.domainOn 4 = true ∧ m.mode ≠ 0; let same (c : Instr) : Prop := Runs c s fun t => m.Only t [] ∧ m.Silent t
    let asks (m : M) : M := if m.domainOn 4 = true ∧ m.ringSends = true then
        { m with ring := { m.ring with seq := (m.ring.seq + 1) % 65536 }, out := m.out ++ [.wazar (m.identFrame n)] } else m
    let now1 := max m.aon.now now; let s1 := recentSeen now1 m.ring.seen1; let s2 := recentSeen now1 m.ring.seen2; let st := m.nat F.rioStatRingState
    let seen : M := { m.at now with ring := { m.ring with seen1 := s1, seen2 := s2 } }
    (on → Runs (.unknownFrame port hops drop) s fun t => t.nat F.rioStatUnknownFrames = min 65535 (m.nat F.rioStatUnknownFrames + 1) ∧ m.Silent t ∧
      ({ m with out := if drop = true ∨ hops ≤ 1 then m.out else m.out ++ [.wazarForward (3 - port) (hops - 1)] } : M).Only t [F.rioStatUnknownFrames]) ∧
    (¬on → same (.unknownFrame port hops drop) ∧ same (.ethernetLinkUp port gig) ∧ same (.identReqTimer n) ∧ same (.rioRingOpen now)) ∧
    (on → m.nat (F.rioStnStatState n) = 1 ∨ m.nat (F.rioStnStatState n) = 3 → Runs (.identReqTimer n) s fun t => (asks m).Only t [] ∧ m.Silent t) ∧
    (m.nat (F.rioStnStatState n) ≠ 1 → m.nat (F.rioStnStatState n) ≠ 3 → same (.identReqTimer n)) ∧
    (m.nat (F.rioStnStatState n) = 4 → Runs (.conflictEnd n) s fun t => t.nat (F.rioStnStatState n) = 1 ∧ m.Silent t ∧
      t.out = (asks m).out ∧ t.ring = (asks m).ring ∧ t.mem = m.mem ∧ t.mode = m.mode) ∧
    (m.nat (F.rioStnStatState n) ≠ 4 → same (.conflictEnd n)) ∧
    (on → bothWays s1 s2 = true → Runs (.rioRingOpen now) s fun t => seen.Only t [] ∧ m.Silent t) ∧
    (on → bothWays s1 s2 = false → Runs (.rioRingOpen now) s fun t => let new := if s1 = [] ∧ s2 = [] then 0 else 2
      t.nat F.rioStatRingState = new ∧ seen.Only t [F.rioStatRingState] ∧
      if new = 2 ∧ st ≠ 2 then seen.Raised t (ev 0x0440 0x3410) else m.Silent t) ∧
    (on → Runs (.ethernetLinkUp 1 gig) s (fun t => ({ m with ring := { m.ring with link1 := true } } : M).Only t [] ∧ m.Silent t) ∧
      Runs (.ethernetLinkUp 2 gig) s (fun t => ({ m with ring := { m.ring with link2 := true } } : M).Only t [] ∧ m.Silent t) ∧
      Runs (.ethernetLinkUp 3 gig) s (fun t => t.on F.netP3StatLink = true ∧ t.on F.netP3StatSpeed1g = gig ∧
        m.Only t [F.netP3StatLink, F.netP3StatSpeed1g] ∧ m.Silent t)) ∧
    Runs (.ethernetLinkDown 1) s (fun t => ({ m with ring := { m.ring with link1 := false } } : M).Only t [] ∧ m.Silent t) ∧
    Runs (.ethernetLinkDown 2) s (fun t => ({ m with ring := { m.ring with link2 := false } } : M).Only t [] ∧ m.Silent t) ∧
    Runs (.ethernetLinkDown 3) s (fun t => t.on F.netP3StatLink = false ∧ m.Only t [F.netP3StatLink] ∧ m.Silent t)

/-- R302, R304 to R307, R312, R313: frames of stations. A duplicate or old copy is counted and otherwise ignored; an identification makes a declared station
RUNNING, or MISMATCH with its event where a slot differs; START from a RUNNING station is a restart; two originators of one address within 100 ms are a
CONFLICT; a RUNNING station's record with a new version, and a right CRC, is kept as its module's newest, and one whose CRC fails is counted and discarded; an
acknowledged output version ends START; a frame of another controller is reported once in 10 s. (A frame is the module's own by its source address: log entry 91.) -/
def Obligations.RingStations : Prop :=
  ∀ (s : State) (x : WazarIn) (y : WazarIdent) (h : WazarHead) (r : RioRecord) (d : ModuleDecl) (j : Nat), s.m.aon.powered = true → let m := s.m
    m.domainOn 4 = true → m.mode ≠ 0 → let n := x.head.stn; n < 64 → let at1 := max m.aon.now x.head.now; let st := m.nat (F.rioStnStatState n)
    let old (h : WazarHead) := m.freshFrame h = none; let alone (h : WazarHead) := ∀ e ∈ (m.stn h.stn).claims, e.1 = h.mac ∨ e.2 + 100000000 < max m.aon.now h.now
    let forwards (h : WazarHead) (t : M) : Prop := t.out = if h.mac = m.ownMac ∨ h.hops ≤ 1 then m.out else m.out ++ [.wazarForward (3 - h.port) (h.hops - 1)]
    let ignored (c : Instr) (h : WazarHead) : Prop := Runs c s fun t => t.nat F.rioCntDuplicates = (m.nat F.rioCntDuplicates + 1) % 65536 ∧ forwards h t ∧
      t.ring.stations = m.ring.stations ∧ t.ring.mods = m.ring.mods ∧ t.ring.heard = m.ring.heard ∧ t.mem = m.mem
    (old x.head → ignored (.wazarIn x) x.head) ∧ (old y.head → ignored (.wazarIdentRsp y) y.head) ∧
    (old h → h.mac ≠ m.ownMac → ignored (.wazarOutReceived h) h) ∧
    (¬old y.head → y.head.stn = n → m.on (F.rioStnCfgPresent n) = true → alone y.head → st ≠ 4 → ¬(y.head.start = true ∧ st = 2) →
      (m.slotDiffers n y.records = none → Runs (.wazarIdentRsp y) s fun t => t.nat (F.rioStnStatState n) = 2 ∧ forwards y.head t ∧ t.mem = m.mem) ∧
      (∀ slot, m.slotDiffers n y.records = some slot → st ≠ 3 → Runs (.wazarIdentRsp y) s fun t => t.nat (F.rioStnStatState n) = 3 ∧ t.mem = m.mem ∧
        (m.domainOn 1 = true → m.log.queue.length < 1023 → ∃ z ∈ t.log.queue, z.event = ev (0x0400 + n) 0x3403 n slot))) ∧
    (¬old x.head → m.on (F.rioStnCfgPresent n) = true → alone x.head → st = 2 → x.head.start = true → Runs (.wazarIn x) s fun t =>
      t.nat (F.rioStnStatState n) = 1 ∧ t.nat (F.rioStnCntRestarts n) = min 65535 (m.nat (F.rioStnCntRestarts n) + 1) ∧ t.mem = m.mem) ∧
    (¬old x.head → m.on (F.rioStnCfgPresent n) = true → ¬alone x.head → st ≠ 4 → Runs (.wazarIn x) s fun t => t.nat (F.rioStnStatState n) = 4 ∧
      t.mem = m.mem ∧ (m.domainOn 1 = true → m.log.queue.length < 1023 → ∃ z ∈ t.log.queue, z.event.source = BitVec.ofNat 16 (0x0400 + n) ∧ z.event.code = 0x3404#16)) ∧
    (¬old x.head → m.on (F.rioStnCfgPresent n) = true → alone x.head → st = 2 → x.head.start = false → x.records = [r] → recordOk r x.head = true →
      m.modules.find? (fun e => e.1.station == n && e.1.slot == r.slot && e.1.inWords == r.words.length) = some (d, j) →
      ((m.rmod j).kept.head?.map (·.version)) ≠ some r.version → Runs (.wazarIn x) s fun t =>
        (t.rmod j).kept = (r :: (m.rmod j).kept).take 4 ∧ (t.rmod j).time = at1 ∧ (t.rmod j).fresh = true ∧ (∀ k, k ≠ j → t.rmod k = m.rmod k) ∧
        t.on (F.rioStnStatLinkA n) = x.linkA ∧ t.on (F.rioStnStatLinkB n) = x.linkB ∧ t.nat (F.rioStnStatState n) = 2 ∧ t.mem = m.mem ∧
        (x.acked = m.nat (F.rioStnStatOutVersion n) → (t.stn n).ackOk = true ∧ (t.stn n).needStart = false)) ∧
    (¬old x.head → m.on (F.rioStnCfgPresent n) = true → alone x.head → st = 2 → x.head.start = false → x.records = [r] → recordOk r x.head = false →
      Runs (.wazarIn x) s fun t => (∀ k, t.rmod k = m.rmod k) ∧ t.nat F.rioCntRecordCrcFails = min 65535 (m.nat F.rioCntRecordCrcFails + 1) ∧ t.mem = m.mem ∧
        (m.domainOn 1 = true → m.log.queue.length < 1023 → ∃ z ∈ t.log.queue, z.event = ev (0x0400 + n) 0x1402 n r.slot)) ∧
    (¬old h → h.mac ≠ m.ownMac → h.ctrl ≠ m.nat F.idStrapsStationAddr → (∀ t0, m.ring.foreignAt = some t0 → t0 + 10000000000 ≤ max m.aon.now h.now) →
      Runs (.wazarOutReceived h) s fun t => t.ring.foreignAt = some (max m.aon.now h.now) ∧ forwards h t ∧ t.mem = m.mem ∧
        (m.at h.now).Raised t (ev 0x0440 0x3412 h.ctrl))

/-! ### CAN and HART -/

/-- R282, R285, R289 to R291, R293 to R296: the CAN ports. A received frame is kept for the next cut with its timestamp, and a partner in SHADOW or JOINING gets a notice
of it; an OWNED filter that matches it reports a collision; a frame sent leaves its buffer to its replacement, and the port offers what it now holds first; the error counters make a port
error passive from 128 on and bus-off above 255, each with its event; after bus-off it recovers with both counters at 0. A port that is not in service does nothing, and one that only
listens or is bus-off counts no errors. (The steps of TEC and REC are those of ISO 11898-1, to which R295 refers: log entry 90.) -/
def Obligations.CanBus : Prop :=
  ∀ (s : State) (p b k ident : Nat) (spared : Bool) (r : CanRx), s.m.aon.powered = true → p < 2 → b < 32 → let m := s.m
    let same (c : Instr) : Prop := Runs c s fun t => m.Only t [] ∧ m.Silent t; let live := m.canLive p = true; let st := m.nat (F.canStatState p)
    let tec := m.nat (F.canStatTec p); let rec_ := m.nat (F.canStatRec p); let still := m.canListens p = true ∨ st = 2
    let x : CanFrame := { r.frame with stamp := canStamp r.sof }; let counters : List Nat := [F.canStatTec p, F.canStatRec p, F.canStatState p]
    let owned := (∃ f, f < 64 ∧ canMatches m.fields p f x = true ∧ m.on (F.canFltCfgOwned p f) = true) ∧ m.canListens p = false
    let idle := m.drives = true ∧ (m.port p).next = [] ∧ (m.port p).abort = []; let others (t : M) : Prop := ∀ q, q ≠ p → t.port q = m.port q
    let offers (t : M) : Prop := (t.port p).offered = (if t.canLive p = true ∧ m.canListens p = false ∧ t.nat (F.canStatState p) ≠ 2 then (t.port p).best else none) ∧
      t.out = m.out ++ (if (t.port p).offered = (m.port p).offered then [] else match (t.port p).offered with
        | some y => [.canOffer p y.1]
        | none => [])
    let collides (c : Instr) : Prop := Runs c s fun t => t.on (F.canFlagsIdCollision p) = true ∧
      t.nat (F.canCntErrCollisions p) = min 255 (m.nat (F.canCntErrCollisions p) + 1) ∧ others t ∧
      (m.domainOn 1 = true → m.log.queue.length < 1022 → ∃ y ∈ t.log.queue, y.event.source = BitVec.ofNat 16 (0x0300 + p) ∧ y.event.code = 0x3304#16)
    let counts (c : Instr) (tec rec_ : Nat) : Prop := ∀ new, new = (if 255 < tec then 2 else if 128 ≤ tec ∨ 128 ≤ rec_ then 1 else 0) →
      Runs c s fun t => t.nat (F.canStatTec p) = min 255 tec ∧ t.nat (F.canStatRec p) = min 255 rec_ ∧ t.nat (F.canStatState p) = new ∧ others t ∧ offers t ∧
        (new = 2 → t.on (F.canFlagsBusOffSeen p) = true ∧ t.nat (F.canCntErrBusOffs p) = min 255 (m.nat (F.canCntErrBusOffs p) + 1) ∧
          (t.port p).recovering = m.on (F.canCtrlAutoRecover p) ∧ m.Raised t (ev (0x0300 + p) 0x3302 p)) ∧
        (st ≠ 1 → new = 1 → m.Raised t (ev (0x0300 + p) 0x1301 p)) ∧ (new = st ∨ new = 0 → m.Silent t)
    let good (t : M) : Prop := t.nat (F.canStatTec p) = (if still then tec else min 255 tec) ∧
      (still → t.nat (F.canStatRec p) = rec_ ∧ t.nat (F.canStatState p) = st) ∧
      (¬still → (rec_ ≤ 127 → t.nat (F.canStatRec p) = rec_ - 1) ∧ (128 ≤ rec_ → 119 ≤ t.nat (F.canStatRec p) ∧ t.nat (F.canStatRec p) ≤ 127) ∧
        t.nat (F.canStatState p) = if 128 ≤ tec then 1 else 0)
    let calm := still ∨ (tec ≤ 255 ∧ (st = 1 ∨ tec < 128)); let silentSent := still ∨ (tec ≤ 256 ∧ (st = 1 ∨ (tec ≤ 128 ∧ rec_ < 128)))
    (live → st ≠ 2 → ¬owned → calm → Runs (.canFrameReceived p r) s fun t => m.Silent t ∧ others t ∧ good t ∧
      t.port p = { m.port p with store := (m.port p).store ++ [(x, m.stroke.toNat)] } ∧
      (if m.role = 1 ∧ (m.nat F.redStatusPartnerRole = 2 ∨ m.nat F.redStatusPartnerRole = 3) then ({ m with can := t.can } : M).ropeOut (.notice p x) else
        { m with can := t.can }).Only t (F.canTxPend p :: counters)) ∧
    (live → st ≠ 2 → owned → collides (.canFrameReceived p r)) ∧
    (¬live ∨ st = 2 → same (.canFrameReceived p r) ∧ same (.remoteFrame p) ∧ same (.protocolException p)) ∧
    (m.role = 2 ∨ m.role = 3 → Runs (.rxNotice p x) s fun t => m.Silent t ∧ others t ∧
      t.port p = { m.port p with notices := (m.port p).notices ++ [(x, m.stroke.toNat)] } ∧ ({ m with can := t.can } : M).Only t [F.canTxPend p]) ∧
    (m.role ≠ 2 → m.role ≠ 3 → same (.rxNotice p x)) ∧
    (live → st ≠ 2 → (calm → Runs (.remoteFrame p) s fun t => good t ∧ t.nat (F.canCntErrRemoteFrames p) = min 255 (m.nat (F.canCntErrRemoteFrames p) + 1) ∧
        m.Only t (F.canCntErrRemoteFrames p :: counters) ∧ m.Silent t) ∧
      Runs (.protocolException p) s (fun t => t.nat (F.canCntErrProtocolExceptions p) = min 255 (m.nat (F.canCntErrProtocolExceptions p) + 1) ∧
        m.Only t [F.canCntErrProtocolExceptions p] ∧ m.Silent t)) ∧
    ((m.port p).tx.get none b = none → same (.canFrameSent p b)) ∧
    ((m.port p).tx.get none b ≠ none → silentSent → Runs (.canFrameSent p b) s fun t => m.Silent t ∧ others t ∧
      t.nat (F.canStatTec p) = (if still then tec else min 255 (tec - 1)) ∧
      (t.port p).tx.get none b = (if m.drives then (m.port p).next.get none b else none) ∧ (t.port p).next.get none b = none ∧ b ∉ (t.port p).abort ∧
      (∀ c, c ≠ b → (t.port p).tx.get none c = (m.port p).tx.get none c ∧ (t.port p).next.get none c = (m.port p).next.get none c) ∧
      offers t ∧ ({ m with can := t.can, out := t.out } : M).Only t (F.canTxPend p :: counters)) ∧
    (live → idle → Runs (.canBusError p .arbitration) s fun t => t.port p = { m.port p with offered := (t.port p).offered } ∧ others t ∧ offers t ∧
      m.Silent t ∧ ({ m with can := t.can, out := t.out } : M).Only t [F.canTxPend p]) ∧
    (live → idle → ¬still → counts (.canBusError p (.sending spared k)) (tec + (if spared then 0 else 8) + 8 * k) rec_ ∧
      counts (.canBusError p (.receiving k)) tec (rec_ + 1 + 8 * k) ∧ counts (.txdDominantTimeout p true k) (tec + 8 + 8 * k) rec_ ∧
      counts (.txdDominantTimeout p false k) tec (rec_ + 8 + 8 * k) ∧ collides (.canBusError p (.collision ident))) ∧
    (live → idle → m.canListens p = true → ∀ e : CanError, Runs (.canBusError p e) s fun t => t.nat (F.canStatTec p) = tec ∧ t.nat (F.canStatRec p) = rec_ ∧
      t.nat (F.canStatState p) = st ∧ others t ∧ m.Silent t) ∧
    (¬live → same (.canBusError p .arbitration) ∧ same (.canBusError p (.sending spared k)) ∧ same (.canBusError p (.receiving k)) ∧
      same (.txdDominantTimeout p spared k) ∧ same (.canBusError p (.collision ident))) ∧
    (st = 2 → (m.port p).recovering = true → Runs (.canRecovered p) s fun t => t.nat (F.canStatState p) = 0 ∧ t.nat (F.canStatTec p) = 0 ∧
      t.nat (F.canStatRec p) = 0 ∧ t.port p = { m.port p with recovering := false, offered := (t.port p).offered } ∧ others t ∧ offers t ∧ m.Raised t (ev (0x0300 + p) 0x1303 p)) ∧
    (st ≠ 2 ∨ (m.port p).recovering = false → same (.canRecovered p))

/-- R272, R273, R275 to R277: HART on an analog channel whose modem works. An identification succeeds, is tried again, or ends in NO_DEVICE; a transaction
completes with its response, or after its retries with outcome 1 for no response, which starts an identification, or 2 for an error; a correct burst
frame of the identified device replaces the pending one and waits in the order of its own completion; a transaction completes once. A command above 255 goes as command 31 with its number before the data (log entry 27). What no attempt waits for is ignored. -/
def Obligations.HartChannels : Prop :=
  ∀ (s : State) (n a : Nat) (f : HartFrame) (x : HartTx), s.m.aon.powered = true → n < 16 → let m := s.m; let c := m.hartGet n
    let same (c : Instr) : Prop := Runs c s fun t => m.Only t [] ∧ m.Silent t; let on := m.hartActive n = true; let dev := m.nat (F.hartStatDevice n)
    let frame (long : Option Nat) (command : Nat) (data : List Byte) : Out := .hart n {
        long := long, poll := m.nat (F.hartCfgPollAddr n), secondary := m.on (F.hartCfgMaster n)
        preambles := m.nat (F.hartCfgPreambles n), command := command, data := data }
    let poll := frame none 0 []; let uid := f.uid % 2 ^ 38
    let ask := if 255 < x.command then frame c.uid 31 ([BitVec.ofNat 8 (x.command / 256), BitVec.ofNat 8 x.command] ++ x.data.take 253) else frame c.uid x.command x.data
    let most := m.nat (F.hartCfgRetries n); let others (t : M) : Prop := ∀ k, k ≠ n → t.hartGet k = m.hartGet k
    let counted (t : M) (k : Nat) : Prop := t.nat k = min 255 (m.nat k + 1) ∧ others t
    let refind (i : Instr) (k : Nat) : Prop := Runs i s fun t => counted t k ∧
      (a + 1 ≤ most → t.hartGet n = { c with identify := some (a + 1) } ∧ t.out = m.out ++ [poll] ∧ m.Silent t) ∧
      (most < a + 1 → (t.hartGet n).identify = none ∧ t.nat (F.hartStatDevice n) = 3 ∧ t.out = m.out ∧
        (if dev = 3 then m.Silent t else m.Raised t (ev (0x0240 + n) 0x3221 n)) ∧
        (c.tx = some x → x.done = false → (t.hartGet n).result = some (1, hartBlank x.command) ∧ t.hartQ = m.hartQ ++ [(n, 0)]))
    (¬on → same (.hartResponse n f) ∧ same (.hartRt1Timeout n) ∧ same (.hartIdentifyTimer n) ∧ same (.hartBurstFrame n f)) ∧
    (c.identify = none → c.tx = none → same (.hartResponse n f) ∧ same (.hartRt1Timeout n)) ∧
    (on → c.identify = some a → f.ok = true → Runs (.hartResponse n f) s fun t => t.nat (F.hartStatDevice n) = 2 ∧ t.reg (F.hartUidLo n) = word uid ∧
      t.nat (F.hartUidHi n) = uid / 4294967296 ∧ (t.hartGet n).uid = some uid ∧ (t.hartGet n).identify = none ∧ others t ∧ (c.tx = none → t.out = m.out) ∧
      if c.uid.isSome = true ∧ c.uid ≠ some uid then m.Raised t (ev (0x0240 + n) 0x1220 n) else m.Silent t) ∧
    (on → c.identify = some a → (f.ok = false → refind (.hartResponse n f) (F.hartStatCommErrors n)) ∧ refind (.hartRt1Timeout n) (F.hartStatNoResponse n)) ∧
    (on → c.identify = none → c.tx = some x → x.sent = false → same (.hartResponse n f) ∧ same (.hartRt1Timeout n)) ∧
    (on → c.identify = none → c.tx = some x → x.sent = true → x.done = false →
      (f.ok = true → Runs (.hartResponse n f) s fun t => t.hartGet n = { c with tx := some { x with sent := false, done := true }, result := some (0, f) } ∧ others t ∧ m.Silent t ∧
        ({ m with hart := t.hart, hartQ := m.hartQ ++ [(n, 0)] } : M).Only t []) ∧
      (f.ok = false → Runs (.hartResponse n f) s fun t => counted t (F.hartStatCommErrors n) ∧ m.Silent t ∧
        (most < x.attempts + 1 → (t.hartGet n).result = some (2, hartBlank x.command) ∧ t.hartQ = m.hartQ ++ [(n, 0)] ∧ t.out = m.out) ∧
        (x.attempts + 1 ≤ most → dev = 2 → (t.hartGet n).tx = some { x with attempts := x.attempts + 1 } ∧
          t.out = m.out ++ [ask])) ∧
      Runs (.hartRt1Timeout n) s (fun t => counted t (F.hartStatNoResponse n) ∧ m.Silent t ∧ (t.hartGet n).identify = some 0 ∧ t.out = m.out ++ [poll] ∧
        t.nat (F.hartStatDevice n) = (if dev = 3 then 3 else 1) ∧
        (most < x.attempts + 1 → (t.hartGet n).result = some (1, hartBlank x.command) ∧ t.hartQ = m.hartQ ++ [(n, 0)]) ∧
        (x.attempts + 1 ≤ most → (t.hartGet n).tx = some { x with attempts := x.attempts + 1, sent := false } ∧ t.hartQ = m.hartQ))) ∧
    (on → dev = 3 → c.identify = none → Runs (.hartIdentifyTimer n) s fun t => t.hartGet n = { c with identify := some 0 } ∧ others t ∧ m.Silent t ∧
      ({ m with hart := t.hart, out := m.out ++ [poll] } : M).Only t []) ∧
    (dev ≠ 3 ∨ c.identify.isSome = true → same (.hartIdentifyTimer n)) ∧
    (on → f.ok = true → m.on (F.hartCfgBurstEn n) = true → dev = 2 → c.uid = some uid → Runs (.hartBurstFrame n f) s fun t =>
      t.hartGet n = { c with burst := some f } ∧ others t ∧ m.Silent t ∧
      ({ m with hart := t.hart, hartQ := m.hartQ.erase (n, 1) ++ [(n, 1)] } : M).Only t [F.hartBurst3Lost n] ∧
      t.nat (F.hartBurst3Lost n) = if c.burst = none then m.nat (F.hartBurst3Lost n) else min 65535 (m.nat (F.hartBurst3Lost n) + 1)) ∧
    (f.ok = false ∨ m.on (F.hartCfgBurstEn n) = false ∨ dev ≠ 2 ∨ c.uid ≠ some uid → same (.hartBurstFrame n f))

/-! ### The digital wellhead -/

/-- R233, R234, R239 to R241, R243, R245: the digital channels at the DW island. A sample goes through the filter, whose time of F asks for F / 10 µs + 1
samples that show a new state; a thermal shutdown switches a channel off until its retry, the fourth one latches it off; a group overcurrent switches
off what is in current limit; a group whose supply is lost has its outputs off until it is restored. With what a channel is then commanded to, EXTERNAL_DRIVE
and SWITCH_FAULT end where they no longer apply. Settings of CONFIG count from the first commit on (R116). Nothing else of the module changes at that moment. -/
def Obligations.DigitalChannels : Prop :=
  ∀ (s : State) (x : DioMeas) (n g : Nat), s.m.aon.powered = true → n < 32 → g < 4 → let m := s.m
    let same (c : Instr) : Prop := Runs c s fun t => m.Only t [] ∧ m.Silent t; let chan := m.dio n; let out := m.on (F.dioCfgDir n); let dir := m.cfgOn (F.dioCfgDir n)
    let within (t : M) (d : Dw) (l : List Nat) : Prop := ({ m with dw := { d with island := t.dw.island } } : M).Only t [] ∧ m.Silent t ∧ ∀ k, k ∉ l → t.isl k = m.isl k
    let puts (c : Instr) (k v : Nat) : Prop := Runs c s fun t => t.isl k = v ∧ within t m.dw [k]
    let shut (t : M) (j : Nat) : Prop := let late := decide (4 ≤ (m.dio j).retries + 1)
      t.dio j = { m.dio j with retries := (m.dio j).retries + 1 } ∧ t.isl (F.dioStatShutdowns j) = min 255 (m.isl (F.dioStatShutdowns j) + 1) ∧
      t.isl (F.dioStatThermal j) = boolNat (!late) ∧ t.isl (F.dioStatLatchedOff j) = if late then 1 else m.isl (F.dioStatLatchedOff j)
    let shutFields (j : Nat) : List Nat := [F.dioStatShutdowns j, F.dioStatThermal j, F.dioStatLatchedOff j]
    let ext := F.dioStatExternalDrive; let sw := F.dioStatSwitchFault; let flags : List Nat := (List.range 32).flatMap fun j => [ext j, sw j]
    let settled (t : M) : Prop := ∀ j, j < 32 →
      t.isl (ext j) = (if m.holds = true ∧ t.dioDrives j = some false ∧ m.on (F.dioCfgParalleled j) = false then m.isl (ext j) else 0) ∧
      t.isl (sw j) = (if m.holds = true ∧ t.dioDrives j = some true then m.isl (sw j) else 0)
    let chans (t : M) : Dw := { m.dw with chans := t.dw.chans }; let limited (j : Nat) : Prop := j / 8 = g ∧ m.isl (F.dioStatCurrentLimit j) = 1
    let grp (c : Instr) (v : Nat) : Prop := puts c (F.dioGrpState g) v; let was := m.isl (F.dioGrpState g)
    (m.dwOn = false → same (.dioSample x) ∧ same (.wireBreak n) ∧ same (.thermalShutdown n) ∧ same (.groupOvercurrent g) ∧ same (.dgSupplyLow g) ∧
      same (.dgSupplyGood g) ∧ same (.dgSupplyLost g) ∧ same (.groupRestoreTimer g)) ∧
    (m.dwOn = true → Runs (.dioSample x) s fun t =>
      let fits := filterSamples (m.cfg (F.dioCfgFilter n)).toNat
      let pin := x.pins.getD n (0, 0); let back := rawState true false chan.readback pin.1 pin.2
      let raw := rawState (m.cfgOn (F.dioCfgType n)) (m.cfgOn (F.dioCfgWbEn n)) chan.raw pin.1 pin.2
      t.dio n = { chan with raw := raw, readback := back
                            filtered := if raw ≠ chan.filtered ∧ fits ≤ chan.run + 1 then raw else chan.filtered
                            run := if raw = chan.filtered ∨ fits ≤ chan.run + 1 then 0 else chan.run + 1 } ∧
        t.isl (F.dioStatCurrentLimit n) = boolNat (dir && x.limited.getLsbD n) ∧
        t.isl (F.dioStatSwitchFault n) = (if back then 0 else m.isl (F.dioStatSwitchFault n)) ∧
        within t (chans t) ((List.range 32).flatMap fun j => [F.dioStatCurrentLimit j, F.dioStatSwitchFault j])) ∧
    (m.dwOn = true → dir = false → m.cfgOn (F.dioCfgWbEn n) = true → puts (.wireBreak n) (F.dioStatWireBreak n) 1) ∧
    (dir = true ∨ m.cfgOn (F.dioCfgWbEn n) = false → same (.wireBreak n)) ∧
    puts (.wireBreakCleared n) (F.dioStatWireBreak n) 0 ∧
    (m.dwOn = true → out = true → Runs (.thermalShutdown n) s fun t => shut t n ∧ settled t ∧ (∀ j, j ≠ n → t.dio j = m.dio j) ∧
      within t (chans t) (shutFields n ++ flags)) ∧
    (out = false → same (.thermalShutdown n)) ∧
    (m.dwOn = true → m.isl (F.dioStatThermal n) = 1 → out = true → m.dw.out.getLsbD n = true → Runs (.thermalRetry n) s fun t =>
      t.isl (F.dioStatThermal n) = 0 ∧ settled t ∧ within t m.dw (F.dioStatThermal n :: flags)) ∧
    (m.dwOn = false ∨ m.isl (F.dioStatThermal n) ≠ 1 ∨ out = false ∨ m.dw.out.getLsbD n = false → same (.thermalRetry n)) ∧
    (m.dwOn = true → Runs (.groupOvercurrent g) s fun t => (∀ j, limited j → shut t j) ∧ (∀ j, ¬limited j → t.dio j = m.dio j) ∧
      (∀ k, k ∉ flags → (∀ j, limited j → k ∉ shutFields j) → t.isl k = m.isl k) ∧ (∀ k ∈ flags, t.isl k = 0 ∨ t.isl k = m.isl k) ∧
      (∀ j, limited j → t.isl (sw j) = 0) ∧ ({ m with dw := { chans t with island := t.dw.island } } : M).Only t [] ∧ m.Silent t) ∧
    Runs (.retryCountReset n) s (fun t => t.dio n = { chan with retries := 0 } ∧ (∀ j, j ≠ n → t.dio j = m.dio j) ∧ within t (chans t) []) ∧
    (m.holds = true → m.role ≠ 2 → m.on (F.dioCfgParalleled n) = false → m.dioDrives n = some false →
      puts (.externalDrive n) (F.dioStatExternalDrive n) 1) ∧
    (m.holds = false ∨ m.role = 2 ∨ m.on (F.dioCfgParalleled n) = true ∨ m.dioDrives n ≠ some false → same (.externalDrive n)) ∧
    puts (.externalDriveCleared n) (F.dioStatExternalDrive n) 0 ∧
    (m.holds = true → m.role ≠ 2 → m.dioDrives n = some true → m.isl (F.dioStatCurrentLimit n) = 0 → puts (.switchFault n) (F.dioStatSwitchFault n) 1) ∧
    (m.holds = false ∨ m.role = 2 ∨ m.dioDrives n ≠ some true ∨ m.isl (F.dioStatCurrentLimit n) ≠ 0 → same (.switchFault n)) ∧
    (m.dwOn = true → grp (.dgSupplyLow g) (if was = 0 then 1 else was) ∧ grp (.dgSupplyGood g) (if was = 1 then 0 else was) ∧
      grp (.groupRestoreTimer g) (if was = 2 then (if (m.cfg F.dioGrpCtrlAutoRestore).getLsbD g then 0 else 3) else was) ∧
      Runs (.dgSupplyLost g) s (fun t => t.isl (F.dioGrpState g) = 2 ∧ settled t ∧
        within t { m.dw with latched := t.dw.latched } (F.dioGrpState g :: flags) ∧
        ∀ j, j ∈ t.dw.latched ↔ j = g ∨ j ∈ m.dw.latched))

/-- R231, R232, R235, R245 to R248, R250: the DW link and the encoders. A frame that fails its CRC or repeats the alive counter is only counted; a valid one
brings the island's diagnostics, states, counts and SSI results into the core's mirror and ends the link's fault; while ENC_5V is on, its OVERLOAD follows
the current. A watchdog that expires makes the wellhead BAD once, an F2 fault. A step of one line counts one up while A leads, one down while B leads; a
change of both lines is an illegal transition, and under a line fault nothing is counted. An SSI read that is clocked gives its last SSI_BITS bits, unless a data line or the encoder's lines are at fault; with
the latest frame discarded it waits for the next valid one. -/
def Obligations.DigitalLinkAndEncoders : Prop :=
  ∀ (s : State) (x : DwFrame) (n v : Nat) (a b fault : Bool), s.m.aon.powered = true → n < 4 → let m := s.m; let e := m.enc n; let mode := (m.cfg (F.encCfgMode n)).toNat
    let same (c : Instr) : Prop := Runs c s fun t => m.Only t [] ∧ m.Silent t; let at1 := max m.aon.now x.now
    let recent := m.dw.discards.filter fun t => decide (at1 < t + 1000000000); let bad := x.good = false ∨ m.dw.alive = some x.alive
    let clocked (d : Dw) : M := { m with dw := d, aon := { m.aon with now := at1 } }
    let encoder (c : Instr) (e2 : EncChan) : Prop := Runs c s fun t => t.enc n = e2 ∧ (∀ j, j ≠ n → t.enc j = m.enc j) ∧ m.Silent t ∧
      ({ m with dw := { m.dw with encs := t.dw.encs } } : M).Only t []
    let island (c : Instr) (l : List (Nat × Nat)) : Prop := Runs c s fun t => (∀ p ∈ l, t.isl p.1 = p.2) ∧ (∀ k, k ∉ l.map (·.1) → t.isl k = m.isl k) ∧ m.Silent t ∧
      ({ m with dw := { m.dw with island := t.dw.island } } : M).Only t []
    let shown (j : Nat) : List Nat := [F.dioStatShutdowns j, F.dioStatSwitchFault j, F.dioStatExternalDrive j, F.dioStatLatchedOff j, F.dioStatThermal j,
      F.dioStatCurrentLimit j, F.dioStatWireBreak j]
    (m.dwOn = false → Runs (.dwLinkFrame x) s fun t => (clocked m.dw).Only t [F.wallLo, F.wallHi] ∧ m.Silent t) ∧
    (m.dwOn = true → bad → Runs (.dwLinkFrame x) s fun t => t.nat F.dioLinkStatDiscards = min 255 (recent.length + 1) ∧ m.Silent t ∧
      (clocked { m.dw with lastBad := true, discards := at1 :: recent }).Only t [F.dioLinkStatDiscards, F.wallLo, F.wallHi]) ∧
    (m.dwOn = true → ¬bad → Runs (.dwLinkFrame x) s fun t => m.Silent t ∧ t.nat F.dioLinkStatDiscards = min 255 recent.length ∧
      ({ clocked { m.dw with island := t.dw.island, encs := t.dw.encs, mirror := t.dw.mirror, lastBad := false, alive := some x.alive, discards := recent
                             coreDead := false, silent := false, resumed := true }
         with hlt := { m.hlt with latched := m.hlt.latched.filter (· != 16) } } : M).Only t
        ((List.range 32).flatMap shown ++ (List.range 4).flatMap (fun g => [F.dioGrpLPlus g, F.dioGrpCurrent g, F.dioGrpState g, F.encStatLineFault g,
          F.encStatIllegalCount g]) ++ [F.encSupplyCurrentMa, F.encSupplyOn, F.encSupplyOverload, F.dioLinkStatDiscards, F.dioBad, F.dioIn, F.wallLo, F.wallHi]) ∧
      (∀ j, j < 32 → (t.reg F.dioBad).getLsbD j = t.dioBad j ∧ (t.reg F.dioIn).getLsbD j = (t.dw.mirror.getLsbD j && !t.dioBad j)) ∧
      (∀ j, j < 32 → (∀ k ∈ shown j, t.nat k = m.isl k) ∧
        t.dw.mirror.getLsbD j = if m.cfgOn (F.dioCfgDir j) then (m.dio j).readback else (m.dio j).filtered) ∧
      (∀ g, g < 4 → t.nat (F.dioGrpState g) = m.isl (F.dioGrpState g) ∧
        ∀ vv c, x.groups[g]? = some (vv, c) → t.nat (F.dioGrpLPlus g) = min 400 vv ∧ t.nat (F.dioGrpCurrent g) = min 200 c) ∧
      t.nat (F.encStatLineFault n) = m.isl (F.encStatLineFault n) ∧ t.nat (F.encStatIllegalCount n) = min 255 (m.nat (F.encStatIllegalCount n) + e.illegal) ∧
      t.enc n = { e with count := e.count + BitVec.ofInt 32 e.delta, delta := 0, seen := e.seen || decide (0 < e.illegal), illegal := 0
                         shown := e.result, shownFault := e.fault } ∧
      t.nat F.encSupplyOn = m.isl F.encSupplyOn ∧
      t.nat F.encSupplyOverload = (if m.isl F.encSupplyOn = 1 then boolNat (decide (300 < x.encMa)) else m.isl F.encSupplyOverload) ∧ t.nat F.encSupplyCurrentMa = min 500 x.encMa) ∧
    (m.dwOn = true → m.dw.coreDead = false → Runs .dwLinkLost s fun t => 16 ∈ t.hlt.latched ∧ t.nat F.dioLinkStatExpiries = min 255 (m.nat F.dioLinkStatExpiries + 1) ∧
      t.dwDead = true ∧ (m.nat F.hltCfgAutoRestart / 4 % 2 = 0 → t.reg F.dioBad = 0xFFFFFFFF#32 ∧ t.reg F.dioIn = 0#32) ∧
      (m.nat F.hltCfgAutoRestart / 4 % 2 = 0 → m.Raised t (ev 0x0060 0x5077) ∧
        ({ m with dw := { m.dw with coreDead := true, lastBad := true }, hlt := { m.hlt with latched := addOnce m.hlt.latched 16 } } : M).Only t
          [F.dioLinkStatExpiries, F.dioBad, F.dioIn])) ∧
    (m.dwOn = false ∨ m.dw.coreDead = true → same .dwLinkLost) ∧
    (m.dwOn = true → mode = 1 → m.isl (F.encStatLineFault n) = 1 → encoder (.quadratureTransition n a b) { e with a := a, b := b }) ∧
    (m.dwOn = true → mode = 1 → m.isl (F.encStatLineFault n) ≠ 1 → e.a ≠ a → e.b ≠ b → Runs (.quadratureTransition n a b) s fun t => t.enc n = { e with a := a, b := b, illegal := e.illegal + 1 } ∧
      (∀ j, j ≠ n → t.enc j = m.enc j) ∧ m.Silent t ∧ t.hlt.illegalAt.get none n = some m.aon.now ∧
      ({ m with dw := { m.dw with encs := t.dw.encs }, hlt := { m.hlt with illegalAt := t.hlt.illegalAt } } : M).Only t []) ∧
    (m.dwOn = true → mode = 1 → m.isl (F.encStatLineFault n) ≠ 1 → e.a = a ∨ e.b = b →
      let step : Int := if e.a = a ∧ e.b = b then 0 else if (e.a ≠ a) = (a ≠ b) then 1 else -1
      encoder (.quadratureTransition n a b) { e with a := a, b := b, delta := e.delta + if m.cfgOn (F.encCfgReverse n) then -step else step }) ∧
    (m.dwOn = false ∨ mode ≠ 1 → same (.quadratureTransition n a b)) ∧
    (m.ssiDrives n = some true → let w := v % 2 ^ m.nat (F.encCfgSsiBits n); let held := m.dw.lastBad || m.dw.coreDead || m.dw.silent
      let reads (r : Word) : EncChan := { e with result := r, fault := fault, shown := if held then e.shown else r, shownFault := if held then e.shownFault else fault }
      let keeps := fault = true ∨ m.isl (F.encStatLineFault n) = 1
      (keeps → encoder (.ssiReadDone n v fault) (reads e.result)) ∧ (¬keeps → m.on (F.encCfgGray n) = false → encoder (.ssiReadDone n v fault) (reads (word w))) ∧
      (¬keeps → m.on (F.encCfgGray n) = true → ∃ r, r < 2 ^ m.nat (F.encCfgSsiBits n) ∧ r ^^^ (r / 2) = w ∧
        encoder (.ssiReadDone n v fault) (reads (word r)))) ∧
    (m.ssiDrives n ≠ some true → same (.ssiReadDone n v fault)) ∧
    (m.dwOn = true → mode ≠ 0 → island (.encLineLoss n) [(F.encStatLineFault n, 1)]) ∧ (m.dwOn = false ∨ mode = 0 → same (.encLineLoss n)) ∧
    (m.isl F.encSupplyOn ≠ 0 → island (.encLineValid n) [(F.encStatLineFault n, 0)]) ∧ (m.isl F.encSupplyOn = 0 → same (.encLineValid n)) ∧
    (m.dwOn = true → island .encSupplyOverload ([(F.encSupplyOverload, 1), (F.encSupplyOn, 0)] ++
      (List.range 4).map fun j => (F.encStatLineFault j, 1))) ∧ (m.dwOn = false → same .encSupplyOverload) ∧
    (m.dwOn = true → m.isl F.encSupplyOn = 0 → island (.encSupplyRetry true) ([(F.encSupplyOverload, 0), (F.encSupplyOn, 1)] ++
      ((List.range 4).filter fun j => !m.cfgOn (F.encCfgMode j)).map fun j => (F.encStatLineFault j, 0))) ∧
    (m.dwOn = false ∨ m.isl F.encSupplyOn ≠ 0 → same (.encSupplyRetry true)) ∧ same (.encSupplyRetry false)

/-! ### The analog wellheads -/

/-- R253, R255, R263, R269, R279: the analog channels. A sample instant filters the code of an input, after the mean of 50 samples where HART is enabled, and
keeps what an output drives or its readback shows; the verifications of R263 hold only for an output that the holder drives, in the modes that make them; a loop supply
comes on from the queue one channel at a time, goes off when it is shorted, and joins the queue again. Settings of CONFIG count from the first commit on (R116). -/
def Obligations.AnalogChannels : Prop :=
  ∀ (s : State) (x : AwMeas) (n w : Nat), s.m.aon.powered = true → n < 16 → w < 2 → let m := s.m
    let same (c : Instr) : Prop := Runs c s fun t => m.Only t [] ∧ m.Silent t; let c := m.aioGet n; let f := m.aioFunc n; let ver := m.nat (F.aioCfgVerify n)
    let flags (cmd : Instr) (l : List (Nat × Bool)) : Prop := Runs cmd s fun t => (∀ p ∈ l, t.aioFlag n p.1 = p.2) ∧ m.Silent t ∧
      (∀ k, k ∉ l.map (·.1) → t.aioFlag n k = m.aioFlag n k) ∧ (∀ j, j ≠ n / 8 → t.awGet j = m.awGet j) ∧
      t.awGet (n / 8) = { m.awGet (n / 8) with island := (t.awGet (n / 8)).island } ∧ ({ m with aw := t.aw } : M).Only t []
    let chan (cmd : Instr) (j : Nat) (c2 : AioChan) : Prop := Runs cmd s fun t => t.aioGet j = c2 ∧ (∀ i, i ≠ j → t.aioGet i = m.aioGet i) ∧ m.Silent t ∧
      ({ m with aio := t.aio } : M).Only t []
    let queue (j : Nat) : Prop := j / 8 = w ∧ m.aioFunc j = 1 ∧ (m.aioGet j).queued = true; let at1 := max m.aon.now x.now
    let hart := m.cfgOn (F.hartCfgHartEn n); let fs := (m.cfg (F.aioCfgFunc n)).toNat; let code := min 262143 (x.codes.getD (n % 8) 0); let rb := x.readback.getD (n % 8) 0
    let last (v : Nat) : List Nat := (v :: c.samples).take 50; let mean (l : List Nat) : Nat := (2 * l.sum + l.length) / (2 * l.length)
    let keep (v : Nat) : AioChan := { c with hist := ((x.now, v) :: c.hist).take 4 }
    (x.w < 2 → Runs (.analogSample x) s fun t => m.Silent t ∧
      ({ m with aio := t.aio, aon := { m.aon with now := at1 } } : M).Only t [F.wallLo, F.wallHi] ∧
      (m.awOn x.w = false ∨ n / 8 ≠ x.w → t.aioGet n = c) ∧
      (m.awOn x.w = true → n / 8 = x.w →
        (fs = 0 ∨ (fs ≠ 3 ∧ m.senses = false) → t.aioGet n = c) ∧
        (fs = 3 → m.aioDriving n = false → t.aioGet n = keep 0) ∧
        (fs = 3 → m.aioDriving n = true → ver = 0 → t.aioGet n = keep (x.drive.getD (n % 8) 0)) ∧
        (fs = 3 → m.aioDriving n = true → ver ≠ 0 → t.aioGet n =
          { keep (if hart then mean (last rb) else rb) with samples := if hart then last rb else c.samples }) ∧
        (fs = 1 ∨ fs = 2 → m.senses = true → let v := if hart then mean (last code) else code; let k := (m.cfg (F.aioCfgFilter n)).toNat
          let y : Int := if k = 0 ∨ c.load = true then v * 16777216 else c.filter + (v * 16777216 - c.filter) * filterK k / 16777216
          t.aioGet n = { keep ((y + 8388608) / 16777216).toNat with samples := if hart then last code else c.samples, filter := y, load := false }))) ∧
    (m.verifies n = true → ver ≠ 1 → m.aioFlag n (F.aioStatOpenLoop n) = false → flags (.complianceShort n) [(F.aioStatComplianceShort n, true)]) ∧
    (m.verifies n = false ∨ ver = 1 ∨ m.aioFlag n (F.aioStatOpenLoop n) = true → same (.complianceShort n)) ∧
    (∀ a k, m.holds = true → m.aioTarget n = some (a, k) → 2500 ≤ k → ver ≠ 1 →
      flags (.openLoop n) [(F.aioStatOpenLoop n, true), (F.aioStatComplianceShort n, false)]) ∧
    (m.holds = false ∨ m.aioTarget n = none ∨ ver = 1 ∨ (∃ a k, m.aioTarget n = some (a, k) ∧ k < 2500) → same (.openLoop n)) ∧
    (m.verifies n = true → ver ≠ 0 → flags (.readbackFault n) [(F.aioStatReadbackFault n, true)]) ∧
    (m.verifies n = false ∨ ver = 0 → same (.readbackFault n)) ∧
    flags (.complianceShortCleared n) [(F.aioStatComplianceShort n, false)] ∧ flags (.openLoopCleared n) [(F.aioStatOpenLoop n, false)] ∧
    flags (.readbackFaultCleared n) [(F.aioStatReadbackFault n, false)] ∧
    (m.awOn w = true → m.drives = true → m.awFlag w (F.awStatResLow w) = false →
      (∀ j, queue j → (∀ i, queue i → j ≤ i) →
        chan (.supplySwitchOn w) j { m.aioGet j with queued := false, supplyOn := true, low := 0, high := 0 }) ∧
      ((∀ j, ¬queue j) → same (.supplySwitchOn w))) ∧
    (m.awOn w = false ∨ m.drives = false ∨ m.awFlag w (F.awStatResLow w) = true → same (.supplySwitchOn w)) ∧
    (c.supplyOn = true → f = 1 → m.drives = true → Runs (.supplyShort n) s fun t => t.aioGet n = { c with supplyOn := false } ∧
      (∀ i, i ≠ n → t.aioGet i = m.aioGet i) ∧ m.Silent t ∧ t.aioFlag n (F.aioStatSupplyShort n) = true ∧
      (∀ k, k ≠ F.aioStatSupplyShort n → t.aioFlag n k = m.aioFlag n k) ∧ (∀ j, j ≠ n / 8 → t.awGet j = m.awGet j) ∧
      t.awGet (n / 8) = { m.awGet (n / 8) with island := (t.awGet (n / 8)).island } ∧ ({ m with aio := t.aio, aw := t.aw } : M).Only t []) ∧
    (c.supplyOn = false ∨ f ≠ 1 ∨ m.drives = false → same (.supplyShort n)) ∧
    (m.aioFlag n (F.aioStatSupplyShort n) = true → c.supplyOn = false → f = 1 → m.drives = true → chan (.supplyRetry n) n { c with queued := true }) ∧
    (m.aioFlag n (F.aioStatSupplyShort n) = false ∨ c.supplyOn = true ∨ f ≠ 1 ∨ m.drives = false → same (.supplyRetry n)) ∧
    (c.supplyOn = true → flags (.supplyShortCleared n) [(F.aioStatSupplyShort n, false)]) ∧ (c.supplyOn = false → same (.supplyShortCleared n))

/-- R232, R266 to R268, R280: the analog wellheads' links, reservoirs and references. A good link frame brings the island's data into the core's registers and
ends the F2 fault of the wellhead; a reset of the island silences it, turns its supplies off and aborts its HART transactions; an island watchdog
sends its outputs to the alarm current; a failed reference check is an F2 fault, told once. -/
def Obligations.AnalogLink : Prop :=
  ∀ (s : State) (x : AwFrame) (n w : Nat), s.m.aon.powered = true → w < 2 → n / 8 = w → let m := s.m
    let same (c : Instr) : Prop := Runs c s fun t => m.Only t [] ∧ m.Silent t; let a := m.awGet w; let item := 17 + w; let at1 := max m.aon.now x.now
    let recent := a.discards.filter fun t => decide (at1 < t + 1000000000); let bad := x.good = false ∨ a.alive = some x.alive
    let others (t : M) : Prop := ∀ j, j ≠ w → t.awGet j = m.awGet j; let c := m.aioGet n; let h := m.hartGet n
    let latch (on : Bool) : Health := { m.hlt with latched := if on then addOnce m.hlt.latched item else m.hlt.latched.filter (· != item) }
    let clocked (t : M) : M := { m with aw := t.aw, aon := { m.aon with now := at1 } }; let calm := m.nat F.hltCfgAutoRestart / 2 ^ (3 + w) % 2 = 0
    let aborted (t : M) : Prop := (t.hartGet n).identify = none ∧ (t.hartGet n).uid = h.uid ∧
      (h.tx = none → (t.hartGet n).result = h.result ∧ (t.hartGet n).tx = none) ∧
      (∀ q, h.tx = some q → q.done = true → (t.hartGet n).result = h.result ∧ (t.hartGet n).tx = some q) ∧
      (∀ q, h.tx = some q → q.done = false → (t.hartGet n).result = some (3, hartBlank q.command) ∧
        (t.hartGet n).tx = some { q with sent := false, done := true } ∧ (n, 0) ∈ t.hartQ) ∧ ∀ k, k / 8 ≠ w → t.hartGet k = m.hartGet k
    let strap := if w = 0 then F.idStrapsAg0Alm else F.idStrapsAg1Alm; let fitted := m.aon.alm.contains w
    let flag (t : M) (k : Nat) (b : Bool) : Prop := t.awFlag w k = b ∧ t.on k = (if a.coreDead || a.silent then m.on k else b) ∧ others t ∧
      (∀ j, j ≠ k → t.awFlag w j = m.awFlag w j) ∧ t.awGet w = { a with island := (t.awGet w).island }
    (x.w = w → m.awOn w = false → Runs (.awLinkFrame x) s fun t => (clocked m).Only t [F.wallLo, F.wallHi] ∧ m.Silent t) ∧
    (x.w = w → m.awOn w = true → bad → Runs (.awLinkFrame x) s fun t => t.awGet w = { a with lastBad := true, discards := at1 :: recent } ∧ others t ∧
      t.nat (F.awStatDiscards w) = min 255 (recent.length + 1) ∧ m.Silent t ∧ (clocked t).Only t [F.awStatDiscards w, F.wallLo, F.wallHi]) ∧
    (x.w = w → m.awOn w = true → ¬bad → Runs (.awLinkFrame x) s fun t => others t ∧
      (if m.on strap = fitted then m.Silent t else (m.at x.now).Raised t (ev (0x0220 + w) 0x1214 w)) ∧
      t.on strap = fitted ∧ t.on (F.awStatAlmStrap w) = fitted ∧
      t.awGet w = { a with lastBad := false, alive := some x.alive, discards := recent, coreDead := false, silent := false, resumed := true } ∧
      t.nat (F.awStatDiscards w) = min 255 recent.length ∧ t.nat (F.awStatReservoirPct w) = min 100 x.reservoir ∧
      t.on (F.awStatResLow w) = m.awFlag w (F.awStatResLow w) ∧ t.on (F.awStatRefFault w) = m.awFlag w (F.awStatRefFault w) ∧
      t.aioGet n = { c with mirror := c.hist } ∧ (∀ i, i / 8 ≠ w → t.aioGet i = m.aioGet i) ∧
      t.on (F.aioStatSupplyShort n) = m.aioFlag n (F.aioStatSupplyShort n) ∧
      (∀ k ∈ [F.aioStatComplianceShort n, F.aioStatOpenLoop n, F.aioStatReadbackFault n], t.on k = (m.verifies n && m.aioFlag n k)) ∧
      (t.on (F.aioStatAlarmActive n) = true ↔ ∃ k, m.aioTarget n = some (true, k)) ∧
      ({ clocked t with aio := t.aio, hlt := latch false } : M).Only t ([F.awStatDiscards w, F.awStatReservoirPct w, F.awStatResLow w, F.awStatRefFault w,
        F.awStatAlmStrap w, strap, F.wallLo, F.wallHi] ++ (List.range 8).flatMap fun i => let j := 8 * w + i
          [F.aioStatSupplyShort j, F.aioStatComplianceShort j, F.aioStatOpenLoop j, F.aioStatReadbackFault j, F.aioStatAlarmActive j])) ∧
    (m.domainOn (7 + w) = true → a.coreDead = false → Runs (.awLinkLost w) s fun t => item ∈ t.hlt.latched ∧ (t.awGet w).coreDead = true ∧ others t ∧
      t.nat (F.awStatExpiries w) = min 255 (m.nat (F.awStatExpiries w) + 1) ∧
      (calm → t.awGet w = { a with coreDead := true, lastBad := true } ∧ m.Raised t (ev (0x0220 + w) 0x5210 w) ∧
        ({ m with aw := t.aw, hlt := latch true } : M).Only t [F.awStatExpiries w])) ∧
    (m.domainOn (7 + w) = false ∨ a.coreDead = true → same (.awLinkLost w)) ∧
    (m.dwOn = true → Runs (.islandWatchdogExpired 0) s fun t => m.Silent t ∧ (∀ j, j < 32 → t.isl (F.dioStatSwitchFault j) = 0) ∧
      (∀ k, k ∉ (List.range 32).flatMap (fun j => [F.dioStatExternalDrive j, F.dioStatSwitchFault j]) → t.isl k = m.isl k) ∧
      ({ m with dw := { m.dw with islandDead := true, resumed := false, island := t.dw.island } } : M).Only t []) ∧
    (m.dwOn = false → same (.islandWatchdogExpired 0)) ∧
    (m.awOn w = true → Runs (.islandWatchdogExpired (w + 1)) s fun t => t.awGet w = { a with islandDead := true, resumed := false } ∧ others t ∧ aborted t ∧
      m.Silent t ∧ ({ m with aw := t.aw, hart := t.hart, hartQ := t.hartQ } : M).Only t []) ∧
    (m.awOn w = false → same (.islandWatchdogExpired (w + 1)) ∧ same (.awReservoirLow w) ∧ same (.awIslandReset w) ∧
      same (.referenceCheck w true) ∧ same (.referenceCheck w false)) ∧
    (m.awOn w = true → m.awFlag w (F.awStatResLow w) = false → Runs (.awReservoirLow w) s fun t => flag t (F.awStatResLow w) true ∧
      m.Raised t (ev (0x0220 + w) 0x1213 w) ∧ ({ m with aw := t.aw } : M).Only t [F.awStatResLow w]) ∧
    (m.awFlag w (F.awStatResLow w) = true → same (.awReservoirLow w)) ∧
    Runs (.reservoirRecovered w) s (fun t => flag t (F.awStatResLow w) false ∧ m.Silent t ∧ ({ m with aw := t.aw } : M).Only t [F.awStatResLow w]) ∧
    (m.awOn w = true → Runs (.awIslandReset w) s fun t => others t ∧ (∀ k ∈ [F.aioStatSupplyShort n, F.aioStatComplianceShort n, F.aioStatOpenLoop n,
        F.aioStatReadbackFault n], t.awFlag w k = false) ∧
      t.awFlag w (F.awStatRefFault w) = m.awFlag w (F.awStatRefFault w) ∧ t.awFlag w (F.awStatResLow w) = m.awFlag w (F.awStatResLow w) ∧
      t.awGet w = { a with inReset := true, stagesOff := true, waitsLink := true, resumed := false, islandDead := false, lastBad := true, silent := true, island := (t.awGet w).island } ∧
      t.aioGet n = { c with load := true, samples := [], hist := [], supplyOn := false, queued := m.aioFunc n == 1 } ∧
      (∀ i, i / 8 ≠ w → t.aioGet i = m.aioGet i) ∧ aborted t ∧ t.nat (F.hartStatDevice n) = 0 ∧ m.Raised t (ev (0x0220 + w) 0x5212 w) ∧
      ({ m with aw := t.aw, aio := t.aio, hart := t.hart, hartQ := t.hartQ, hlt := latch true } : M).Only t
        ((List.range 8).map fun i => F.hartStatDevice (8 * w + i))) ∧
    (m.domainOn (7 + w) = true → a.inReset = true → Runs (.awIslandRestart w) s fun t => t.awGet w = { a with inReset := false, alive := none } ∧ others t ∧
      m.Silent t ∧ ({ m with aw := t.aw } : M).Only t []) ∧
    (m.domainOn (7 + w) = false ∨ a.inReset = false → same (.awIslandRestart w)) ∧
    (m.awOn w = true → Runs (.referenceCheck w true) s fun t => flag t (F.awStatRefFault w) false ∧ m.Silent t ∧
      ({ m with aw := t.aw, hlt := latch false } : M).Only t [F.awStatRefFault w]) ∧
    (m.awOn w = true → m.awFlag w (F.awStatRefFault w) = true → same (.referenceCheck w false)) ∧
    (m.awOn w = true → m.awFlag w (F.awStatRefFault w) = false → Runs (.referenceCheck w false) s fun t => t.awFlag w (F.awStatRefFault w) = true ∧
      item ∈ t.hlt.latched ∧ others t ∧ (calm → flag t (F.awStatRefFault w) true ∧ m.Raised t (ev (0x0220 + w) 0x5211 w) ∧
        ({ m with aw := t.aw, hlt := latch true } : M).Only t [F.awStatRefFault w]))

/-! ### The rope, joins and the bucket -/

/-- R83, R337 to R340, R365: the rope's lanes and losses. A rope that carries one lane is DEGRADED, and too slow for a pair with a manifest bound above 4096;
losing it is an F2 fault, counted, after which LEAD and a SHADOW that holds the bucket are DETACHED with it, a SHADOW without it is DETACHED and armed,
and a JOINING module primes again cold. A SHADOW more than 1 µs off at three ticks running has lost the tick, cause 5. (A refused automatic restart that
waits is requested anew at a role change, so none waits in those clauses.) -/
def Obligations.RopeLanes : Prop :=
  ∀ (s : State) (lane lost : Nat) (long : Bool) (offset adj : Int), s.m.aon.powered = true → lane < 2 → let m := s.m
    let same (c : Instr) : Prop := Runs c s fun t => m.Only t [] ∧ m.Silent t; let works := m.mode ≠ 0 ∧ m.domainOn 5 = true
    let lanes := m.nat F.redStatusLanes; let bit := lane + 1; let slow := (m.role = 1 ∨ m.role = 2 ∨ m.role = 3) ∧ 4096 < m.nat F.stkManifestBound
    let asks := m.red.ask = true ∧ (m.on F.redCfgAutoJoin = true ∨ m.aon.joinAgain = true) ∧ m.role = 4 ∧ m.holds = false ∧ m.red.noJoin = false ∧ m.red.refusal = 0
    let asked (r : Red) : M := { m with red := { r with joinAsked := true, ask := false, refusal := 0 }, aon := { m.aon with joinAgain := false }, out := m.out ++ [.join true 0] }
    let gone (c : Instr) : Prop := m.red.lost = false → m.hlt.refused = [] → Runs c s fun t => t.red.lost = true ∧ 25 ∈ t.hlt.latched ∧
      t.nat F.redCntRopeLosses = min 255 (m.nat F.redCntRopeLosses + 1) ∧ t.nat F.redStatusPartnerRole = 0 ∧ t.on F.redStatusPartnerHolds = false ∧
      (m.role = 0 ∨ m.role = 4 → t.role = m.role ∧ t.mode = m.mode ∧ t.holds = m.holds) ∧
      (m.role = 1 ∨ (m.role = 2 ∧ m.holds = true) → t.role = 4 ∧ t.nat F.redStatusLastCause = 2 ∧ t.mode = m.mode ∧ t.holds = m.holds) ∧
      (m.role = 2 → m.holds = false → t.role = 4 ∧ t.nat F.redStatusLastCause = 2 ∧ t.run.acts = [] ∧ t.on F.redStatusArmed = (m.mode != 5) ∧ t.holds = false) ∧
      (m.role = 3 → t.mode = 0 ∧ t.aon.coldAsked = true ∧ t.nat F.redJoinAbortCause = 2 ∧ t.holds = false)
    let lanesAre (t : M) (n st : Nat) (first : Bool) : Prop := t.nat F.redStatusLanes = n ∧ t.nat F.redStatusRope = st ∧
      ({ m with red := { m.red with laneLost := decide (st = 2), everUp := m.red.everUp || first, lost := m.red.lost && !first } } : M).Only t
        [F.redStatusLanes, F.redStatusRope]
    let far := 1000 < offset ∨ offset < -1000
    let steers (t : M) : Prop := t.reg F.stkTimebaseFreqAdj = BitVec.ofInt 32 (max (-5000) (min 5000 adj)) &&& 0xFFFF#32
    (¬works → same (.ropeLaneUp lane) ∧ same (.ropeLaneLost lane) ∧ same (.ropeLost long) ∧ same .ropeRestored ∧ same (.ropeCrcError lost)) ∧
    (works → lanes = 3 - bit ∨ lanes = 3 → m.red.everUp = true ∨ m.red.ask = false →
      Runs (.ropeLaneUp lane) s fun t => lanesAre t 3 1 (!m.red.everUp) ∧ m.Silent t) ∧
    (works → lanes = 3 - bit ∨ lanes = 3 → m.red.everUp = false → asks → Runs (.ropeLaneUp lane) s fun t => m.Silent t ∧ t.nat F.redStatusLanes = 3 ∧ t.nat F.redStatusRope = 1 ∧
      (asked { m.red with laneLost := false, everUp := true, lost := false }).Only t [F.redStatusLanes, F.redStatusRope]) ∧
    (works → lanes = 3 - bit ∨ lanes = 3 → m.red.everUp = false → m.red.ask = true → ¬asks → Runs (.ropeLaneUp lane) s fun t => m.Silent t ∧
      ({ m with red := { m.red with laneLost := false, everUp := true, lost := false, ask := false } } : M).Only t [F.redStatusLanes, F.redStatusRope] ∧
      t.nat F.redStatusLanes = 3 ∧ t.nat F.redStatusRope = 1) ∧
    (works → lanes = 0 ∨ lanes = bit → ¬slow ∨ m.red.lost = true → Runs (.ropeLaneUp lane) s fun t => lanesAre t bit 2 false ∧ m.Silent t) ∧
    (works → lanes = 0 ∨ lanes = bit → slow → gone (.ropeLaneUp lane)) ∧
    (works → lanes = 3 → ¬slow ∨ m.red.lost = true → Runs (.ropeLaneLost lane) s fun t => lanesAre t (3 - bit) 2 false ∧ m.Raised t (ev 0x0050 0x3061)) ∧
    (works → lanes = bit ∨ (lanes = 3 ∧ slow) → gone (.ropeLaneLost lane)) ∧
    (works → lanes = bit → m.red.lost = true → Runs (.ropeLaneLost lane) s fun t => lanesAre t 0 0 false ∧ m.Raised t (ev 0x0050 0x3061)) ∧
    (lanes = 0 ∨ lanes = 3 - bit → same (.ropeLaneLost lane)) ∧
    (works → m.red.everUp = true → gone (.ropeLost long)) ∧
    (works → m.red.everUp = false ∨ m.red.lost = true → same (.ropeLost false) ∧
      (m.nat F.redStatusRope = 1 ∨ m.on F.idStrapsPartnerPresent = false → same (.ropeLost true)) ∧
      (m.nat F.redStatusRope ≠ 1 → m.on F.idStrapsPartnerPresent = true → 2 ≤ m.mode → m.nat F.hltCfgAutoRestart / 2 % 2 = 1 → m.recentRestarts 2 < 3 →
        m.restarting 2 = false → 2 ∉ m.ctl.leftOff → m.aon.saving = 0 → Runs (.ropeLost true) s fun t => t.restarting 2 = true ∧ t.domainOn 5 = false ∧
          t.nat F.redStatusLanes = 0 ∧ t.nat F.redStatusRope = 0 ∧ t.red = m.red ∧ t.hlt.restarts = (2, m.aon.now) :: m.hlt.restarts)) ∧
    (m.nat F.redStatusRope ≠ 1 → same .ropeRestored) ∧
    (works → m.nat F.redStatusRope = 1 → let hlt := { m.hlt with latched := m.hlt.latched.filter (· != 25) }
      (¬asks → Runs .ropeRestored s fun t => ({ m with red := { m.red with lost := false, ask := false }, hlt := hlt } : M).Only t [] ∧ m.Silent t) ∧
      (asks → Runs .ropeRestored s fun t => ({ asked { m.red with lost := false } with hlt := hlt } : M).Only t [] ∧ m.Silent t)) ∧
    (works → Runs (.ropeCrcError lost) s fun t => t.nat F.redRopeCrcErrors = min 65535 (m.nat F.redRopeCrcErrors + 1) ∧
      t.nat F.redRopeFramesLost = min 65535 (m.nat F.redRopeFramesLost + lost) ∧ m.Only t [F.redRopeCrcErrors, F.redRopeFramesLost] ∧ m.Silent t) ∧
    (m.role ≠ 2 → m.role ≠ 3 → same (.tickMarker offset adj)) ∧
    (m.role = 2 ∨ m.role = 3 → ¬far ∨ m.role = 3 ∨ m.red.tickMiss < 2 → Runs (.tickMarker offset adj) s fun t => steers t ∧ m.Silent t ∧
      ({ m with red := { m.red with tickMiss := if far then m.red.tickMiss + 1 else 0 } } : M).Only t [F.stkTimebaseFreqAdj]) ∧
    (m.role = 2 → far → 2 ≤ m.red.tickMiss → m.hlt.refused = [] → Runs (.tickMarker offset adj) s fun t => steers t ∧ t.role = 4 ∧ t.nat F.redStatusLastCause = 5 ∧
      t.red.tickMiss = 0 ∧ t.holds = m.holds ∧ t.on F.redStatusArmed = if m.holds then m.on F.redStatusArmed else m.mode != 5)

/-- R36, R329, R346, R352 to R356, R360: STATUS frames and joins. A STATUS brings the partner's role, its bucket and, for a module that follows, its wall
clock; a conflict of the bucket is reported in slot A and fails slot B. A join request is answered once, with the first refusal code that applies, or
accepted: the module becomes LEAD; the joiner, in its bucket step or later, becomes JOINING, applies what TRANSFER brings, and executes the stroke of
CATCHUP if no frame is missing. A refusal ends its bucket step DETACHED. A join that takes 30 s is aborted with cause 1. -/
def Obligations.Joins : Prop :=
  ∀ (s : State) (x : RopeStatus) (c : DWord) (q : TransferSeq) (n : Nat) (bs : List Byte) (x1 : Slots) (b1 : Tab Nat) (ac : List Act) (lh : Tab LoopHidden)
    (dip : Dipper) (ff : Tab (List (CanFrame × Nat))) (bx : Tab (Option Mailbox)) (pt : Tab CanPort) (hc : Tab HartChan) (st : Tab Station)
    (ms : Tab RioMod) (ws : List (Nat × Word)) (es : List (Half × Effect)) (ls : LoopStroke) (dh : Word) (ah : Tab AioChan) (rh : Tab Word) (oh : List Nat) (tr : Transfer), s.m.aon.powered = true → let m := s.m
    let same (c : Instr) : Prop := Runs c s fun t => m.Only t [] ∧ m.Silent t; let at1 := max m.aon.now x.now; let works := m.mode ≠ 0 ∧ m.domainOn 5 = true
    let heard (t : M) : Prop := t.red.partner = some x ∧ t.nat F.redStatusPartnerRole = min 4 x.role ∧ t.on F.redStatusPartnerHolds = x.holds
    let follows := m.role = 2 ∨ m.role = 3; let straps := m.ctl.step8 = false ∨ m.red.strapsSeen = true ∨ m.ropeUp = false
    let joined := if m.ctl.step8 then { m.ctl with step8 := false, primed := true, firstCommit := true } else m.ctl
    let calm := works ∧ straps ∧ (x.holds = false ∨ m.holds = false); let leads := m.role = 1 ∧ m.red.joining = true
    let told (t : M) : Prop := t.nat F.redRopeFramesLost = min 65535 (m.nat F.redRopeFramesLost + x.lost)
    let left := m.red.flight.filter fun e => !seqUpTo e.1 x.ack
    let answers := calm ∧ x.joinReq = true ∧ m.red.answered = false ∧ m.holds = true ∧ m.mode ≠ 4 ∧ (m.role = 4 ∨ m.role = 1) ∧ m.red.joinAsked = false ∧ m.red.joining = false
    let code := if m.on F.redCfgJoinEn = false then 1 else if m.mode = 1 ∨ m.role = 1 then 2 else if x.ropeVersion ≠ m.ropeVersion then 3 else
      if x.station ≠ m.nat F.idStrapsStationAddr ∨ x.slotB = m.on F.idStrapsSlot then 4 else if x.imageId ≠ m.imageIdent then 5 else 0
    let joins := calm ∧ ¬leads ∧ x.joinReq = false ∧ m.red.joinAsked = true ∧ m.hlt.refused = []
    let counts (tr : Transfer) : Bool := tr.number.any fun n => n + m.red.unsent == totalPages
    let seen (tr : Transfer) : Red := { m.red with gap := q.gap, ack := if q.gap then m.red.ack else q.seq, unsent := if counts tr then m.red.unsent - 1 else m.red.unsent }
    let got (tr : Transfer) (t : M) : Prop := t.red = seen tr ∧ t.nat F.redRopeFramesLost = min 65535 (m.nat F.redRopeFramesLost + q.lost) ∧
      t.nat F.redJoinState = (if counts tr ∧ m.red.unsent = 1 then 2 else m.nat F.redJoinState) ∧ m.Silent t
    let takes (tr : Transfer) (u : M) : Prop := m.role = 3 → Runs (.transfer tr q) s fun t => got tr t ∧
      ({ u with red := seen tr } : M).Only t [F.redRopeFramesLost, F.redJoinState]
    (¬works → same (.ropeStatus x)) ∧
    (calm → x.joinReq = false → m.red.joinAsked = false → ¬leads → Runs (.ropeStatus x) s fun t => heard t ∧ told t ∧ m.Silent t ∧
      ({ m with red := { m.red with partner := some x, answered := false }, aon := { m.aon with now := at1, wallOff := t.aon.wallOff } } : M).Only t
        [F.redStatusPartnerRole, F.redStatusPartnerHolds, F.redRopeFramesLost, F.wallLo, F.wallHi] ∧
      (follows → m.red.tickAt ≤ at1 → t.wall = x.wall + BitVec.ofNat 64 (at1 - m.red.tickAt)) ∧ (¬follows → t.aon.wallOff = m.aon.wallOff)) ∧
    (works → straps → x.holds = true → m.holds = true → x.joinReq = false → m.red.joinAsked = false → ¬leads →
      (m.on F.idStrapsSlot = false → Runs (.ropeStatus x) s fun t => heard t ∧ m.mode = t.mode ∧ t.holds = true ∧
        (m.domainOn 1 = true → m.log.queue.length < 1024 → ∃ y, t.log.queue = m.log.queue ++ [y] ∧ y.event = ev 0x0050 0x1066)) ∧
      (m.on F.idStrapsSlot = true → 2 ≤ m.mode → m.mode < 5 → Runs (.ropeStatus x) s fun t => (t.mode = 5 ∨ t.mode = 0) ∧ t.holds = false ∧ 11 ∈ t.hlt.latched)) ∧
    (works → m.ctl.step8 = true → m.red.strapsSeen = false → m.ropeUp = true → m.holds = false → x.joinReq = false → m.red.joinAsked = false →
      (x.slotB = m.on F.idStrapsSlot → m.role ≠ 1 → Runs (.ropeStatus x) s fun t => t.nat F.modStatusStartFault = 6 ∧ t.mode = 2 ∧ t.ctl.step8 = false ∧ 29 ∈ t.hlt.latched) ∧
      (x.slotB ≠ m.on F.idStrapsSlot → x.station ≠ m.nat F.idStrapsStationAddr → m.role ≠ 1 → Runs (.ropeStatus x) s fun t => 29 ∈ t.hlt.latched ∧ heard t ∧
        t.red.strapsSeen = true ∧ t.ctl.step8 = !m.on F.idStrapsSlot ∧ (m.on F.idStrapsSlot = true → t.role = 4 ∧ t.red.noJoin = true ∧ t.ctl.primed = true))) ∧
    (answers → code ≠ 0 → code ≠ 5 → Runs (.ropeStatus x) s fun t => heard t ∧ t.red.answered = true ∧ t.red.answer = code ∧ t.out = m.out ++ [.join false code] ∧ t.role = m.role ∧
      t.red.joining = false ∧ m.Silent t) ∧
    (answers → code = 5 → Runs (.ropeStatus x) s fun t => heard t ∧ t.red.answered = true ∧ t.red.answer = 5 ∧ t.role = m.role ∧
      let g := m.store.slots.get ImgSlot.empty (1 - m.spareSlot)
      t.out = m.out ++ [.join false 5, .adopt (anchorList m.store.images) (anchorList m.store.clients) m.store.deny, .image g.total g.bytes]) ∧
    (answers → code = 0 → m.hlt.refused = [] → Runs (.ropeStatus x) s fun t => heard t ∧ t.red.answered = true ∧ t.out = m.out ++ [.join false 0] ∧ t.role = 1 ∧
      t.nat F.redStatusLastCause = 10 ∧ t.nat F.redJoinState = 1 ∧ t.red.joining = true ∧ t.red.joinAt = at1 ∧ t.red.unsent = totalPages ∧ t.red.dirty = [] ∧
      t.red.answer = 0 ∧ t.red.records = [] ∧ t.red.flight = []) ∧
    (joins → x.joinAccept = true → Runs (.ropeStatus x) s fun t => heard t ∧ t.role = 3 ∧ t.nat F.redStatusLastCause = 10 ∧ t.nat F.redJoinState = 1 ∧
      t.red.joining = true ∧ t.red.joinAt = at1 ∧ t.red.joinAsked = false ∧ t.run.acts = [] ∧ t.run.pend = Pend.empty ∧ t.run.executed = false ∧ t.red.gap = false ∧ t.red.unsent = totalPages ∧
      t.net.writes = [] ∧ t.ctl = joined) ∧
    (joins → x.joinAccept = false → x.joinRefuse = true → x.refusal ≠ 5 → Runs (.ropeStatus x) s fun t => heard t ∧ t.red.joinAsked = false ∧
      t.red.refusal = x.refusal ∧ t.ctl = joined ∧ t.holds = m.holds ∧ if m.ctl.step8 then t.role = 4 else t.role = m.role ∧ m.Silent t) ∧
    (calm → x.joinReq = false → m.red.joinAsked = false → leads → x.role = 3 →
      (m.red.lastAck ≠ some x.ack → Runs (.ropeStatus x) s fun t => heard t ∧ t.red.flight = left ∧ t.red.lastAck = some x.ack ∧ t.red.dirty = m.red.dirty) ∧
      (m.red.lastAck = some x.ack → Runs (.ropeStatus x) s fun t => heard t ∧ t.red.flight = [] ∧ t.red.unsent = m.red.unsent ∧
        ∀ e, e ∈ left → e.2 ∈ t.red.dirty ∨ totalPages ≤ e.2 + m.red.unsent)) ∧
    (calm → x.joinReq = false → m.red.joinAsked = false → leads → m.hlt.refused = [] → m.nat F.redStatusPartnerRole = 3 → x.role ≠ 2 → x.role ≠ 3 →
      Runs (.ropeStatus x) s fun t => heard t ∧ t.role = 4 ∧ t.nat F.redStatusLastCause = 11 ∧ t.red.joining = false ∧ t.nat F.redJoinState = 4 ∧
        t.nat F.redJoinAbortCause = (if x.mode = 5 then 5 else if x.role = 0 then 8 else 3) ∧ t.nat F.redCntJoinAborts = min 255 (m.nat F.redCntJoinAborts + 1)) ∧
    (calm → x.joinReq = false → m.red.joinAsked = false → leads → x.role = 2 → m.red.catchup = some m.stroke →
      at1 ≤ m.red.tickAt + 20000 → Runs (.ropeStatus x) s fun t => heard t ∧ t.nat F.redJoinState = 3 ∧ t.red.joining = false ∧ t.red.catchup = none ∧
        t.nat F.redJoinTimeLastMs = min 65535 ((at1 - m.red.joinAt) / 1000000)) ∧
    (m.role ≠ 3 → same (.transfer tr q) ∧ same (.catchup c)) ∧
    (m.role = 3 → n < 65536 → Runs (.transfer (.page n bs) q) s fun t => got (.page n bs) t ∧
      ({ m with mem := t.mem, red := seen (.page n bs) } : M).Only t [F.redRopeFramesLost, F.redJoinState] ∧ (∀ i, i < 256 → i < bs.length → memByte t.mem (256 * n + i) = bs.getD i 0#8) ∧
      ∀ a, a < 256 * n ∨ 256 * n + min 256 bs.length ≤ a → memByte t.mem a = memByte m.mem a) ∧
    (m.role = 3 → 65536 ≤ n → Runs (.transfer (.page n bs) q) s fun t => t.mem = m.mem ∧ got (.page n bs) t ∧ ∀ i, i ∈ [0x0C, 0x20, 0x60, 0xB4] → bs.length = 256 → n < 66560 →
      (readReg t.fields (loopAddr (n - 65536) i)).toNat = ofBytesLE ((bs.drop i).take 4)) ∧
    takes (.slots x1 b1) { m with fy := { m.fy with slots := x1 }, run := { m.run with begun := b1, slots0 := x1, begun0 := b1 } } ∧
    takes (.acts ac) { m with run := { m.run with acts := ac } } ∧
    takes (.loops lh dip) { m with run := { m.run with loopHid := lh, dipper := dip } } ∧
    takes (.can ff bx pt) { m with fifos := ff, boxes := bx, can := pt } ∧ takes (.hart hc) { m with hart := hc } ∧
    takes (.ring st ms) { m with ring := { m.ring with stations := st, mods := ms } } ∧
    takes (.outputs dh ah rh oh) { m with
      dw := { m.dw with hold := dh }, ctl := { m.ctl with held := rh, orphans := oh }
      aio := ah.map fun (e : Nat × AioChan) => (e.1, { e.2 with supplyOn := false, queued := false }) } ∧
    takes (.record ws es ls) { m with
      run := { m.run with pend := { m.run.pend with writes := m.run.pend.writes ++ ws, effects := m.run.pend.effects ++ es }
                          loops := { m.run.loops with results := m.run.loops.results ++ ls.results, groups := m.run.loops.groups ++ ls.groups } } } ∧
    takes (.more n) m ∧
    (m.role = 3 → Runs (.transfer (.regs ws) q) s fun t => t.mem = m.mem ∧ got (.regs ws) t ∧
      (∀ e, ws = [e] → sharedKey e.1 = true → reportField e.1 = false → t.reg e.1 = e.2) ∧
      ({ m with fields := t.fields, red := seen (.regs ws) } : M).Only t [] ∧
      ∀ k, sharedKey k = false → reportField k = false → k ∉ [F.redRopeFramesLost, F.redJoinState] → t.reg k = m.reg k) ∧
    (m.role = 3 → m.red.gap = false → Runs (.catchup c) s fun t => ({ m with red := { m.red with catchup := some c } } : M).Only t [] ∧ m.Silent t) ∧
    (m.red.gap = true → same (.catchup c)) ∧
    (m.red.joining = false ∨ (m.role ≠ 1 ∧ m.role ≠ 3) → same .joinTimeout) ∧
    (m.red.joining = true → m.role = 1 ∨ m.role = 3 → m.hlt.refused = [] → Runs .joinTimeout s fun t => t.nat F.redJoinState = 4 ∧ t.nat F.redJoinAbortCause = 1 ∧
      t.nat F.redCntJoinAborts = min 255 (m.nat F.redCntJoinAborts + 1) ∧ t.red.joining = false ∧
      (m.role = 1 → t.role = 4 ∧ t.nat F.redStatusLastCause = 11 ∧ t.mode = m.mode ∧ t.holds = m.holds) ∧ (m.role = 3 → t.mode = 0 ∧ t.aon.coldAsked = true)) ∧
    let retries := m.role = 4 ∧ m.red.refusal = 2 ∧ m.on F.redCfgAutoJoin = true ∧ m.holds = false ∧ m.nat F.redStatusRope = 1 ∧ m.red.lost = false ∧
      m.domainOn 5 = true ∧ m.red.joinAsked = false ∧ 2 ≤ m.mode
    (retries → Runs .joinRetry s fun t => m.Silent t ∧
      ({ m with red := { m.red with joinAsked := true, ask := false, refusal := 0 }, aon := { m.aon with joinAgain := false }, out := m.out ++ [.join true 0] } : M).Only t []) ∧
    (¬retries → same .joinRetry)

/-- R336, R344, R345, R347, R348, R350: the bucket. Taking it pulls the line and loads lease and guard; the rows of R347 say when: in priming alone, in slot A,
or in slot B by what the rope shows; armed, after a guard time measured in the window; later where STOP was announced for it. Its line's edges begin
and break off guard measurements, and complete a handover. -/
def Obligations.Bucket : Prop :=
  ∀ (s : State) (twice signal : Bool), s.m.aon.powered = true → let m := s.m; let takeCmd := Instr.bucketTake twice signal
    let same (c : Instr) : Prop := Runs c s fun t => m.Only t [] ∧ m.Silent t; let slotB := m.on F.idStrapsSlot; let us := m.leaseStrokes * m.nat F.stkPeriodTbUs
    let took (t : M) : Prop := t.holds = true ∧ t.on F.idStrapsBucketLine = true ∧ t.red.leaseLoaded = true ∧ t.hlt.leaseEver = true ∧
      t.reg F.redLeaseLease10us = word (us / 10) ∧ t.reg F.redLeaseGuard10us = word ((us + 100) / 10) ∧ t.red.guarding = false ∧ t.red.armedTill = false
    let bare (t : M) (want : Nat) (l : List Nat) : Prop := ({ m with red := { m.red with leaseLoaded := true, guarding := false, armedTill := false, wantBucket := want }
                                                                     hlt := { m.hlt with leaseEver := true }, ctl := t.ctl } : M).Only t
      ([F.redStatusHolder, F.idStrapsBucketLine, F.redLeaseLease10us, F.redLeaseGuard10us] ++ l) ∧ m.Silent t
    let ends (t : M) (role : Nat) : Prop := t.role = role ∧ t.nat F.redStatusLastCause = 1 ∧ t.ctl = { m.ctl with step8 := false, primed := true, firstCommit := true }
    let free := m.mode ≠ 0 ∧ m.holds = false ∧ m.on F.idStrapsBucketLine = false; let step8 := free ∧ m.ctl.step8 = true
    let later := free ∧ m.ctl.step8 = false ∧ m.mode ≠ 1; let calm := later ∧ m.on F.redStatusArmed = false ∧ m.mode ≠ 5 ∧ m.ctl.primed = true
    let pair := step8 ∧ m.red.absent = false ∧ slotB = true; let waits := m.red.partner.map (·.priming) = some 2
    let armed := m.on F.redStatusArmed = true; let line (t : M) (b : Bool) : Prop := t.on F.idStrapsBucketLine = b
    let disarms (t : M) : Prop := t.on F.redStatusArmed = false ∧ t.role = 4 ∧ t.nat F.redStatusLastCause = 12 ∧ t.red.armedTill = false ∧
      t.red.guarding = false ∧ m.Raised t (ev 0x0050 0x1060 m.role 4 12 0)
    let drives (t : M) : Prop := t.holds = true ∧ line t true ∧ t.aon.enables = true ∧ t.red.release = false ∧ t.red.leaseLoaded = true ∧ t.role = m.role
    (¬free → same takeCmd) ∧
    (step8 → m.red.absent = true → Runs takeCmd s fun t => took t ∧ ends t 0) ∧ (step8 → m.red.absent = false → slotB = false → Runs takeCmd s fun t => took t ∧ ends t 4) ∧
    (pair → m.ropeUp = true → (twice = true → waits → Runs takeCmd s fun t => took t ∧ ends t 4) ∧ (twice = false ∨ ¬waits → same takeCmd)) ∧
    (pair → m.ropeUp = false → m.on F.pwrCtrlRopeEn = false → same takeCmd) ∧
    (pair → m.ropeUp = false → m.on F.pwrCtrlRopeEn = true → (signal = true → Runs takeCmd s fun t => ends t 4 ∧ t.holds = false ∧ 25 ∈ t.hlt.latched) ∧
      (signal = false → twice = true → Runs takeCmd s fun t => took t ∧ ends t 4) ∧ (signal = false → twice = false → same takeCmd)) ∧
    (free → m.ctl.step8 = false → m.mode = 1 → same takeCmd) ∧
    (later → armed → m.red.guarding = true → Runs takeCmd s fun t => took t ∧ bare t 5 [F.redStatusArmed, F.redCntSwitchovers] ∧ t.on F.redStatusArmed = false ∧
      t.ctl = m.ctl ∧ t.nat F.redCntSwitchovers = min 255 (m.nat F.redCntSwitchovers + 1)) ∧
    (later → armed → m.red.guarding = false → same takeCmd) ∧ (later → ¬armed → m.mode = 5 ∨ m.ctl.primed = false → same takeCmd) ∧
    (calm → m.red.wantBucket = 1 → Runs takeCmd s fun t => took t ∧ bare t 0 [] ∧ t.ctl = m.ctl) ∧
    (calm → m.red.wantBucket = 7 ∨ m.red.wantBucket = 8 → Runs takeCmd s fun t => took t ∧ bare t 0 [] ∧
      t.ctl = if m.mode = 2 ∨ m.ctl.nextMode.any (·.2.1 == 5) then m.ctl else { m.ctl with nextMode := some (m.stroke + 1#64, 2, 0) }) ∧
    (calm → m.red.wantBucket ∉ [1, 7, 8] → same takeCmd) ∧
    (m.ctl.step8 = true → m.red.absent = true → Runs .bucketStuck s fun t => t.role = 0 ∧ t.nat F.redStatusLastCause = 1 ∧ t.holds = m.holds ∧
      t.red.wantBucket = 1 ∧ t.ctl = { m.ctl with step8 := false, primed := true, firstCommit := true, nextMode := some (m.ctl.nextMode.getD (0#64, 2, 0)) }) ∧
    (m.ctl.step8 = false ∨ m.red.absent = false → same .bucketStuck) ∧
    (¬armed ∨ m.red.guarding = false ∨ m.red.armedTill = true → Runs (.bucketLineChange true) s fun t => line t true ∧ m.Silent t ∧
      ({ m with red := { m.red with guarding := false } } : M).Only t [F.idStrapsBucketLine]) ∧
    (armed → m.red.guarding = true → m.red.armedTill = false → m.hlt.refused = [] → Runs (.bucketLineChange true) s fun t => line t true ∧ disarms t) ∧
    let completes := m.red.taker = true ∧ m.red.release = true ∧ m.role = 2 ∧ m.holds = false
    (¬completes → Runs (.bucketLineChange false) s fun t => line t m.holds ∧ m.Silent t ∧
      ({ m with red := { m.red with guarding := m.red.guarding || (m.on F.redStatusArmed && m.red.armedTill) } } : M).Only t [F.idStrapsBucketLine]) ∧
    (completes → Runs (.bucketLineChange false) s drives) ∧
    (m.role = 2 → m.red.taker = true → m.holds = false → m.on F.idStrapsBucketLine = true → Runs .handoverReleased s fun t => m.Silent t ∧
      ({ m with red := { m.red with release := true } } : M).Only t []) ∧
    (m.role = 2 → m.red.taker = true → m.holds = false → m.on F.idStrapsBucketLine = false → Runs .handoverReleased s drives) ∧
    (m.role ≠ 2 ∨ m.red.taker = false ∨ m.holds = true → same .handoverReleased) ∧
    (¬armed ∨ m.red.armedTill = false → same .armedWindowEnd) ∧
    (armed → m.red.armedTill = true → m.red.guarding = true → Runs .armedWindowEnd s fun t => m.Silent t ∧
      ({ m with red := { m.red with armedTill := false } } : M).Only t []) ∧
    (armed → m.red.armedTill = true → m.red.guarding = false → m.hlt.refused = [] → Runs .armedWindowEnd s disarms) ∧
    (m.mode = 5 → m.red.absent = true → m.drives = false → Runs .becomesSafeDriver s fun t => t.drives = true ∧ m.Only t [F.redStatusSafeDriver] ∧ m.Silent t) ∧
    (m.mode ≠ 5 ∨ m.red.absent = false ∨ m.drives = true → same .becomesSafeDriver)

/-! ### Stores and loop commands of tasks -/

/-- R11, R34, R57, R82, R90, R91, R116, R117, R146, R172, R174, R238, R239, R244, R247, R291, R295, R298: the stores of a task. Where tasks execute, each counts in the
digest of the stroke and waits for the commit, the one to a register that starts an action with that action; elsewhere, and in the system part of the cistern (R172), there is no store. -/
def Obligations.TaskStores : Prop :=
  ∀ (s : State) (task n ad : Nat) (w : Word), s.m.aon.powered = true → let m := s.m
    let same (c : Instr) : Prop := Runs c s fun t => m.Only t [] ∧ m.Silent t; let ran := m.tasksRan = true ∧ task < 16
    let stores (c : Instr) (a : Nat) (v : Word) (acts : Bool) : Prop := (¬ran → same c) ∧
      (ran → Runs c s fun t => m.Silent t ∧ ({ m with run := { m.run with
        digest := m.run.digest + digestOf [(a, v)]
        pend := { writes := m.run.pend.writes ++ [(a, v)]
                  effects := m.run.pend.effects ++ if acts then [(BitVec.ofNat 16 (0x0F00 + task), .regAction a v)] else [] } } } : M).Only t [])
    stores (.pwrRestart task w) 0x40004014 w true ∧ stores (.requestStop task) 0x40001010 1#32 true ∧ stores (.requestSafe task) 0x40001010 2#32 true ∧
    stores (.ckptNow task w) 0x4000380C (0x1000#32 ||| (w &&& 0xFFF#32)) true ∧ stores (.dioUnlatch task w) 0x40010094 w true ∧
    stores (.groupAck task w) 0x40010098 w true ∧ stores (.dioOutSet task w) 0x40010084 w false ∧ stores (.dioOutClr task w) 0x40010088 w false ∧
    stores (.clearStrapChanged task) 0x40000040 0x4000#32 false ∧
    (n < 4 → stores (.encLoad task n w) (0x4003000C + 16 * n) w true) ∧ (4 ≤ n → same (.encLoad task n w)) ∧
    (n < 2 → stores (.canTxAbort task n w) (0x4004002C + 0x4000 * n) w true ∧ stores (.recover task n) (0x40040030 + 0x4000 * n) 1#32 true ∧
      stores (.clearCanFlags task n w) (0x40040018 + 0x4000 * n) w false) ∧
    (2 ≤ n → same (.canTxAbort task n w) ∧ same (.recover task n) ∧ same (.clearCanFlags task n w)) ∧
    (inOpenSram ad = true → stores (.bitSetAlias task ad w) (0x04000000 + ad / 4 * 4) w false ∧ stores (.bitClearAlias task ad w) (0x08000000 + ad / 4 * 4) w false) ∧
    (inOpenSram ad = false → same (.bitSetAlias task ad w) ∧ same (.bitClearAlias task ad w)) ∧
    let a := ad / 4 * 4; let plain := (inSys a = true ∨ inLoop a = true) ∧ startsAction a = false ∧ a ∉ [0x40010084, 0x40010088, 0x40001010]
    (plain → stores (.registerWrite task ad w) a w false) ∧ (¬plain → same (.registerWrite task ad w))

/-- R12, R153, R154, R217, R224: the loop commands of tasks, judged against the loop as the activation's snapshot holds it: none in PRIMING, those of tuning and
injection in RUN alone; a run starts only where none runs, TUNE_ACCEPT and TUNE_DISCARD need its candidate values, and a block takes one command of an
activation. What is accepted is recorded for the commit with the value of source B; d takes the status, and a refusal is the task's event as well. -/
def Obligations.LoopCommands : Prop :=
  ∀ (s : State) (d b : RegNo) (n : Nat) (w : Word), let a := s.m.fy.act; let who := LoopBy.task d b
    let l (off : Nat) : Word := readReg a.snap.fields (loopAddr n off); let runs := (l 0xA0).getLsbD 16 = true ∨ (l 0xA0).getLsbD 17 = true
    let before := ∃ k v, Effect.loopCmd n k v ∈ a.effects
    let does (c : Instr) (st : Nat) (e : Effect) : Prop := ∃ p, a.Did p d (word st) 2 6 [] [e] ∧ Leaves c s p s.m.fy.slots
    let cmd (c : Instr) (k : Nat) (v : Word) (st : Nat) : Prop := (st = 0 → ¬before → does c 0 (.loopCmd n k v)) ∧
      (∀ z, z = (if st = 0 then 3 else st) → st ≠ 0 ∨ before →
        does c z (.event { source := a.source, code := 0x00F0#16, p0 := 0x18#32, p1 := word k, p2 := word z, p3 := word n }))
    let inRun (st : Nat) : Nat := if a.mode = 3 then st else 1; let noRun := if (l 0xEC).bits 2 0 = 3 then 0 else 19; let any := if a.mode = 1 then 1 else 0
    cmd (.auto d n) 0 0#32 any ∧ cmd (.manual d n) 1 0#32 any ∧
    cmd (.tuneStart who n w) 2 (a.reg b) (inRun (if (l 0xA0).bits 1 0 = 0 ∨ (l 0xA0).getLsbD 14 = true ∨ (l 0xA0).getLsbD 3 = true then 17 else
      if (l 0x08).getLsbD 17 = true ∧ (l 0x00).getLsbD 3 = false then 18 else if runs ∨ (l 0xA0).getLsbD 2 = true then 3 else 0)) ∧
    cmd (.tuneAccept who n) 3 (a.reg b) (inRun noRun) ∧ cmd (.tuneDiscard who n) 4 (a.reg b) (inRun noRun) ∧ cmd (.tuneAbort who n) 5 (a.reg b) (inRun 0) ∧
    cmd (.injectStart who n) 6 (a.reg b) (inRun (if runs ∨ a.snap.dipperBusy = true then 3 else 0)) ∧ cmd (.injectStop who n) 7 (a.reg b) (inRun 0)
/-! ### The engineering protocol -/

/-- R12, R332, R412, R413: how a request is judged on receipt. Without its session nothing happens, nor in RESET; beyond 8 unanswered requests it is BUSY, 3;
then NOT_AUTHORISED, 5, below the role it asks for, WRONG_MODE, 1, and WRONG_ROLE, 2, in this order; a header that is not as R331 has it is MALFORMED, 26, and the session closes with that reply. Of a command that acts at a commit, and of a
domain's restart, only the first two are judged so. -/
def Obligations.HostJudgement : Prop :=
  ∀ (s : State) (r : Req) (x : Session) (n a b : Nat) (w : Word) (d : DWord) (bs : List Byte) (l : List (List Byte)) (ws : List (Nat × Word)) (e : List Nat) (ok : Bool) (z : ReadSpan) (le : LogEcc),
    s.m.aon.powered = true → let m := s.m; let every := [1, 2, 3, 4, 5]; let going := [2, 3, 4, 5]; let any := [0, 1, 2, 3, 4]; let own := [0, 1, 4]
    let now : List (Instr × Nat × Nat × List Nat × List Nat) :=
      [(.regRead r n a, 0x10, 0, every, any), (.stkCountLoRead r, 0x10, 0, every, any), (.varRead r n z, 0x11, 0, every, any), (.dipperRead r n a, 0x13, 0, every, any),
       (.holdStep r n, 0x25, 2, [4], [0]), (.breakSet r n a b, 0x26, 2, [3, 4], [0]), (.breakClear r n, 0x27, 2, [4], [0]), (.restart r n, 0x2A, 2, going, any),
       (.imageDownload r n a bs, 0x30, 2, going, own), (.activateAtRestart r n, 0x31, 2, going, any), (.fwDownload r n a bs, 0x32, 2, going, [0, 4]),
       (.fwActivate r n, 0x33, 2, going, [0, 4]), (.clockSet r d, 0x52, 2, every, own), (.join r, 0x61, 2, going, any),
       (.takeBucket r, 0x63, 2, [2], any), (.logRead r w n e le, 0x70, 0, every, any), (.logClear r w, 0x71, 3, going, any), (.claim r bs l, 0x80, 0, every, any),
       (.anchorAdd r n bs, 0x82, 3, going, any), (.anchorRemove r n a, 0x83, 3, going, any), (.denyAdd r bs, 0x84, 3, going, any),
       (.denyRemove r bs, 0x85, 3, going, any), (.anchorRead r n, 0x86, 0, every, any), (.deviceAttest r bs, 0x87, 0, every, any)]
    let later : List (Instr × Nat × Nat) :=
      [(.varWrite r ws, 0x12, 1), (.modeRun r, 0x20, 1), (.modeStop r, 0x21, 1), (.modeSafe r, 0x22, 1), (.safeAck r, 0x23, 1), (.modeHold r, 0x24, 2),
       (.forceSet r n w, 0x28, 2), (.forceClear r n, 0x29, 2), (.activateOnline r ⟨n, ok⟩, 0x31, 2), (.domainRestart r n, 0x50, 2), (.tuneStart (.host r) n w, 0x40, 2),
       (.tuneAccept (.host r) n, 0x40, 2), (.tuneDiscard (.host r) n, 0x40, 2), (.tuneAbort (.host r) n, 0x40, 2), (.injectStart (.host r) n, 0x40, 2),
       (.injectStop (.host r) n, 0x40, 2), (.hartPass r n a bs, 0x51, 2), (.detach r, 0x60, 2), (.switchover r, 0x62, 2)]
    let all := now.map (fun p => (p.1, p.2.1, p.2.2.1)) ++ later; let open_ : List (Instr × Nat) := all.map (fun p => (p.1, p.2.1)) ++ [(.unclaim r, 0x81), (.unknownCommand r n, n)]
    (∀ p ∈ open_, (m.session r = none ∨ m.mode = 0 → Runs p.1 s fun t => m.Only t [] ∧ m.Silent t) ∧
      (m.session r = some x → x.closing = true → Runs p.1 s fun t => m.Only t [] ∧ m.Silent t) ∧
      (m.session r = some x → m.mode ≠ 0 → x.closing = false → headerOk r = false → x.order = [] → x.ready = [] → r.place = 0 → Runs p.1 s fun t =>
        m.Raised t (ev 0x0070 0x1080 p.2 26 x.principal.toNat) ∧ (.reply r 26 []) ∈ t.out ∧ t.session r = none ∧ t.mem = m.mem ∧ t.mode = m.mode) ∧
      (m.session r = some x → m.mode ≠ 0 → x.closing = false → headerOk r = true → r.place = 0 → 8 ≤ x.order.length → Runs p.1 s fun t => m.Raised t (ev 0x0070 0x1080 p.2 3 x.principal.toNat) ∧
        ({ m with net := { m.net with sessions := t.net.sessions }, out := t.out } : M).Only t [])) ∧
    (m.Asks r x → ¬x.May 0 → ∀ p ∈ all, Refuses p.1 s r x p.2.1 5) ∧ (m.Asks r x → x.auth = true → ∀ p ∈ all, x.role < p.2.2 → Refuses p.1 s r x p.2.1 5) ∧
    (m.Asks r x → ∀ p ∈ now, x.May p.2.2.1 → (m.mode ∉ p.2.2.2.1 → Refuses p.1 s r x p.2.1 1) ∧
      (m.mode ∈ p.2.2.2.1 → m.role ∉ p.2.2.2.2 → Refuses p.1 s r x p.2.1 2)) ∧
    (m.Asks r x → Refuses (.unknownCommand r n) s r x n 27) ∧
    (m.session r = none → Runs (.malformedHeader r n) s fun t => m.Only t [] ∧ m.Silent t) ∧
    (m.mode = 0 ∨ (m.session r = some x ∧ x.closing = true) → Runs (.malformedHeader r n) s fun t => m.Only t [] ∧ m.Silent t) ∧
    (m.session r = some x → m.mode ≠ 0 → x.closing = false → r.place = 0 → x.order = [] → x.ready = [] → Runs (.malformedHeader r n) s fun t =>
      m.Raised t (ev 0x0070 0x1080 n 26 x.principal.toNat) ∧ (.reply r 26 []) ∈ t.out ∧ t.session r = none ∧ t.mem = m.mem ∧ t.mode = m.mode ∧ t.role = m.role ∧
      (m.store.imageFrom = none → m.store.fwFrom = none →
      ({ m with net := { m.net with sessions := t.net.sessions, queue := t.net.queue }, out := t.out } : M).Only t [])) ∧
    (∀ k, m.session r = some x → m.mode ≠ 0 → x.closing = false → r.place = 0 → x.order = [k] → x.ready = [] → Runs (.malformedHeader r n) s fun t =>
      m.Raised t (ev 0x0070 0x1080 n 26 x.principal.toNat) ∧ t.out = m.out ∧
      t.session r = some { x with order := [k, k + 1], ready := [(k + 1, .reply r 26 [])], closing := true })

/-- R330, R333, R337, R395 to R398, R401, R402: engineering sessions. One opens where the port works, at most 4 and at most one over USB; an unclaimed module admits USB
alone, as Viewer; a claimed one, over a handshake that the module supports, a principal, with the role that its subject names, whose certificate ends at an installed client anchor and is not denied; a failed handshake is counted
and reported, and 5 from one address within 60 s lock it. A session that closes takes its waiting requests with it and breaks off its downloads (R126). What the rope carries for the
pair joins the queue of commands, or answers one that was forwarded. -/
def Obligations.HostSessions : Prop :=
  ∀ (s : State) (h : Handshake) (id code st who : Nat) (addr : Word), s.m.aon.powered = true → let m := s.m; let a := m.at h.now
    let same (c : Instr) : Prop := Runs c s fun t => m.Only t [] ∧ m.Silent t; let claimed := placesUsed m.store.clients ≠ 0; let known := m.net.sessions.any fun x => x.id == h.id
    let works := m.mode ≠ 0 ∧ m.domainOn 4 = true; let reach := works ∧ (if h.usb then m.on F.engStatUsbAttached = true else m.ownIp ≠ 0#32) ∧ known = false
    let barred := m.on F.secStatusSecureFault = true ∨ (h.usb = false ∧ (¬claimed ∨ h.addr ∈ m.net.locked)); let clean := reach ∧ ¬barred
    let good := h.suite ≠ .other ∧ h.scheme ≠ .other ∧ h.chain ≤ 3 ∧ h.ok = true ∧ (∃ p ∈ m.store.clients, p.2 ≠ [] ∧ Config.sha256 p.2 = h.anchor) ∧ h.cert ∉ m.store.deny ∧
      (h.datesOk = true ∨ m.nat F.wallQualQuality = 0)
    let full := 4 ≤ m.net.sessions.length ∨ (h.usb = true ∧ ∃ x ∈ m.net.sessions, x.usb = true)
    let opens (t : M) (auth : Bool) (role : Nat) (failures : List (Word × Nat)) (locked : List Word) (l : List Nat) : Prop :=
      (full → ({ a with net := { m.net with failures := failures, locked := locked }, out := m.out ++ [.closed h.id 3] } : M).Only t (l ++ [F.secAuthFailures])) ∧
      (¬full → ({ a with net := { m.net with
          failures := failures, locked := locked
          sessions := m.net.sessions ++ [{ id := h.id, usb := h.usb, auth := auth, role := role, principal := low32 h.cert, cert := h.cert, anchor := h.anchor
                                           order := [], ready := [] }] } } : M).Only t (l ++ [F.secAuthFailures]))
    let recent := ((h.addr, a.aon.now) :: m.net.failures).filter fun f => decide (a.aon.now < f.2 + 60000000000)
    let fifth := 5 ≤ (recent.filter fun f => f.1 == h.addr).length; let counted (t : M) : Prop := t.nat F.secAuthFailures = min 65535 (m.nat F.secAuthFailures + 1)
    let off (from_ : Option Nat) (p : Session → Bool) : Bool := from_.any fun id => m.net.sessions.any fun x => p x && x.id == id
    let breaks (t : M) (broken : Bool) (state verdict : Nat) : Prop := if broken = true ∧ m.nat state = 1 then t.nat state = 4 ∧ t.nat verdict = 2
      else t.nat state = m.nat state ∧ t.nat verdict = m.nat verdict
    (roleOf ["Viewer"] = 0 ∧ roleOf ["Operator"] = 1 ∧ roleOf ["Engineer"] = 2 ∧ roleOf ["Custodian"] = 3 ∧ roleOf [] = 0 ∧ roleOf ["Engineer", "Custodian"] = 0) ∧
    let drops (c : Instr) (p : Session → Bool) (l : List Nat) : Prop := let gone := m.net.sessions.filter p
      Runs c s fun t => m.Silent t ∧ ({ m with
        net := { m.net with vbus := t.net.vbus, sessions := m.net.sessions.filter fun x => !p x
                            queue := m.net.queue.filter fun q => q.req.all fun r => gone.all fun x => x.id != r.sess }
        store := { m.store with imageFrom := if off m.store.imageFrom p then none else m.store.imageFrom, fwFrom := if off m.store.fwFrom p then none else m.store.fwFrom }
        out := m.out ++ gone.map fun x => .closed x.id 0 } : M).Only t (l ++ [F.idImgSlotState 0, F.idImgSlotState 1, F.idImgSlotVerdict 0, F.idImgSlotVerdict 1,
          F.secFwSlotState 0, F.secFwSlotState 1, F.secFwSlotVerdict 0, F.secFwSlotVerdict 1]) ∧
      ∀ n, n < 2 → breaks t (off m.store.imageFrom p) (F.idImgSlotState n) (F.idImgSlotVerdict n) ∧ breaks t (off m.store.fwFrom p) (F.secFwSlotState n) (F.secFwSlotVerdict n)
    (¬reach → Runs (.sessionOpen h) s fun t => a.Only t [] ∧ m.Silent t) ∧
    (reach → barred → Runs (.sessionOpen h) s fun t => ({ a with out := m.out ++ [.reset 4810] } : M).Only t [] ∧ m.Silent t) ∧
    (clean → ¬claimed → Runs (.sessionOpen h) s fun t => opens t true 0 m.net.failures m.net.locked [] ∧ m.Silent t) ∧
    (clean → claimed → good → Runs (.sessionOpen h) s fun t => opens t true (roleOf h.units) m.net.failures m.net.locked [] ∧
      t.nat F.secAuthFailures = m.nat F.secAuthFailures ∧ if m.nat F.wallQualQuality = 0 then a.Raised t (ev 0x0070 0x1082) else m.Silent t) ∧
    (clean → claimed → ¬good → h.usb = true → Runs (.sessionOpen h) s fun t => opens t false 0 m.net.failures m.net.locked [] ∧ counted t ∧
      a.Raised t (ev 0x0070 0x1081)) ∧
    (clean → claimed → ¬good → h.usb = false → Runs (.sessionOpen h) s fun t => counted t ∧ a.Raised t (ev 0x0070 0x1081 h.addr.toNat) ∧
      ({ a with net := { m.net with failures := if fifth then recent.filter (fun f => f.1 != h.addr) else recent
                                    locked := if fifth then h.addr :: m.net.locked else m.net.locked } } : M).Only t [F.secAuthFailures]) ∧
    drops (.sessionIdleTimeout id) (fun x => x.id == id) [] ∧
    drops .usbDetach (fun x => x.usb) [F.engStatUsbAttached] ∧ Runs .usbDetach s (fun t => t.on F.engStatUsbAttached = false ∧ t.net.vbus = false) ∧
    Runs .usbAttach s (fun t => (t.on F.engStatUsbAttached = true ↔ works) ∧ ({ m with net := { m.net with vbus := true } } : M).Only t [F.engStatUsbAttached] ∧ m.Silent t) ∧
    Runs (.authLockoutEnd addr) s (fun t => ({ m with net := { m.net with locked := m.net.locked.filter (· != addr) } } : M).Only t [] ∧ m.Silent t) ∧
    (m.mode < 2 → same (.ropeCommand (.command code who)) ∧ same (.ropeCommand (.reply code st))) ∧
    (2 ≤ m.mode → (∀ q ∈ m.net.forwarded, q.cmd.code ≠ code) → same (.ropeCommand (.reply code st))) ∧
    (2 ≤ m.mode → ∀ pre q post r x, m.net.forwarded = pre ++ q :: post → (∀ p ∈ pre, p.cmd.code ≠ code) → q.cmd.code = code → q.req = some r →
      m.session r = some x → x.order = [r.place] → x.ready = [] → x.closing = false → r.place ≠ 0 → Runs (.ropeCommand (.reply code st)) s fun t => m.Silent t ∧
        ({ m with net := { m.net with forwarded := pre ++ post, sessions := t.net.sessions }, out := m.out ++ [.reply r st []] } : M).Only t []) ∧
    (2 ≤ m.mode → m.role ∈ [0, 1, 4] → m.ctl.primed = true → ∀ p ∈ [(0x22, HostCmd.safe), (0x23, .ack), (0x60, .detach), (0x62, .switchover)],
      Runs (.ropeCommand (.command p.1 who)) s fun t => m.Silent t ∧ ({ m with net := { m.net with
        queue := m.net.queue ++ [{ req := none, principal := word who, role := 2, cmd := p.2, status := none }] } } : M).Only t []) ∧
    (m.role ∉ [0, 1, 4] ∨ m.ctl.primed = false ∨ code ∉ [0x22, 0x23, 0x60, 0x62] → same (.ropeCommand (.command code who)))

/-- R86, R117, R230, R414 to R416: what requests do that pass their judgement: the reads, each of one instant; the commands of HOLD; a restart, which is answered first;
the clock; the pair's own; a domain's restart and its return. R168, R169: a read of variables corrects and counts a wrong bit; where a word has two it delivers nothing (the
status is the model's choice: log entry 98). -/
def Obligations.HostActions : Prop :=
  ∀ (s : State) (r : Req) (x : Session) (n k j : Nat) (d : DWord), s.m.aon.powered = true → let m := s.m; let count := max 1 (min 256 k); let ad := n / 4 * 4
    let same (c : Instr) : Prop := Runs c s fun t => m.Only t [] ∧ m.Silent t; let asks (least : Nat) : Prop := m.Asks r x ∧ x.May least
    let reg (a : Nat) : Word := if inSys a || inLoop a then readReg m.fields a else 0#32; let going := 2 ≤ m.mode ∧ m.mode ≤ 5
    let covers (a : Nat) : Prop := ad ≤ a ∧ a < ad + 4 * count; let low := covers 0x40002004; let high := covers 0x40002008
    let live := (List.range count).map fun i => reg (ad + 4 * i); let done := Out.reply r 0 []; let known := m.role ≤ 4
    let resets (t : M) (cold : Bool) : Prop := t.mode = 0 ∧ t.holds = false ∧ t.aon.coldAsked = cold ∧ t.out = m.out ++ [done] ∧ t.nat F.modStartFailedCold = 0 ∧
      t.nat F.modStartFailedWarm = 0
    let dom := n + 3; let judged := if m.mode < 2 then 1 else if m.repairable m.role n = false then 2 else if m.restarting n = true ∨ m.aon.saving ≠ 0 then 3 else if n ∈ m.ctl.leftOff then 4 else 0
    (asks 0 → m.mode ≤ 5 → known → Replies (.stkCountLoRead r) s r { m with run := { m.run with countHi := some (m.reg F.stkCountHi) } } (wordsBytes [reg 0x40002004]) [] ∧
      (¬low → ¬high → Replies (.regRead r n k) s r m (wordsBytes live) []) ∧
      (low → ¬high → Replies (.regRead r n k) s r { m with run := { m.run with countHi := some (m.reg F.stkCountHi) } } (wordsBytes live) []) ∧
      (high → low ∨ m.run.countHi = none → Replies (.regRead r n k) s r { m with run := { m.run with countHi := none } } (wordsBytes live) []) ∧
      (high → ¬low → ∀ h, m.run.countHi = some h → Replies (.regRead r n k) s r { m with run := { m.run with countHi := none } }
        (wordsBytes (live.set ((0x40002008 - ad) / 4) h)) []) ∧
      (∀ z : ReadSpan, z.count = k → let found := eccWithin z.ecc (((List.range count).map fun i => ad + 4 * i).filter inSram)
        (found.bad = none → found.fixed = [] → Replies (.varRead r n z) s r m (wordsBytes ((List.range count).map fun i => m.readVar (ad + 4 * i))) []) ∧
        (∀ i, found.bad = none → found.fixed = [i] → Runs (.varRead r n z) s fun t =>
          .reply r 0 (wordsBytes ((List.range count).map fun i => m.readVar (ad + 4 * i))) ∈ t.out ∧
            t.nat F.memEccSramCorrected = min 65535 (m.nat F.memEccSramCorrected + 1) ∧ t.reg F.memEccLastWordAddr = word (i / 8) ∧ m.Raised t (ev 0x0040 0x1050)) ∧
        (∀ i, found.bad = some i → 2 ≤ m.mode → m.role = 0 → m.on F.redStatusArmed = false → Runs (.varRead r n z) s fun t => t.mode = 5 ∧ t.aon.f3 = true ∧
          6 ∈ t.hlt.latched ∧ .reply r 9 [] ∈ t.out)) ∧
      Replies (.dipperRead r n k) s r m (dipperBytes m.run.dipper n (max 1 (min 4094 k))) []) ∧
    (asks 2 → m.role = 0 →
      (m.mode = 4 → Replies (.holdStep r n) s r { m with ctl := { m.ctl with holdSteps := max 1 (min 65535 n) } } [] []) ∧
      (m.mode = 3 ∨ m.mode = 4 → m.on F.idStrapsDbgEn = false → Refuses (.breakSet r n k j) s r x 0x26 6) ∧
      (m.mode = 3 ∨ m.mode = 4 → m.on F.idStrapsDbgEn = true → Runs (.breakSet r n k j) s fun t => m.Silent t ∧
        ({ m with ctl := { m.ctl with breaks := t.ctl.breaks } } : M).Answered t r 0 [] [] ∧
        ∀ i, t.ctl.breaks.get none i = if i = min 7 n then some (min 15 k, j) else m.ctl.breaks.get none i) ∧
      (m.mode = 4 → Runs (.breakClear r n) s fun t => m.Silent t ∧ ({ m with ctl := { m.ctl with breaks := t.ctl.breaks } } : M).Answered t r 0 [] [] ∧
        ∀ i, t.ctl.breaks.get none i = if i = min 7 n then none else m.ctl.breaks.get none i)) ∧
    (asks 2 → going → known → Runs (.restart r n) s fun t => resets t (m.aon.coldAsked || n != 0) ∧ t.aon.saving = 1) ∧
    (asks 2 → m.mode ≤ 5 → m.role ∈ [0, 1, 4] → (m.nat F.wallQualQuality = 4 → Refuses (.clockSet r d) s r x 0x52 1) ∧
      (m.nat F.wallQualQuality ≠ 4 → Runs (.clockSet r d) s fun t => t.wall = d ∧ t.nat F.wallQualQuality = 1 ∧
        ({ m with aon := { m.aon with wallOff := t.aon.wallOff } } : M).Answered t r 0 [] [F.wallLo, F.wallHi, F.wallQualQuality] ∧
        (m.domainOn 1 = true → m.log.queue.length < 1024 → ∃ y, t.log.queue = m.log.queue ++ [y] ∧
          y.event = { source := 0x0080#16, code := 0x1004#16, p0 := m.wall.lo, p1 := m.wall.hi, p2 := d.lo, p3 := d.hi }))) ∧
    (asks 2 → going → known → let free := m.role = 4 ∧ m.holds = false
      (free → m.ropeUp = true → Replies (.join r) s r
        { m with red := { m.red with joinAsked := true, ask := false, refusal := 0 }, aon := { m.aon with joinAgain := false }, out := m.out ++ [.join true 0] } [] []) ∧
      (¬free ∨ m.ropeUp = false → Refuses (.join r) s r x 0x61 2) ∧
      (m.mode = 2 → (free → Replies (.takeBucket r) s r { m with red := { m.red with wantBucket := 8 } } [] []) ∧ (¬free → Refuses (.takeBucket r) s r x 0x63 2))) ∧
    (asks 2 → m.mode ≠ 0 → (n = 0 ∨ 5 < n → (2 ≤ m.mode → Replies (.domainRestart r n) s r m [] []) ∧ (m.mode < 2 → Refuses (.domainRestart r n) s r x 0x50 1)) ∧
      (1 ≤ n → n ≤ 5 → judged ≠ 0 → Runs (.domainRestart r n) s fun t => t.nat F.pwrRestartStatusTarget = n ∧ t.nat F.pwrRestartStatusStatus = judged ∧
        m.Answered t r judged [] [F.pwrRestartStatusTarget, F.pwrRestartStatusStatus] ∧ m.Raised t (ev 0x0070 0x1080 0x50 judged x.principal.toNat)) ∧
      (1 ≤ n → n ≤ 5 → judged = 0 → m.hlt.refused = [] → (n = 2 → m.role ≠ 3) → Runs (.domainRestart r n) s fun t => t.nat F.pwrRestartStatusTarget = n ∧
        t.nat F.pwrRestartStatusStatus = 0 ∧ t.on F.pwrRestartStatusInProgress = true ∧ t.restarting n = true ∧ t.domainOn dom = false ∧ done ∈ t.out ∧
        (n = 1 → t.net.sessions = [] ∧ t.net.conns = [] ∧ t.on F.engStatUsbAttached = false) ∧
        (n = 2 → t.red.lost = true ∧ t.nat F.redStatusRope = 0) ∧ (n = 3 → t.dw.silent = true ∧ t.dw.passed = false ∧ t.dw.out = m.dw.out ∧ t.reg F.dioBad = 0xFFFFFFFF#32 ∧
          t.reg F.dioIn = 0#32 ∧ t.on F.encSupplyOn = false ∧ (∀ c, c < 32 → t.isl (F.dioStatShutdowns c) = m.isl (F.dioStatShutdowns c) ∧
            t.isl (F.dioStatLatchedOff c) = m.isl (F.dioStatLatchedOff c)) ∧ ∀ c, c < 4 → (t.enc c).count = 0#32) ∧
        (4 ≤ n → (t.awGet (n - 4)).silent = true ∧ (t.awGet (n - 4)).stagesOff = true ∧ t.on (F.aioStatBad (8 * (n - 4))) = true ∧
          t.on (F.awStatCalReused (n - 4)) = true))) ∧
    (n = 0 ∨ 5 < n ∨ m.restarting n = false → same (.domainReturn n)) ∧
    (1 ≤ n → n ≤ 5 → m.restarting n = true → Runs (.domainReturn n) s fun t => t.restarting n = false ∧ t.domainOn dom = true ∧ m.Silent t ∧
      t.on F.pwrRestartStatusInProgress = (m.on F.pwrRestartStatusInProgress && m.hlt.accepted != n) ∧ (n = 1 → 23 ∉ t.hlt.latched) ∧
      (n = 3 → t.on F.encSupplyOn = true ∧ t.isl F.encSupplyOn = 1) ∧ (n = 2 ∨ 4 ≤ n → m.Only t [F.pwrDomainRestarting, F.pwrDomainOn, F.pwrRestartStatusInProgress]))

/-- R66, R125, R218, R278, R337, R413, R414: commands that act at a commit. A module with its own snapshots queues them for the next one; in PRIMING only MODE_SAFE is
accepted, for the first commit; a shadow module forwards those that act on the pair; what cannot wait is judged and carried out on receipt. -/
def Obligations.HostCommits : Prop :=
  ∀ (s : State) (r : Req) (x : Session) (n k : Nat) (w : Word) (bs : List Byte) (ws : List (Nat × Word)) (ok : Bool), s.m.aon.powered = true → let m := s.m
    let later : List (Instr × HostCmd × Nat) :=
      [(.varWrite r ws, .varWrite (ws.take 32), 1), (.modeRun r, .run, 1), (.modeStop r, .stop, 1), (.modeSafe r, .safe, 1), (.safeAck r, .ack, 1), (.modeHold r, .hold, 2),
       (.forceSet r n w, .forceSet n w, 2), (.forceClear r n, .forceClear n, 2), (.activateOnline r ⟨n, ok⟩, .online (min 1 n) ok, 2),
       (.tuneStart (.host r) n w, .loop (min 1023 n) 2 w, 2), (.tuneAccept (.host r) n, .loop (min 1023 n) 3 0#32, 2), (.tuneDiscard (.host r) n, .loop (min 1023 n) 4 0#32, 2),
       (.tuneAbort (.host r) n, .loop (min 1023 n) 5 0#32, 2), (.injectStart (.host r) n, .loop (min 1023 n) 6 0#32, 2), (.injectStop (.host r) n, .loop (min 1023 n) 7 0#32, 2),
       (.hartPass r n k bs, .hartPass (min 15 n) (min 65535 k) (bs.take 255), 2), (.detach r, .detach, 2), (.switchover r, .switchover, 2)]
    let pair : List HostCmd := [.safe, .ack, .detach, .switchover]; let q (c : HostCmd) : HostReq := { req := some { r with place := 1 }, principal := x.principal, role := x.role, cmd := c, status := none }
    let atOnce := (m.mode ≠ 1 ∧ (m.role = 3 ∨ (m.role ≠ 2 ∧ m.ctl.primed = false)))
    m.Asks r x → ∀ p ∈ later, x.May p.2.2 → let c := p.2.1
      (m.mode ≠ 1 → m.role ≠ 2 → m.role ≠ 3 → m.ctl.primed = true → Runs p.1 s fun t => m.Silent t ∧
        ({ m with net := { m.net with queue := m.net.queue ++ [q c], sessions := t.net.sessions }
                  hartQ := m.hartQ ++ match c with | .hartPass ch _ _ => [(ch, 3)] | _ => [] } : M).Only t []) ∧
      (m.mode = 1 → c ≠ .safe → (∀ i z, c ≠ .online i z) → Refuses p.1 s r x c.code 1) ∧
      (m.mode = 1 → c = .safe → Runs p.1 s fun t => m.Silent t ∧
        ({ m with net := { m.net with taken := m.net.taken ++ [{ q c with status := some 0 }], sessions := t.net.sessions }
                  ctl := { m.ctl with nextMode := some (0#64, 5, 5) } } : M).Only t []) ∧
      (m.mode ≠ 1 → m.role = 2 → c ∈ pair → Runs p.1 s fun t => m.Silent t ∧
        (({ m with net := { m.net with forwarded := m.net.forwarded ++ [q c], sessions := t.net.sessions } } : M).ropeOut (.forward c.code x.principal)).Only t []) ∧
      (atOnce ∨ (m.mode ≠ 1 ∧ m.role = 2 ∧ c ∉ pair) → m.cutStatus c ≠ 0 → (∀ i z, c ≠ .online i z) → Refuses p.1 s r x c.code (m.cutStatus c)) ∧
      (∀ i z st, c = .online i z → st = (if m.mode = 1 then 1 else m.cutStatus c) → st ≠ 0 → m.mode = 1 ∨ atOnce ∨ m.role = 2 → Runs p.1 s fun t =>
        m.Answered t r st [] [F.idImgChangeStatus] ∧ t.nat F.idImgChangeStatus = st ∧ m.Raised t (ev 0x0070 0x1080 0x31 st x.principal.toNat)) ∧
      (atOnce → c = .safe → (m.mode = 5 → Replies p.1 s r m [] []) ∧
        (m.mode ≠ 5 → m.role = 3 → Replies p.1 s r { m with ctl := { m.ctl with nextMode := some (m.stroke + 1#64, 5, 5) } } [] [])) ∧
      (atOnce → c = .ack → m.cutStatus c = 0 → m.role = 3 → Replies p.1 s r { m with ctl := { m.ctl with nextMode := some (m.stroke + 1#64, 2, 0) } } [] []) ∧
      (atOnce → c = .safe → m.mode ≠ 5 → m.role ≠ 3 → Runs p.1 s fun t => t.mode = 5 ∧ t.nat F.modStatusSafeCause = 5 ∧ t.on F.modStatusSafeLatched = true ∧
        .reply r 0 [] ∈ t.out) ∧
      (atOnce → c = .ack → m.cutStatus c = 0 → m.role ≠ 3 → Runs p.1 s fun t => t.mode = 2 ∧ .reply r 0 [] ∈ t.out) ∧
      (atOnce → c = .varWrite (ws.take 32) → m.cutStatus c = 0 →
        Replies p.1 s r { m with mem := putWords m.mem (ws.take 32) } [] []) ∧
      (atOnce → c = .detach → m.role = 3 → 2 ≤ m.mode → Runs p.1 s fun t => t.mode = 0 ∧ t.aon.coldAsked = true ∧ t.nat F.redJoinAbortCause = 3)

/-! ### Images, firmware and trust -/

/-- R111 to R113, R126 to R128, R134, R352, R358, R359, R406 to R408: downloads and their checks. Bytes go in order into the slot that is not ACTIVE; the last of them ends the
download, which is refused as FORMAT where LENGTH differs; the verifier's finding makes the slot ACCEPTED or REFUSED with its verdict. Activation is
refused unless the slot is ACCEPTED and no change counts down, is answered first, and restarts the module cold. -/
def Obligations.ImagesAndFirmware : Prop :=
  ∀ (s : State) (r : Req) (x : Session) (off total k : Nat) (data : List Byte) (b : ImageBody), s.m.aon.powered = true → let m := s.m
    let same (c : Instr) : Prop := Runs c s fun t => m.Only t [] ∧ m.Silent t; let going := 2 ≤ m.mode ∧ m.mode ≤ 5; let asks := m.Asks r x ∧ x.May 2 ∧ going
    let n := if m.on (F.idImgSlotActive 0) then 1 else 0; let g := m.img n; let st (t : M) : Nat := t.nat (F.idImgSlotState n); let cmd := Instr.imageDownload r off total data
    let taken (t : M) (start size : Nat) (bs : List Byte) : Prop := (t.img n).total = size ∧ (t.img n).received = start + bs.length ∧
      (∀ i, i < bs.length → (t.img n).bytes.get 0#8 (start + i) = bs.getD i 0#8) ∧ (∀ j, j ≠ n → t.img j = m.img j) ∧ t.mem = m.mem ∧ t.store.fw = m.store.fw ∧
      (start + bs.length < size → st t = 1) ∧
      (size ≤ start + bs.length → (t.slotWord n 8 = size → st t = 2) ∧ (t.slotWord n 8 ≠ size → st t = 4 ∧ t.nat (F.idImgSlotVerdict n) = 2) ∧
        t.reg (F.idImgIdLo n) = word (ofBytesLE ((t.identityOf n).take 4)))
    let part := data.take 65528; let own := asks ∧ m.role ∈ [0, 1, 4] ∧ m.store.change = none; let said (t : M) : Prop := .reply r 0 [] ∈ t.out
    let cold (t : M) : Prop := t.mode = 0 ∧ t.aon.coldAsked = true ∧ t.holds = false ∧ t.out = m.out ++ [.reply r 0 []]
    let f := if m.on (F.secFwSlotActive 0) then 1 else 0; let fg := m.fwImg f; let fst (t : M) : Nat := t.nat (F.secFwSlotState f); let lone := asks ∧ m.role ∈ [0, 4]
    let fwTaken (t : M) (start size : Nat) (bs : List Byte) : Prop := (t.fwImg f).total = size ∧ (t.fwImg f).received = start + bs.length ∧
      (∀ i, i < bs.length → (t.fwImg f).bytes.get 0#8 (start + i) = bs.getD i 0#8) ∧ (∀ j, j ≠ f → t.fwImg j = m.fwImg j) ∧ t.store.slots = m.store.slots ∧
      (start + bs.length < size → fst t = 1) ∧ (size ≤ start + bs.length → fst t = if t.fwWord f 8 = size then 2 else 4)
    let checked := 2 ≤ m.mode ∧ k ≤ 1 ∧ m.nat (F.idImgSlotState k) = 2; let fwChecked := 2 ≤ m.mode ∧ k ≤ 1 ∧ m.nat (F.secFwSlotState k) = 2
    let shadow := m.role = 2 ∨ (m.role = 4 ∧ m.red.refusal = 5 ∧ m.holds = false); let open_ := 2 ≤ m.mode ∧ m.ropeUp = true
    (asks → m.role ∈ [0, 1, 4] → m.store.change.isSome = true → Refuses cmd s r x 0x30 3) ∧
    (own → off = 0 → Runs cmd s fun t => taken t 0 total (part.take total) ∧ t.store.fromRope = false ∧ said t) ∧
    (own → off ≠ 0 → m.nat (F.idImgSlotState n) ≠ 1 ∨ m.store.fromRope = true ∨ off ≠ g.received → Refuses cmd s r x 0x30 28) ∧
    (own → off ≠ 0 → m.nat (F.idImgSlotState n) = 1 → m.store.fromRope = false → off = g.received →
      Runs cmd s fun t => taken t off g.total (part.take (g.total - off)) ∧ said t) ∧
    (¬checked → same (.verifierDone k b)) ∧
    (checked → m.finding k b = none → Runs (.verifierDone k b) s fun t => t.nat (F.idImgSlotState k) = 3 ∧ t.nat (F.idImgSlotVerdict k) = 1 ∧
      t.store.fromRope = false ∧ ((m.store.fromRope = true → ¬(m.role = 4 ∧ m.red.refusal = 5)) → t.mode = m.mode ∧ m.Silent t) ∧
      (m.store.fromRope = true → m.role = 4 → m.red.refusal = 5 → t.mode = 0 ∧ t.aon.coldAsked = true ∧ t.on (F.idImgSlotNext k) = true)) ∧
    (checked → ∀ v pc, m.finding k b = some (v, pc) → Runs (.verifierDone k b) s fun t => t.nat (F.idImgSlotState k) = 4 ∧ t.reg (F.idImgSlotVerdict k) = word v ∧
      t.store.fromRope = false ∧
      (m.store.fromRope = true → m.role = 4 → m.red.refusal = 5 → t.role = 4 ∧ t.red.refusal = 0 ∧ t.nat F.redJoinAbortCause = 7) ∧
      ((m.store.fromRope = true → ¬(m.role = 4 ∧ m.red.refusal = 5)) →
        m.Raised t (ev 0x0011 0x1020 v ((pc.map (taskAt b)).getD 0) (pc.getD 0)) ∧
        ({ m with store := { m.store with fromRope := false } } : M).Only t [F.idImgSlotState k, F.idImgSlotVerdict k])) ∧
    (asks → m.role ≤ 4 → m.nat (F.idImgSlotState (min 1 k)) ≠ 3 → Refuses (.activateAtRestart r k) s r x 0x31 12) ∧
    (asks → m.role ≤ 4 → m.nat (F.idImgSlotState (min 1 k)) = 3 → m.store.change.isSome = true → Refuses (.activateAtRestart r k) s r x 0x31 3) ∧
    (asks → m.role ≤ 4 → m.nat (F.idImgSlotState (min 1 k)) = 3 → m.store.change = none → Runs (.activateAtRestart r k) s fun t => cold t ∧
      ∀ j, j < 2 → t.on (F.idImgSlotNext j) = (j == min 1 k)) ∧
    (lone → off = 0 → Runs (.fwDownload r off total data) s fun t => fwTaken t 0 total (part.take total) ∧ said t) ∧
    (lone → off ≠ 0 → m.nat (F.secFwSlotState f) ≠ 1 ∨ off ≠ fg.received → Refuses (.fwDownload r off total data) s r x 0x32 28) ∧
    (lone → off ≠ 0 → m.nat (F.secFwSlotState f) = 1 → off = fg.received → Runs (.fwDownload r off total data) s fun t =>
      fwTaken t off fg.total (part.take (fg.total - off)) ∧ said t) ∧
    (¬fwChecked → same (.fwCheckDone k)) ∧
    (fwChecked → Runs (.fwCheckDone k) s fun t => m.Silent t ∧ m.Only t [F.secFwSlotState k, F.secFwSlotVerdict k] ∧ t.nat (F.secFwSlotVerdict k) = m.fwVerdict k ∧
      t.nat (F.secFwSlotState k) = if m.fwVerdict k = 1 then 3 else 4) ∧
    (lone → m.nat (F.secFwSlotState (min 1 k)) ≠ 3 → Refuses (.fwActivate r k) s r x 0x33 12) ∧
    (lone → m.nat (F.secFwSlotState (min 1 k)) = 3 → Runs (.fwActivate r k) s fun t => cold t ∧ ∀ j, j < 2 → t.on (F.secFwSlotNext j) = (j == min 1 k)) ∧
    (¬open_ ∨ ¬shadow → same (.ropeImage (.bytes off total data))) ∧
    (open_ → shadow → off = 0 → Runs (.ropeImage (.bytes off total data)) s fun t => taken t 0 total (data.take total) ∧ t.store.fromRope = true) ∧
    (open_ → shadow → off ≠ 0 → m.store.fromRope = true → m.nat (F.idImgSlotState n) = 1 → off = g.received → Runs (.ropeImage (.bytes off total data)) s fun t =>
      taken t off g.total (data.take (g.total - off))) ∧
    (open_ → shadow → off ≠ 0 → m.store.fromRope = false ∨ m.nat (F.idImgSlotState n) ≠ 1 ∨ off ≠ g.received → same (.ropeImage (.bytes off total data)))

/-- R365, R399 to R405, R422: trust material. Anchors are installed in the first free place and removed with ANCHOR_CHANGED, certificates denied by their fingerprint; a
claim makes the module its client's, UNCLAIM erases everything it trusts and its images; a joiner without any takes its holder's; the sets can be
read, and the module attests itself. A SECURE_FAULT is an F2 fault. -/
def Obligations.TrustMaterial : Prop :=
  ∀ (s : State) (r : Req) (x : Session) (k p : Nat) (c : List Byte) (l ic cc dn : List (List Byte)), s.m.aon.powered = true → let m := s.m
    let same (c : Instr) : Prop := Runs c s fun t => m.Only t [] ∧ m.Silent t; let asks (least : Nat) : Prop := m.Asks r x ∧ x.May least ∧ m.mode ≤ 5 ∧ m.role ≤ 4
    let edits := asks 3 ∧ 2 ≤ m.mode; let said (t : M) : Prop := .reply r 0 [] ∈ t.out; let set := min 1 k; let places := if set = 0 then m.store.images else m.store.clients
    let after (t : M) : Tab (List Byte) := if set = 0 then t.store.images else t.store.clients
    let fits (img : Bool) (c : List Byte) : Prop := if img then c.length = 32 ∧ Config.keyOk c = true else c ≠ [] ∧ Config.certificateOk c = true
    let ok := fits (decide (set = 0)) c; let free (i : Nat) : Prop := i < 8 ∧ places.get [] i = []; let was := places.get [] (min 7 p)
    let changed (t : M) (which place : Nat) (print : List Byte) : Prop :=
      m.Raised t (ev 0x0070 0x1083 (Config.anchorSet which) place (low32 print).toNat x.principal.toNat)
    let signed (n : Nat) : List Byte := (List.range 32).map fun i => (m.img n).bytes.get 0#8 (0x58 + i)
    let lasting := (set = 0 ∧ ∃ n, m.activeSlot = some n ∧ signed n = was) ∨ (set = 1 ∧ placesUsed m.store.clients = 1)
    let print := c.take 32; let listed := print ∈ m.store.deny; let claimed := placesUsed m.store.clients ≠ 0; let keys := l.take 8
    Runs .secureFault s (fun t => t.on F.secStatusSecureFault = true ∧ m.Raised t (ev 0x0060 0x5075) ∧
      ({ m with hlt := { m.hlt with latched := addOnce m.hlt.latched 12 } } : M).Only t [F.secStatusSecureFault]) ∧
    (edits → (∀ i, ¬free i) → Refuses (.anchorAdd r k c) s r x 0x82 22) ∧ (edits → (∃ i, free i) → ¬ok → Refuses (.anchorAdd r k c) s r x 0x82 26) ∧
    (edits → ok → ∀ i, free i → (∀ j, free j → i ≤ j) → Runs (.anchorAdd r k c) s fun t => said t ∧ changed t set i (Config.sha256 c) ∧ (after t).get [] i = c ∧
      (∀ j, j ≠ i → (after t).get [] j = places.get [] j) ∧ (if set = 0 then t.store.clients = m.store.clients else t.store.images = m.store.images) ∧
      t.reg (if set = 0 then F.secImgAnchor i else F.secCliAnchor i) = low32 (Config.sha256 c) ∧ t.store.deny = m.store.deny ∧ t.store.slots = m.store.slots) ∧
    (edits → was = [] → Replies (.anchorRemove r k p) s r m [] []) ∧
    (edits → was ≠ [] → lasting → Refuses (.anchorRemove r k p) s r x 0x83 (if set = 0 then 23 else 24)) ∧
    (edits → was ≠ [] → ¬lasting → Runs (.anchorRemove r k p) s fun t => said t ∧ changed t set (min 7 p) (Config.sha256 was) ∧ (after t).get [] (min 7 p) = [] ∧
      (∀ j, j ≠ min 7 p → (after t).get [] j = places.get [] j) ∧
      (set = 0 → ∀ n, n = m.spareSlot → m.nat (F.idImgSlotState n) = 3 → signed n = was → t.nat (F.idImgSlotState n) = 4 ∧ t.nat (F.idImgSlotVerdict n) = 3) ∧
      ∀ y ∈ t.net.sessions, y.auth = true → ∃ e ∈ t.store.clients, e.2 ≠ [] ∧ Config.sha256 e.2 = y.anchor) ∧
    (edits → 16 ≤ m.store.deny.length → Refuses (.denyAdd r c) s r x 0x84 25) ∧ (edits → m.store.deny.length < 16 → listed → Replies (.denyAdd r c) s r m [] []) ∧
    (edits → m.store.deny.length < 16 → ¬listed → Runs (.denyAdd r c) s fun t => said t ∧ changed t 2 m.store.deny.length print ∧
      t.store = { m.store with deny := m.store.deny ++ [print], imageFrom := t.store.imageFrom, fwFrom := t.store.fwFrom } ∧ ∀ y ∈ t.net.sessions, y.auth = true → y.cert ≠ print) ∧
    (edits → ¬listed → Replies (.denyRemove r c) s r m [] []) ∧
    (edits → ∀ pre post, m.store.deny = pre ++ print :: post → print ∉ pre → Runs (.denyRemove r c) s fun t => changed t 2 pre.length print ∧
      ({ m with store := { m.store with deny := pre ++ post } } : M).Answered t r 0 [] []) ∧
    (asks 0 → Replies (.anchorRead r k) s r m ((if k = 1 then (List.range 8).map fun i => m.store.images.get [] i else if k = 2 then (List.range 8).map fun i =>
      m.store.clients.get [] i else if k = 3 then (List.range 16).map fun i => m.store.deny.getD i [] else firmwareAnchors).flatMap sized) []) ∧
    (asks 0 → Replies (.deviceAttest r c) s r m (m.statement c ++ Config.deviceSign (m.statement c)) []) ∧
    (asks 0 → claimed ∨ x.usb = false → Refuses (.claim r c l) s r x 0x80 5) ∧
    (asks 0 → ¬claimed → x.usb = true → m.on F.idStrapsDbgEn = false → Refuses (.claim r c l) s r x 0x80 6) ∧
    (asks 0 → ¬claimed → x.usb = true → m.on F.idStrapsDbgEn = true → ¬(fits false c ∧ ∀ y ∈ keys, fits true y) → Refuses (.claim r c l) s r x 0x80 26) ∧
    (asks 0 → ¬claimed → x.usb = true → m.on F.idStrapsDbgEn = true → fits false c → (∀ y ∈ keys, fits true y) → Runs (.claim r c l) s fun t => said t ∧
      t.store.clients.get [] 0 = c ∧ (placesUsed m.store.images = 0 → ∀ i, i < 8 → t.store.images.get [] i = keys.getD i []) ∧ t.session r = none ∧
      t.on F.secStatusClaimed = true) ∧
    (m.Asks r x → x.usb = false → Refuses (.unclaim r) s r x 0x81 5) ∧ (m.Asks r x → x.usb = true → m.mode ≠ 2 → Refuses (.unclaim r) s r x 0x81 1) ∧
    (m.Asks r x → x.usb = true → m.mode = 2 → m.role ≠ 0 → m.holds = true → Refuses (.unclaim r) s r x 0x81 2) ∧
    let may := m.Asks r x ∧ x.usb = true ∧ m.mode = 2 ∧ (m.role = 0 ∨ m.holds = false)
    (may → m.on F.idStrapsDbgEn = false → Refuses (.unclaim r) s r x 0x81 6) ∧
    (may → m.on F.idStrapsDbgEn = true → Runs (.unclaim r) s fun t => said t ∧ m.Raised t (ev 0x0070 0x3085) ∧ t.net.sessions = [] ∧
      t.store = { m.store with
        change := none, images := [], clients := [], deny := [], slots := [], forwarding := none, fromRope := false
        imageFrom := t.store.imageFrom, fwFrom := t.store.fwFrom } ∧
      (∀ n, n < 2 → t.nat (F.idImgSlotState n) = 0 ∧ t.on (F.idImgSlotActive n) = false ∧ t.on (F.idImgSlotNext n) = false) ∧ t.on F.secStatusClaimed = false) ∧
    let takes := 2 ≤ m.mode ∧ m.ropeUp = true ∧ (m.role = 2 ∨ (m.role = 4 ∧ m.red.refusal = 5 ∧ m.holds = false)) ∧ ¬claimed ∧ placesUsed m.store.images = 0
    (takes → Runs (.ropeImage (.anchors ic cc dn)) s fun t => m.Raised t (ev 0x0070 0x1086) ∧ t.store.deny = dn.take 16 ∧
      (∀ i, i < 8 → t.store.images.get [] i = ic.getD i [] ∧ t.store.clients.get [] i = cc.getD i []) ∧ t.store.slots = m.store.slots) ∧
    (¬takes → same (.ropeImage (.anchors ic cc dn)))

/-- R379, R387, R388: the log read and cleared by the host. A read gives at most 1000 records from a SEQ, or from the oldest, with what the header says of the log;
places that fail their check are given, and kept, as bad. A clear is refused while a record is newer than UPTO; then LOG_CLEARED is the first
record of the empty log. -/
def Obligations.LogReadAndClear : Prop :=
  ∀ (s : State) (r : Req) (x : Session) (w : Word) (n : Nat) (bad : List Nat), s.m.aon.powered = true → let m := s.m
    let base := m.reg F.logBaseSeq; let start := if 1 ≤ (base - w).toNat ∧ (base - w).toNat ≤ 2147483648 then base else w; let skip := (start - base).toNat
    let count := max 1 (min 1000 n); let opened := m.log.opened.toList; let ok (least : Nat) : Prop := m.Asks r x ∧ x.May least ∧ m.mode ≤ 5 ∧ m.role ≤ 4
    let reads (i : Nat) : Prop := skip ≤ i ∧ i < skip + count; let next := m.reg F.logNextSeq
    let body (records : List LogRec) : List Byte := let l := ((records ++ opened).drop skip).take count
      bytesLE 4 start.toNat ++ bytesLE 4 l.length ++ bytesLE 4 base.toNat ++ bytesLE 4 next.toNat ++ bytesLE 4 (m.nat F.logLost) ++
        bytesLE 1 (boolNat (m.on F.logStatFull) + 2 * boolNat (m.log.opened.isSome && l.getLast? == m.log.opened)) ++ List.replicate 11 0#8 ++ l.flatMap recordBytes
    let newer := ∃ y ∈ m.log.records ++ opened, 1 ≤ (y.seq - w).toNat ∧ (y.seq - w).toNat < 2147483648
    let e := ev 0x0001 0x1002 base.toNat (next - 1#32).toNat (m.nat F.logLost) x.principal.toNat
    (ok 0 → ∀ k, Runs (.logRead r w n [] ⟨k, []⟩) s fun t => m.Answered t r 0 (body m.log.records) [F.memEccMramCorrected] ∧ m.Silent t ∧
      t.nat F.memEccMramCorrected = min 65535 (m.nat F.memEccMramCorrected + k)) ∧
    (ok 0 → Runs (.logRead r w n bad ⟨0, []⟩) s fun t => m.Silent t ∧ ({ m with log := { m.log with records := t.log.records } } : M).Answered t r 0 (body t.log.records) [F.memEccMramCorrected] ∧
      t.log.records.length = m.log.records.length ∧ ∀ i y, m.log.records[i]? = some y → t.log.records[i]? = some (if i ∈ bad ∧ reads i then badRecord y.seq else y)) ∧
    (ok 0 → ∀ i, i < m.log.records.length → reads i → i ∉ m.log.reported → Runs (.logRead r w n [] ⟨0, [i]⟩) s fun t => m.Raised t (ev 0x0001 0x1005 i) ∧
      t.log.reported = i :: m.log.reported ∧ .reply r 0 (body t.log.records) ∈ t.out ∧ ∀ y, m.log.records[i]? = some y → t.log.records[i]? = some (badRecord y.seq)) ∧
    (ok 3 → 2 ≤ m.mode → newer → Refuses (.logClear r w) s r x 0x71 21) ∧
    (ok 3 → 2 ≤ m.mode → ¬newer → Runs (.logClear r w) s fun t => m.Silent t ∧ .reply r 0 [] ∈ t.out ∧ t.log.records = [] ∧ t.log.reported = [] ∧
      t.reg F.logBaseSeq = next ∧ t.reg F.logNextSeq = next + 1#32 ∧ t.on F.logStatFull = false ∧ t.nat F.logLost = 0 ∧ t.nat F.logStatCount = 1 ∧
      ∃ y, t.log.opened = some y ∧ y.seq = next ∧ y.event = e ∧ y.first = m.stroke ∧ y.last = m.stroke ∧ y.wall = m.wall ∧ y.repeats = 0)
end

