-- ==== Sys2Proof/Laws/State.lean ====
section
/-! SUPPORT. One lemma per field of the module per update of the register file, and what an output, a frame on the rope and an event of the stroke leave of the module. -/

namespace Sys2Proof.Machine

@[simp] theorem M.set_mem (s : M) (k : Nat) (v : Word) : (s.set k v).mem = s.mem := rfl
@[simp] theorem M.set_fy (s : M) (k : Nat) (v : Word) : (s.set k v).fy = s.fy := rfl
@[simp] theorem M.set_aon (s : M) (k : Nat) (v : Word) : (s.set k v).aon = s.aon := rfl
@[simp] theorem M.set_ctl (s : M) (k : Nat) (v : Word) : (s.set k v).ctl = s.ctl := rfl
@[simp] theorem M.set_run (s : M) (k : Nat) (v : Word) : (s.set k v).run = s.run := rfl
@[simp] theorem M.set_store (s : M) (k : Nat) (v : Word) : (s.set k v).store = s.store := rfl
@[simp] theorem M.set_saves (s : M) (k : Nat) (v : Word) : (s.set k v).saves = s.saves := rfl
@[simp] theorem M.set_dw (s : M) (k : Nat) (v : Word) : (s.set k v).dw = s.dw := rfl
@[simp] theorem M.set_aio (s : M) (k : Nat) (v : Word) : (s.set k v).aio = s.aio := rfl
@[simp] theorem M.set_aw (s : M) (k : Nat) (v : Word) : (s.set k v).aw = s.aw := rfl
@[simp] theorem M.set_hart (s : M) (k : Nat) (v : Word) : (s.set k v).hart = s.hart := rfl
@[simp] theorem M.set_hartQ (s : M) (k : Nat) (v : Word) : (s.set k v).hartQ = s.hartQ := rfl
@[simp] theorem M.set_can (s : M) (k : Nat) (v : Word) : (s.set k v).can = s.can := rfl
@[simp] theorem M.set_fifos (s : M) (k : Nat) (v : Word) : (s.set k v).fifos = s.fifos := rfl
@[simp] theorem M.set_boxes (s : M) (k : Nat) (v : Word) : (s.set k v).boxes = s.boxes := rfl
@[simp] theorem M.set_ring (s : M) (k : Nat) (v : Word) : (s.set k v).ring = s.ring := rfl
@[simp] theorem M.set_net (s : M) (k : Nat) (v : Word) : (s.set k v).net = s.net := rfl
@[simp] theorem M.set_red (s : M) (k : Nat) (v : Word) : (s.set k v).red = s.red := rfl
@[simp] theorem M.set_hlt (s : M) (k : Nat) (v : Word) : (s.set k v).hlt = s.hlt := rfl
@[simp] theorem M.set_log (s : M) (k : Nat) (v : Word) : (s.set k v).log = s.log := rfl
@[simp] theorem M.set_out (s : M) (k : Nat) (v : Word) : (s.set k v).out = s.out := rfl

@[simp] theorem M.setN_mem (s : M) (k n : Nat) : (s.setN k n).mem = s.mem := rfl
@[simp] theorem M.setN_fy (s : M) (k n : Nat) : (s.setN k n).fy = s.fy := rfl
@[simp] theorem M.setN_aon (s : M) (k n : Nat) : (s.setN k n).aon = s.aon := rfl
@[simp] theorem M.setN_ctl (s : M) (k n : Nat) : (s.setN k n).ctl = s.ctl := rfl
@[simp] theorem M.setN_run (s : M) (k n : Nat) : (s.setN k n).run = s.run := rfl
@[simp] theorem M.setN_store (s : M) (k n : Nat) : (s.setN k n).store = s.store := rfl
@[simp] theorem M.setN_saves (s : M) (k n : Nat) : (s.setN k n).saves = s.saves := rfl
@[simp] theorem M.setN_dw (s : M) (k n : Nat) : (s.setN k n).dw = s.dw := rfl
@[simp] theorem M.setN_aio (s : M) (k n : Nat) : (s.setN k n).aio = s.aio := rfl
@[simp] theorem M.setN_aw (s : M) (k n : Nat) : (s.setN k n).aw = s.aw := rfl
@[simp] theorem M.setN_hart (s : M) (k n : Nat) : (s.setN k n).hart = s.hart := rfl
@[simp] theorem M.setN_hartQ (s : M) (k n : Nat) : (s.setN k n).hartQ = s.hartQ := rfl
@[simp] theorem M.setN_can (s : M) (k n : Nat) : (s.setN k n).can = s.can := rfl
@[simp] theorem M.setN_fifos (s : M) (k n : Nat) : (s.setN k n).fifos = s.fifos := rfl
@[simp] theorem M.setN_boxes (s : M) (k n : Nat) : (s.setN k n).boxes = s.boxes := rfl
@[simp] theorem M.setN_ring (s : M) (k n : Nat) : (s.setN k n).ring = s.ring := rfl
@[simp] theorem M.setN_net (s : M) (k n : Nat) : (s.setN k n).net = s.net := rfl
@[simp] theorem M.setN_red (s : M) (k n : Nat) : (s.setN k n).red = s.red := rfl
@[simp] theorem M.setN_hlt (s : M) (k n : Nat) : (s.setN k n).hlt = s.hlt := rfl
@[simp] theorem M.setN_log (s : M) (k n : Nat) : (s.setN k n).log = s.log := rfl
@[simp] theorem M.setN_out (s : M) (k n : Nat) : (s.setN k n).out = s.out := rfl

@[simp] theorem M.setB_mem (s : M) (k : Nat) (b : Bool) : (s.setB k b).mem = s.mem := rfl
@[simp] theorem M.setB_fy (s : M) (k : Nat) (b : Bool) : (s.setB k b).fy = s.fy := rfl
@[simp] theorem M.setB_aon (s : M) (k : Nat) (b : Bool) : (s.setB k b).aon = s.aon := rfl
@[simp] theorem M.setB_ctl (s : M) (k : Nat) (b : Bool) : (s.setB k b).ctl = s.ctl := rfl
@[simp] theorem M.setB_run (s : M) (k : Nat) (b : Bool) : (s.setB k b).run = s.run := rfl
@[simp] theorem M.setB_store (s : M) (k : Nat) (b : Bool) : (s.setB k b).store = s.store := rfl
@[simp] theorem M.setB_saves (s : M) (k : Nat) (b : Bool) : (s.setB k b).saves = s.saves := rfl
@[simp] theorem M.setB_dw (s : M) (k : Nat) (b : Bool) : (s.setB k b).dw = s.dw := rfl
@[simp] theorem M.setB_aio (s : M) (k : Nat) (b : Bool) : (s.setB k b).aio = s.aio := rfl
@[simp] theorem M.setB_aw (s : M) (k : Nat) (b : Bool) : (s.setB k b).aw = s.aw := rfl
@[simp] theorem M.setB_hart (s : M) (k : Nat) (b : Bool) : (s.setB k b).hart = s.hart := rfl
@[simp] theorem M.setB_hartQ (s : M) (k : Nat) (b : Bool) : (s.setB k b).hartQ = s.hartQ := rfl
@[simp] theorem M.setB_can (s : M) (k : Nat) (b : Bool) : (s.setB k b).can = s.can := rfl
@[simp] theorem M.setB_fifos (s : M) (k : Nat) (b : Bool) : (s.setB k b).fifos = s.fifos := rfl
@[simp] theorem M.setB_boxes (s : M) (k : Nat) (b : Bool) : (s.setB k b).boxes = s.boxes := rfl
@[simp] theorem M.setB_ring (s : M) (k : Nat) (b : Bool) : (s.setB k b).ring = s.ring := rfl
@[simp] theorem M.setB_net (s : M) (k : Nat) (b : Bool) : (s.setB k b).net = s.net := rfl
@[simp] theorem M.setB_red (s : M) (k : Nat) (b : Bool) : (s.setB k b).red = s.red := rfl
@[simp] theorem M.setB_hlt (s : M) (k : Nat) (b : Bool) : (s.setB k b).hlt = s.hlt := rfl
@[simp] theorem M.setB_log (s : M) (k : Nat) (b : Bool) : (s.setB k b).log = s.log := rfl
@[simp] theorem M.setB_out (s : M) (k : Nat) (b : Bool) : (s.setB k b).out = s.out := rfl

@[simp] theorem M.bump_mem (s : M) (k top n : Nat) : (s.bump k top n).mem = s.mem := rfl
@[simp] theorem M.bump_fy (s : M) (k top n : Nat) : (s.bump k top n).fy = s.fy := rfl
@[simp] theorem M.bump_aon (s : M) (k top n : Nat) : (s.bump k top n).aon = s.aon := rfl
@[simp] theorem M.bump_ctl (s : M) (k top n : Nat) : (s.bump k top n).ctl = s.ctl := rfl
@[simp] theorem M.bump_run (s : M) (k top n : Nat) : (s.bump k top n).run = s.run := rfl
@[simp] theorem M.bump_store (s : M) (k top n : Nat) : (s.bump k top n).store = s.store := rfl
@[simp] theorem M.bump_saves (s : M) (k top n : Nat) : (s.bump k top n).saves = s.saves := rfl
@[simp] theorem M.bump_dw (s : M) (k top n : Nat) : (s.bump k top n).dw = s.dw := rfl
@[simp] theorem M.bump_aio (s : M) (k top n : Nat) : (s.bump k top n).aio = s.aio := rfl
@[simp] theorem M.bump_aw (s : M) (k top n : Nat) : (s.bump k top n).aw = s.aw := rfl
@[simp] theorem M.bump_hart (s : M) (k top n : Nat) : (s.bump k top n).hart = s.hart := rfl
@[simp] theorem M.bump_hartQ (s : M) (k top n : Nat) : (s.bump k top n).hartQ = s.hartQ := rfl
@[simp] theorem M.bump_can (s : M) (k top n : Nat) : (s.bump k top n).can = s.can := rfl
@[simp] theorem M.bump_fifos (s : M) (k top n : Nat) : (s.bump k top n).fifos = s.fifos := rfl
@[simp] theorem M.bump_boxes (s : M) (k top n : Nat) : (s.bump k top n).boxes = s.boxes := rfl
@[simp] theorem M.bump_ring (s : M) (k top n : Nat) : (s.bump k top n).ring = s.ring := rfl
@[simp] theorem M.bump_net (s : M) (k top n : Nat) : (s.bump k top n).net = s.net := rfl
@[simp] theorem M.bump_red (s : M) (k top n : Nat) : (s.bump k top n).red = s.red := rfl
@[simp] theorem M.bump_hlt (s : M) (k top n : Nat) : (s.bump k top n).hlt = s.hlt := rfl
@[simp] theorem M.bump_log (s : M) (k top n : Nat) : (s.bump k top n).log = s.log := rfl
@[simp] theorem M.bump_out (s : M) (k top n : Nat) : (s.bump k top n).out = s.out := rfl

@[simp] theorem M.set64_mem (s : M) (lo hi : Nat) (v : DWord) : (s.set64 lo hi v).mem = s.mem := rfl
@[simp] theorem M.set64_fy (s : M) (lo hi : Nat) (v : DWord) : (s.set64 lo hi v).fy = s.fy := rfl
@[simp] theorem M.set64_aon (s : M) (lo hi : Nat) (v : DWord) : (s.set64 lo hi v).aon = s.aon := rfl
@[simp] theorem M.set64_ctl (s : M) (lo hi : Nat) (v : DWord) : (s.set64 lo hi v).ctl = s.ctl := rfl
@[simp] theorem M.set64_run (s : M) (lo hi : Nat) (v : DWord) : (s.set64 lo hi v).run = s.run := rfl
@[simp] theorem M.set64_store (s : M) (lo hi : Nat) (v : DWord) : (s.set64 lo hi v).store = s.store := rfl
@[simp] theorem M.set64_saves (s : M) (lo hi : Nat) (v : DWord) : (s.set64 lo hi v).saves = s.saves := rfl
@[simp] theorem M.set64_dw (s : M) (lo hi : Nat) (v : DWord) : (s.set64 lo hi v).dw = s.dw := rfl
@[simp] theorem M.set64_aio (s : M) (lo hi : Nat) (v : DWord) : (s.set64 lo hi v).aio = s.aio := rfl
@[simp] theorem M.set64_aw (s : M) (lo hi : Nat) (v : DWord) : (s.set64 lo hi v).aw = s.aw := rfl
@[simp] theorem M.set64_hart (s : M) (lo hi : Nat) (v : DWord) : (s.set64 lo hi v).hart = s.hart := rfl
@[simp] theorem M.set64_hartQ (s : M) (lo hi : Nat) (v : DWord) : (s.set64 lo hi v).hartQ = s.hartQ := rfl
@[simp] theorem M.set64_can (s : M) (lo hi : Nat) (v : DWord) : (s.set64 lo hi v).can = s.can := rfl
@[simp] theorem M.set64_fifos (s : M) (lo hi : Nat) (v : DWord) : (s.set64 lo hi v).fifos = s.fifos := rfl
@[simp] theorem M.set64_boxes (s : M) (lo hi : Nat) (v : DWord) : (s.set64 lo hi v).boxes = s.boxes := rfl
@[simp] theorem M.set64_ring (s : M) (lo hi : Nat) (v : DWord) : (s.set64 lo hi v).ring = s.ring := rfl
@[simp] theorem M.set64_net (s : M) (lo hi : Nat) (v : DWord) : (s.set64 lo hi v).net = s.net := rfl
@[simp] theorem M.set64_red (s : M) (lo hi : Nat) (v : DWord) : (s.set64 lo hi v).red = s.red := rfl
@[simp] theorem M.set64_hlt (s : M) (lo hi : Nat) (v : DWord) : (s.set64 lo hi v).hlt = s.hlt := rfl
@[simp] theorem M.set64_log (s : M) (lo hi : Nat) (v : DWord) : (s.set64 lo hi v).log = s.log := rfl
@[simp] theorem M.set64_out (s : M) (lo hi : Nat) (v : DWord) : (s.set64 lo hi v).out = s.out := rfl

@[simp] theorem M.setDomain_mem (s : M) (d : Nat) (b : Bool) : (s.setDomain d b).mem = s.mem := rfl
@[simp] theorem M.setDomain_fy (s : M) (d : Nat) (b : Bool) : (s.setDomain d b).fy = s.fy := rfl
@[simp] theorem M.setDomain_aon (s : M) (d : Nat) (b : Bool) : (s.setDomain d b).aon = s.aon := rfl
@[simp] theorem M.setDomain_ctl (s : M) (d : Nat) (b : Bool) : (s.setDomain d b).ctl = s.ctl := rfl
@[simp] theorem M.setDomain_run (s : M) (d : Nat) (b : Bool) : (s.setDomain d b).run = s.run := rfl
@[simp] theorem M.setDomain_store (s : M) (d : Nat) (b : Bool) : (s.setDomain d b).store = s.store := rfl
@[simp] theorem M.setDomain_saves (s : M) (d : Nat) (b : Bool) : (s.setDomain d b).saves = s.saves := rfl
@[simp] theorem M.setDomain_dw (s : M) (d : Nat) (b : Bool) : (s.setDomain d b).dw = s.dw := rfl
@[simp] theorem M.setDomain_aio (s : M) (d : Nat) (b : Bool) : (s.setDomain d b).aio = s.aio := rfl
@[simp] theorem M.setDomain_aw (s : M) (d : Nat) (b : Bool) : (s.setDomain d b).aw = s.aw := rfl
@[simp] theorem M.setDomain_hart (s : M) (d : Nat) (b : Bool) : (s.setDomain d b).hart = s.hart := rfl
@[simp] theorem M.setDomain_hartQ (s : M) (d : Nat) (b : Bool) : (s.setDomain d b).hartQ = s.hartQ := rfl
@[simp] theorem M.setDomain_can (s : M) (d : Nat) (b : Bool) : (s.setDomain d b).can = s.can := rfl
@[simp] theorem M.setDomain_fifos (s : M) (d : Nat) (b : Bool) : (s.setDomain d b).fifos = s.fifos := rfl
@[simp] theorem M.setDomain_boxes (s : M) (d : Nat) (b : Bool) : (s.setDomain d b).boxes = s.boxes := rfl
@[simp] theorem M.setDomain_ring (s : M) (d : Nat) (b : Bool) : (s.setDomain d b).ring = s.ring := rfl
@[simp] theorem M.setDomain_net (s : M) (d : Nat) (b : Bool) : (s.setDomain d b).net = s.net := rfl
@[simp] theorem M.setDomain_red (s : M) (d : Nat) (b : Bool) : (s.setDomain d b).red = s.red := rfl
@[simp] theorem M.setDomain_hlt (s : M) (d : Nat) (b : Bool) : (s.setDomain d b).hlt = s.hlt := rfl
@[simp] theorem M.setDomain_log (s : M) (d : Nat) (b : Bool) : (s.setDomain d b).log = s.log := rfl
@[simp] theorem M.setDomain_out (s : M) (d : Nat) (b : Bool) : (s.setDomain d b).out = s.out := rfl

@[simp] theorem M.wrap_mem (s : M) (k w n : Nat) : (s.wrap k w n).mem = s.mem := rfl
@[simp] theorem M.wrap_fy (s : M) (k w n : Nat) : (s.wrap k w n).fy = s.fy := rfl
@[simp] theorem M.wrap_aon (s : M) (k w n : Nat) : (s.wrap k w n).aon = s.aon := rfl
@[simp] theorem M.wrap_ctl (s : M) (k w n : Nat) : (s.wrap k w n).ctl = s.ctl := rfl
@[simp] theorem M.wrap_run (s : M) (k w n : Nat) : (s.wrap k w n).run = s.run := rfl
@[simp] theorem M.wrap_store (s : M) (k w n : Nat) : (s.wrap k w n).store = s.store := rfl
@[simp] theorem M.wrap_saves (s : M) (k w n : Nat) : (s.wrap k w n).saves = s.saves := rfl
@[simp] theorem M.wrap_dw (s : M) (k w n : Nat) : (s.wrap k w n).dw = s.dw := rfl
@[simp] theorem M.wrap_aio (s : M) (k w n : Nat) : (s.wrap k w n).aio = s.aio := rfl
@[simp] theorem M.wrap_aw (s : M) (k w n : Nat) : (s.wrap k w n).aw = s.aw := rfl
@[simp] theorem M.wrap_hart (s : M) (k w n : Nat) : (s.wrap k w n).hart = s.hart := rfl
@[simp] theorem M.wrap_hartQ (s : M) (k w n : Nat) : (s.wrap k w n).hartQ = s.hartQ := rfl
@[simp] theorem M.wrap_can (s : M) (k w n : Nat) : (s.wrap k w n).can = s.can := rfl
@[simp] theorem M.wrap_fifos (s : M) (k w n : Nat) : (s.wrap k w n).fifos = s.fifos := rfl
@[simp] theorem M.wrap_boxes (s : M) (k w n : Nat) : (s.wrap k w n).boxes = s.boxes := rfl
@[simp] theorem M.wrap_ring (s : M) (k w n : Nat) : (s.wrap k w n).ring = s.ring := rfl
@[simp] theorem M.wrap_net (s : M) (k w n : Nat) : (s.wrap k w n).net = s.net := rfl
@[simp] theorem M.wrap_red (s : M) (k w n : Nat) : (s.wrap k w n).red = s.red := rfl
@[simp] theorem M.wrap_hlt (s : M) (k w n : Nat) : (s.wrap k w n).hlt = s.hlt := rfl
@[simp] theorem M.wrap_log (s : M) (k w n : Nat) : (s.wrap k w n).log = s.log := rfl
@[simp] theorem M.wrap_out (s : M) (k w n : Nat) : (s.wrap k w n).out = s.out := rfl

@[simp] theorem M.setRestarting_mem (s : M) (t : Nat) (b : Bool) : (s.setRestarting t b).mem = s.mem := rfl
@[simp] theorem M.setRestarting_fy (s : M) (t : Nat) (b : Bool) : (s.setRestarting t b).fy = s.fy := rfl
@[simp] theorem M.setRestarting_aon (s : M) (t : Nat) (b : Bool) : (s.setRestarting t b).aon = s.aon := rfl
@[simp] theorem M.setRestarting_ctl (s : M) (t : Nat) (b : Bool) : (s.setRestarting t b).ctl = s.ctl := rfl
@[simp] theorem M.setRestarting_run (s : M) (t : Nat) (b : Bool) : (s.setRestarting t b).run = s.run := rfl
@[simp] theorem M.setRestarting_store (s : M) (t : Nat) (b : Bool) : (s.setRestarting t b).store = s.store := rfl
@[simp] theorem M.setRestarting_saves (s : M) (t : Nat) (b : Bool) : (s.setRestarting t b).saves = s.saves := rfl
@[simp] theorem M.setRestarting_dw (s : M) (t : Nat) (b : Bool) : (s.setRestarting t b).dw = s.dw := rfl
@[simp] theorem M.setRestarting_aio (s : M) (t : Nat) (b : Bool) : (s.setRestarting t b).aio = s.aio := rfl
@[simp] theorem M.setRestarting_aw (s : M) (t : Nat) (b : Bool) : (s.setRestarting t b).aw = s.aw := rfl
@[simp] theorem M.setRestarting_hart (s : M) (t : Nat) (b : Bool) : (s.setRestarting t b).hart = s.hart := rfl
@[simp] theorem M.setRestarting_hartQ (s : M) (t : Nat) (b : Bool) : (s.setRestarting t b).hartQ = s.hartQ := rfl
@[simp] theorem M.setRestarting_can (s : M) (t : Nat) (b : Bool) : (s.setRestarting t b).can = s.can := rfl
@[simp] theorem M.setRestarting_fifos (s : M) (t : Nat) (b : Bool) : (s.setRestarting t b).fifos = s.fifos := rfl
@[simp] theorem M.setRestarting_boxes (s : M) (t : Nat) (b : Bool) : (s.setRestarting t b).boxes = s.boxes := rfl
@[simp] theorem M.setRestarting_ring (s : M) (t : Nat) (b : Bool) : (s.setRestarting t b).ring = s.ring := rfl
@[simp] theorem M.setRestarting_net (s : M) (t : Nat) (b : Bool) : (s.setRestarting t b).net = s.net := rfl
@[simp] theorem M.setRestarting_red (s : M) (t : Nat) (b : Bool) : (s.setRestarting t b).red = s.red := rfl
@[simp] theorem M.setRestarting_hlt (s : M) (t : Nat) (b : Bool) : (s.setRestarting t b).hlt = s.hlt := rfl
@[simp] theorem M.setRestarting_log (s : M) (t : Nat) (b : Bool) : (s.setRestarting t b).log = s.log := rfl
@[simp] theorem M.setRestarting_out (s : M) (t : Nat) (b : Bool) : (s.setRestarting t b).out = s.out := rfl

@[simp] theorem M.showRestart_mem (s : M) (t st : Nat) : (s.showRestart t st).mem = s.mem := rfl
@[simp] theorem M.showRestart_fy (s : M) (t st : Nat) : (s.showRestart t st).fy = s.fy := rfl
@[simp] theorem M.showRestart_aon (s : M) (t st : Nat) : (s.showRestart t st).aon = s.aon := rfl
@[simp] theorem M.showRestart_ctl (s : M) (t st : Nat) : (s.showRestart t st).ctl = s.ctl := rfl
@[simp] theorem M.showRestart_run (s : M) (t st : Nat) : (s.showRestart t st).run = s.run := rfl
@[simp] theorem M.showRestart_store (s : M) (t st : Nat) : (s.showRestart t st).store = s.store := rfl
@[simp] theorem M.showRestart_saves (s : M) (t st : Nat) : (s.showRestart t st).saves = s.saves := rfl
@[simp] theorem M.showRestart_dw (s : M) (t st : Nat) : (s.showRestart t st).dw = s.dw := rfl
@[simp] theorem M.showRestart_aio (s : M) (t st : Nat) : (s.showRestart t st).aio = s.aio := rfl
@[simp] theorem M.showRestart_aw (s : M) (t st : Nat) : (s.showRestart t st).aw = s.aw := rfl
@[simp] theorem M.showRestart_hart (s : M) (t st : Nat) : (s.showRestart t st).hart = s.hart := rfl
@[simp] theorem M.showRestart_hartQ (s : M) (t st : Nat) : (s.showRestart t st).hartQ = s.hartQ := rfl
@[simp] theorem M.showRestart_can (s : M) (t st : Nat) : (s.showRestart t st).can = s.can := rfl
@[simp] theorem M.showRestart_fifos (s : M) (t st : Nat) : (s.showRestart t st).fifos = s.fifos := rfl
@[simp] theorem M.showRestart_boxes (s : M) (t st : Nat) : (s.showRestart t st).boxes = s.boxes := rfl
@[simp] theorem M.showRestart_ring (s : M) (t st : Nat) : (s.showRestart t st).ring = s.ring := rfl
@[simp] theorem M.showRestart_net (s : M) (t st : Nat) : (s.showRestart t st).net = s.net := rfl
@[simp] theorem M.showRestart_red (s : M) (t st : Nat) : (s.showRestart t st).red = s.red := rfl
@[simp] theorem M.showRestart_hlt (s : M) (t st : Nat) : (s.showRestart t st).hlt = s.hlt := rfl
@[simp] theorem M.showRestart_log (s : M) (t st : Nat) : (s.showRestart t st).log = s.log := rfl
@[simp] theorem M.showRestart_out (s : M) (t st : Nat) : (s.showRestart t st).out = s.out := rfl

@[simp] theorem M.emit_out (s : M) (x : Out) : (s.emit x).out = s.out ++ [x] := rfl
@[simp] theorem M.emit_fields (s : M) (x : Out) : (s.emit x).fields = s.fields := rfl
@[simp] theorem M.emit_mem (s : M) (x : Out) : (s.emit x).mem = s.mem := rfl
@[simp] theorem M.emit_fy (s : M) (x : Out) : (s.emit x).fy = s.fy := rfl
@[simp] theorem M.emit_aon (s : M) (x : Out) : (s.emit x).aon = s.aon := rfl
@[simp] theorem M.emit_ctl (s : M) (x : Out) : (s.emit x).ctl = s.ctl := rfl
@[simp] theorem M.emit_run (s : M) (x : Out) : (s.emit x).run = s.run := rfl
@[simp] theorem M.emit_store (s : M) (x : Out) : (s.emit x).store = s.store := rfl
@[simp] theorem M.emit_saves (s : M) (x : Out) : (s.emit x).saves = s.saves := rfl
@[simp] theorem M.emit_dw (s : M) (x : Out) : (s.emit x).dw = s.dw := rfl
@[simp] theorem M.emit_aio (s : M) (x : Out) : (s.emit x).aio = s.aio := rfl
@[simp] theorem M.emit_aw (s : M) (x : Out) : (s.emit x).aw = s.aw := rfl
@[simp] theorem M.emit_hart (s : M) (x : Out) : (s.emit x).hart = s.hart := rfl
@[simp] theorem M.emit_hartQ (s : M) (x : Out) : (s.emit x).hartQ = s.hartQ := rfl
@[simp] theorem M.emit_can (s : M) (x : Out) : (s.emit x).can = s.can := rfl
@[simp] theorem M.emit_fifos (s : M) (x : Out) : (s.emit x).fifos = s.fifos := rfl
@[simp] theorem M.emit_boxes (s : M) (x : Out) : (s.emit x).boxes = s.boxes := rfl
@[simp] theorem M.emit_ring (s : M) (x : Out) : (s.emit x).ring = s.ring := rfl
@[simp] theorem M.emit_net (s : M) (x : Out) : (s.emit x).net = s.net := rfl
@[simp] theorem M.emit_red (s : M) (x : Out) : (s.emit x).red = s.red := rfl
@[simp] theorem M.emit_hlt (s : M) (x : Out) : (s.emit x).hlt = s.hlt := rfl
@[simp] theorem M.emit_log (s : M) (x : Out) : (s.emit x).log = s.log := rfl

@[simp] theorem M.ropeOut_fields (s : M) (x : Out) (n : Nat) : (s.ropeOut x n).fields = s.fields := rfl
@[simp] theorem M.ropeOut_mem (s : M) (x : Out) (n : Nat) : (s.ropeOut x n).mem = s.mem := rfl
@[simp] theorem M.ropeOut_fy (s : M) (x : Out) (n : Nat) : (s.ropeOut x n).fy = s.fy := rfl
@[simp] theorem M.ropeOut_aon (s : M) (x : Out) (n : Nat) : (s.ropeOut x n).aon = s.aon := rfl
@[simp] theorem M.ropeOut_ctl (s : M) (x : Out) (n : Nat) : (s.ropeOut x n).ctl = s.ctl := rfl
@[simp] theorem M.ropeOut_run (s : M) (x : Out) (n : Nat) : (s.ropeOut x n).run = s.run := rfl
@[simp] theorem M.ropeOut_store (s : M) (x : Out) (n : Nat) : (s.ropeOut x n).store = s.store := rfl
@[simp] theorem M.ropeOut_saves (s : M) (x : Out) (n : Nat) : (s.ropeOut x n).saves = s.saves := rfl
@[simp] theorem M.ropeOut_dw (s : M) (x : Out) (n : Nat) : (s.ropeOut x n).dw = s.dw := rfl
@[simp] theorem M.ropeOut_aio (s : M) (x : Out) (n : Nat) : (s.ropeOut x n).aio = s.aio := rfl
@[simp] theorem M.ropeOut_aw (s : M) (x : Out) (n : Nat) : (s.ropeOut x n).aw = s.aw := rfl
@[simp] theorem M.ropeOut_hart (s : M) (x : Out) (n : Nat) : (s.ropeOut x n).hart = s.hart := rfl
@[simp] theorem M.ropeOut_hartQ (s : M) (x : Out) (n : Nat) : (s.ropeOut x n).hartQ = s.hartQ := rfl
@[simp] theorem M.ropeOut_can (s : M) (x : Out) (n : Nat) : (s.ropeOut x n).can = s.can := rfl
@[simp] theorem M.ropeOut_fifos (s : M) (x : Out) (n : Nat) : (s.ropeOut x n).fifos = s.fifos := rfl
@[simp] theorem M.ropeOut_boxes (s : M) (x : Out) (n : Nat) : (s.ropeOut x n).boxes = s.boxes := rfl
@[simp] theorem M.ropeOut_ring (s : M) (x : Out) (n : Nat) : (s.ropeOut x n).ring = s.ring := rfl
@[simp] theorem M.ropeOut_net (s : M) (x : Out) (n : Nat) : (s.ropeOut x n).net = s.net := rfl
@[simp] theorem M.ropeOut_hlt (s : M) (x : Out) (n : Nat) : (s.ropeOut x n).hlt = s.hlt := rfl
@[simp] theorem M.ropeOut_log (s : M) (x : Out) (n : Nat) : (s.ropeOut x n).log = s.log := rfl
@[simp] theorem M.ropeOut_out (s : M) (x : Out) (n : Nat) : (s.ropeOut x n).out = s.out ++ [x] := rfl
@[simp] theorem M.ropeOut_red (s : M) (x : Out) (n : Nat) : (s.ropeOut x n).red = { s.red with seq := (s.red.seq + n) % 4294967296 } := rfl

@[simp] theorem M.strokeEvent_fields (s : M) (e : Event) : (s.strokeEvent e).fields = s.fields := rfl
@[simp] theorem M.strokeEvent_mem (s : M) (e : Event) : (s.strokeEvent e).mem = s.mem := rfl
@[simp] theorem M.strokeEvent_fy (s : M) (e : Event) : (s.strokeEvent e).fy = s.fy := rfl
@[simp] theorem M.strokeEvent_aon (s : M) (e : Event) : (s.strokeEvent e).aon = s.aon := rfl
@[simp] theorem M.strokeEvent_ctl (s : M) (e : Event) : (s.strokeEvent e).ctl = s.ctl := rfl
@[simp] theorem M.strokeEvent_store (s : M) (e : Event) : (s.strokeEvent e).store = s.store := rfl
@[simp] theorem M.strokeEvent_saves (s : M) (e : Event) : (s.strokeEvent e).saves = s.saves := rfl
@[simp] theorem M.strokeEvent_dw (s : M) (e : Event) : (s.strokeEvent e).dw = s.dw := rfl
@[simp] theorem M.strokeEvent_aio (s : M) (e : Event) : (s.strokeEvent e).aio = s.aio := rfl
@[simp] theorem M.strokeEvent_aw (s : M) (e : Event) : (s.strokeEvent e).aw = s.aw := rfl
@[simp] theorem M.strokeEvent_hart (s : M) (e : Event) : (s.strokeEvent e).hart = s.hart := rfl
@[simp] theorem M.strokeEvent_hartQ (s : M) (e : Event) : (s.strokeEvent e).hartQ = s.hartQ := rfl
@[simp] theorem M.strokeEvent_can (s : M) (e : Event) : (s.strokeEvent e).can = s.can := rfl
@[simp] theorem M.strokeEvent_fifos (s : M) (e : Event) : (s.strokeEvent e).fifos = s.fifos := rfl
@[simp] theorem M.strokeEvent_boxes (s : M) (e : Event) : (s.strokeEvent e).boxes = s.boxes := rfl
@[simp] theorem M.strokeEvent_ring (s : M) (e : Event) : (s.strokeEvent e).ring = s.ring := rfl
@[simp] theorem M.strokeEvent_net (s : M) (e : Event) : (s.strokeEvent e).net = s.net := rfl
@[simp] theorem M.strokeEvent_red (s : M) (e : Event) : (s.strokeEvent e).red = s.red := rfl
@[simp] theorem M.strokeEvent_hlt (s : M) (e : Event) : (s.strokeEvent e).hlt = s.hlt := rfl
@[simp] theorem M.strokeEvent_log (s : M) (e : Event) : (s.strokeEvent e).log = s.log := rfl
@[simp] theorem M.strokeEvent_out (s : M) (e : Event) : (s.strokeEvent e).out = s.out := rfl

end Sys2Proof.Machine
end

