-- ==== Sys2Proof/Laws/Table.lean ====
section
/-! SUPPORT. What reading a sparse table after writing it gives, and that writing keeps its canonical form. -/

namespace Sys2Proof

theorem Tab.get_erase {α : Type} (t : Tab α) (d : α) (k j : Nat) :
    (t.erase k).get d j = if j = k then d else t.get d j := by
  induction t with
  | nil => simp [Tab.erase, Tab.get]
  | cons e r ih =>
    simp only [Tab.erase]
    by_cases h : e.1 = k
    · simp only [h, if_true, ih, Tab.get]
      by_cases hj : j = k
      · simp [hj]
      · simp [hj, Ne.symm hj]
    · simp only [h, if_false, Tab.get, ih]
      by_cases hj : e.1 = j
      · subst hj; simp [h]
      · simp [hj]

theorem Tab.get_place {α : Type} (t : Tab α) (d : α) (k j : Nat) (v : α) (h : ∀ e ∈ t, e.1 ≠ k) :
    (t.place k v).get d j = if j = k then v else t.get d j := by
  induction t with
  | nil => simp only [Tab.place, Tab.get, eq_comm]
  | cons e r ih =>
    simp only [Tab.place]
    by_cases hk : k < e.1
    · simp only [hk, if_true, Tab.get, eq_comm]
    · have ih := ih fun x hx => h x (List.mem_cons_of_mem _ hx)
      have he := h e (List.mem_cons_self ..)
      simp only [hk, if_false, Tab.get, ih]
      by_cases hj : j = k
      · subst hj; simp [he]
      · simp [hj]

theorem Tab.mem_erase {α : Type} (t : Tab α) (k : Nat) (e : Nat × α) : e ∈ t.erase k ↔ e ∈ t ∧ e.1 ≠ k := by
  induction t with
  | nil => simp [Tab.erase]
  | cons x r ih =>
    simp only [Tab.erase]
    by_cases h : x.1 = k
    · simp only [h, if_true, ih, List.mem_cons]
      constructor
      · rintro ⟨a, b⟩; exact ⟨.inr a, b⟩
      · rintro ⟨rfl | a, b⟩
        · exact absurd h b
        · exact ⟨a, b⟩
    · simp only [h, if_false, List.mem_cons, ih]
      constructor
      · rintro (rfl | ⟨a, b⟩)
        · exact ⟨.inl rfl, h⟩
        · exact ⟨.inr a, b⟩
      · rintro ⟨rfl | a, b⟩
        · exact .inl rfl
        · exact .inr ⟨a, b⟩

/-- Reading any key after a write: the value written at its own key, what stood there before at any other. -/
theorem Tab.get_set {α : Type} [DecidableEq α] (t : Tab α) (d d' v : α) (k j : Nat) :
    (t.set d k v).get d' j = if j = k then (if v = d then d' else v) else t.get d' j := by
  unfold Tab.set
  by_cases h : v = d
  · simp only [h, if_true, Tab.get_erase]
  · simp only [h, if_false]
    rw [Tab.get_place _ _ _ _ _ fun e he => ((Tab.mem_erase t k e).1 he).2, Tab.get_erase]
    by_cases hj : j = k <;> simp [hj]

@[simp] theorem Tab.get_set_same {α : Type} [DecidableEq α] (t : Tab α) (d v : α) (k : Nat) : (t.set d k v).get d k = v := by
  simp only [Tab.get_set, if_true]; split <;> simp_all

theorem Tab.get_set_ne {α : Type} [DecidableEq α] (t : Tab α) (d d' v : α) {k j : Nat} (h : j ≠ k) :
    (t.set d k v).get d' j = t.get d' j := by simp [Tab.get_set, h]

@[simp] theorem Tab.get_upd_same {α : Type} [DecidableEq α] (t : Tab α) (d : α) (k : Nat) (f : α → α) :
    (t.upd d k f).get d k = f (t.get d k) := Tab.get_set_same ..

theorem Tab.get_upd_ne {α : Type} [DecidableEq α] (t : Tab α) (d d' : α) (f : α → α) {k j : Nat} (h : j ≠ k) :
    (t.upd d k f).get d' j = t.get d' j := Tab.get_set_ne _ _ _ _ h

theorem Tab.rising_weaken {α : Type} (t : Tab α) (b c : Nat) (h : b ≤ c) (hr : t.rising c = true) : t.rising b = true := by
  cases t with
  | nil => rfl
  | cons e r =>
    simp only [Tab.rising, Bool.and_eq_true, decide_eq_true_eq] at hr ⊢
    exact ⟨Nat.le_trans h hr.1, hr.2⟩

theorem Tab.rising_erase {α : Type} (t : Tab α) (b k : Nat) (h : t.rising b = true) : (t.erase k).rising b = true := by
  induction t generalizing b with
  | nil => rfl
  | cons e r ih =>
    simp only [Tab.rising, Bool.and_eq_true, decide_eq_true_eq] at h
    simp only [Tab.erase]
    split
    · exact ih b (Tab.rising_weaken r b _ (by omega) h.2)
    · simp only [Tab.rising, Bool.and_eq_true, decide_eq_true_eq]
      exact ⟨h.1, ih _ h.2⟩

theorem Tab.rising_place {α : Type} (t : Tab α) (b k : Nat) (v : α) (h : t.rising b = true) (hb : b ≤ k)
    (hk : ∀ e ∈ t, e.1 ≠ k) : (t.place k v).rising b = true := by
  induction t generalizing b with
  | nil => simp [Tab.place, Tab.rising, hb]
  | cons e r ih =>
    simp only [Tab.rising, Bool.and_eq_true, decide_eq_true_eq] at h
    simp only [Tab.place]
    split
    · rename_i hlt
      simp only [Tab.rising, Bool.and_eq_true, decide_eq_true_eq]
      exact ⟨hb, by omega, h.2⟩
    · have he := hk e (List.mem_cons_self ..)
      simp only [Tab.rising, Bool.and_eq_true, decide_eq_true_eq]
      exact ⟨h.1, ih _ h.2 (by omega) fun x hx => hk x (List.mem_cons_of_mem _ hx)⟩

/-- Writing keeps the canonical form. -/
theorem Tab.wf_set {α : Type} [DecidableEq α] (t : Tab α) (d : Nat → α) (k : Nat) (v : α) (h : t.wf d = true) :
    (t.set (d k) k v).wf d = true := by
  simp only [Tab.wf, Bool.and_eq_true, List.all_eq_true, decide_eq_true_eq] at h ⊢
  unfold Tab.set
  split
  · exact ⟨Tab.rising_erase t 0 k h.1, fun e he => h.2 e ((Tab.mem_erase t k e).1 he).1⟩
  · rename_i hv
    refine ⟨Tab.rising_place _ 0 k v (Tab.rising_erase t 0 k h.1) (Nat.zero_le _) fun e he => ((Tab.mem_erase t k e).1 he).2, ?_⟩
    have mem : ∀ (r : Tab α) (e : Nat × α), e ∈ r.place k v → e = (k, v) ∨ e ∈ r := by
      intro r
      induction r with
      | nil => intro e he; simpa [Tab.place] using he
      | cons x r ih =>
        intro e he
        simp only [Tab.place] at he
        split at he
        · simpa using he
        · rcases List.mem_cons.1 he with rfl | he
          · exact .inr (List.mem_cons_self ..)
          · exact (ih e he).imp_right (List.mem_cons_of_mem _)
    intro e he
    rcases mem _ e he with rfl | he
    · exact hv
    · exact h.2 e ((Tab.mem_erase t k e).1 he).1

theorem Tab.wf_nil {α : Type} [DecidableEq α] (d : Nat → α) : Tab.wf ([] : Tab α) d = true := rfl

end Sys2Proof
end

