-- ==== Sys2Proof/Laws/Registers.lean ====
section
/-! SUPPORT. What a register field reads as after another, or itself, is set. -/

namespace Sys2Proof.Machine

@[simp] theorem getField_setField_same (t : Tab Word) (k : Nat) (v : Word) : getField (setField t k v) k = v :=
  Tab.get_set_same ..

theorem getField_setField_ne (t : Tab Word) {k j : Nat} (v : Word) (h : j ≠ k) : getField (setField t k v) j = getField t j :=
  Tab.get_set_ne _ _ _ _ h

theorem getField_setField (t : Tab Word) (k j : Nat) (v : Word) :
    getField (setField t k v) j = if j = k then v else getField t j := by
  by_cases h : j = k
  · subst h; simp
  · simp [h, getField_setField_ne]

@[simp] theorem M.reg_set_same (s : M) (k : Nat) (v : Word) : (s.set k v).reg k = v := getField_setField_same ..
@[simp] theorem M.reg_setN_same (s : M) (k n : Nat) : (s.setN k n).reg k = word n := getField_setField_same ..
@[simp] theorem M.reg_setB_same (s : M) (k : Nat) (b : Bool) : (s.setB k b).reg k = boolWord b := getField_setField_same ..

theorem M.reg_set (s : M) (k j : Nat) (v : Word) : (s.set k v).reg j = if j = k then v else s.reg j := getField_setField ..
theorem M.reg_setN (s : M) (k j n : Nat) : (s.setN k n).reg j = if j = k then word n else s.reg j := getField_setField ..
theorem M.reg_setB (s : M) (k j : Nat) (b : Bool) : (s.setB k b).reg j = if j = k then boolWord b else s.reg j := getField_setField ..
theorem M.reg_bump (s : M) (k j top n : Nat) :
    (s.bump k top n).reg j = if j = k then word (min top ((s.reg k).toNat + n)) else s.reg j := getField_setField ..
theorem M.reg_set64 (s : M) (lo hi j : Nat) (v : DWord) :
    (s.set64 lo hi v).reg j = if j = hi then v.hi else if j = lo then v.lo else s.reg j := by
  simp only [M.reg, M.set64, setField64, getField_setField]

theorem M.reg_set_ne (s : M) {k j : Nat} (v : Word) (h : j ≠ k) : (s.set k v).reg j = s.reg j := by simp [M.reg_set, h]
theorem M.reg_setN_ne (s : M) {k j : Nat} (n : Nat) (h : j ≠ k) : (s.setN k n).reg j = s.reg j := by simp [M.reg_setN, h]
theorem M.reg_setB_ne (s : M) {k j : Nat} (b : Bool) (h : j ≠ k) : (s.setB k b).reg j = s.reg j := by simp [M.reg_setB, h]
theorem M.reg_bump_ne (s : M) {k j : Nat} (top n : Nat) (h : j ≠ k) : (s.bump k top n).reg j = s.reg j := by simp [M.reg_bump, h]
theorem M.reg_set64_ne (s : M) {lo hi j : Nat} (v : DWord) (h : j ≠ lo) (h' : j ≠ hi) : (s.set64 lo hi v).reg j = s.reg j := by
  simp [M.reg_set64, h, h']

@[simp] theorem M.reg_emit (s : M) (x : Out) (k : Nat) : (s.emit x).reg k = s.reg k := rfl

@[simp] theorem boolWord_ne_zero (b : Bool) : (boolWord b != 0#32) = b := by cases b <;> rfl

@[simp] theorem M.on_setB_same (s : M) (k : Nat) (b : Bool) : (s.setB k b).on k = b := by simp [M.on]

theorem word_toNat (n : Nat) (h : n < 4294967296) : (word n).toNat = n := by simp [word]; omega

theorem M.nat_setN_same (s : M) (k n : Nat) (h : n < 4294967296) : (s.setN k n).nat k = n := by simp [M.nat, word_toNat, h]

/-- Fields of different registers, or at different bits of one, are different fields. -/
theorem fieldKey_inj {a b l m : Nat} (hl : l < 32) (hm : m < 32) : fieldKey a l = fieldKey b m ↔ a = b ∧ l = m := by
  unfold fieldKey; omega

end Sys2Proof.Machine
end

