-- ==== Sys2Proof/Laws/Settle.lean ====
section
/-! SUPPORT. What a command's end leaves unchanged: everything but report fields, followed conditions and the time from which the HEALTHY
contact may close, and the refused restarts still wanted. -/

namespace Sys2Proof.Machine

/-- `t` is `s` but for report fields, followed conditions, refused restarts and that time. -/
def M.Reports (s t : M) : Prop :=
  (∃ fs since refused healthy,
    t = { s with fields := fs, hlt := { s.hlt with since := since, refused := refused }, aon := { s.aon with healthySince := healthy } }) ∧
  ∀ k, reportField k = false → t.reg k = s.reg k

theorem M.Reports.refl (s : M) : s.Reports s := ⟨⟨s.fields, s.hlt.since, s.hlt.refused, s.aon.healthySince, rfl⟩, fun _ _ => rfl⟩

theorem M.Reports.trans {s t u : M} (h : s.Reports t) (g : t.Reports u) : s.Reports u := by
  obtain ⟨⟨f1, a1, c1, b1, rfl⟩, h2⟩ := h
  obtain ⟨⟨f2, a2, c2, b2, rfl⟩, g2⟩ := g
  exact ⟨⟨f2, a2, c2, b2, rfl⟩, fun k hk => (g2 k hk).trans (h2 k hk)⟩

theorem M.Reports.set {s : M} {k : Nat} (v : Word) (h : reportField k = true) : s.Reports (s.set k v) :=
  ⟨⟨_, s.hlt.since, s.hlt.refused, s.aon.healthySince, rfl⟩, fun j hj => M.reg_set_ne s v (by rintro rfl; simp_all)⟩

theorem M.Reports.foldl {α : Type} (l : List α) (s : M) (f : M → α → M) (h : ∀ x ∈ l, ∀ u : M, u.Reports (f u x)) :
    s.Reports (l.foldl f s) := by
  induction l generalizing s with
  | nil => exact .refl s
  | cons x r ih =>
    exact (h x (List.mem_cons_self ..) s).trans (ih _ fun y hy => h y (List.mem_cons_of_mem _ hy))

theorem reportField_item (a lo : Nat) (h1 : 0x40003100 ≤ a) (h2 : a < 0x40003500) (h3 : lo < 32) : reportField (fieldKey a lo) = true := by
  have e1 : fieldKey 0x40003100 0 ≤ fieldKey a lo := by unfold fieldKey; omega
  have e2 : fieldKey a lo < fieldKey 0x40003500 0 := by unfold fieldKey; omega
  simp [reportField, e1, e2]

theorem reportField_head (a lo : Nat) (h1 : 0x40003000 ≤ a) (h2 : a < 0x40003014) (h3 : lo < 32) : reportField (fieldKey a lo) = true := by
  have e1 : fieldKey 0x40003000 0 ≤ fieldKey a lo := by unfold fieldKey; omega
  have e2 : fieldKey a lo < fieldKey 0x40003014 0 := by unfold fieldKey; omega
  simp [reportField, e1, e2]

theorem M.Reports.track (s : M) (k : Nat) (b : Bool) : s.Reports (s.track k b) :=
  ⟨⟨s.fields, _, s.hlt.refused, s.aon.healthySince, rfl⟩, fun _ _ => rfl⟩

theorem M.Reports.trackAll (s : M) : s.Reports s.trackAll := by
  unfold M.trackAll foldNat
  have h (s : M) (l : List Nat) (key : Nat → Nat) (b : M → Nat → Bool) : s.Reports (l.foldl (fun s n => s.track (key n) (b s n)) s) :=
    .foldl l s _ fun _ _ _ => .track ..
  exact ((((M.Reports.track ..).trans (.track ..)).trans (.track ..)).trans (h _ _ (3200 + ·) fun s n => s.on (F.dioStatCurrentLimit n))).trans
    (h _ _ (3600 + ·) fun s n => s.on (F.aioStatLimit n))

theorem M.Reports.refreshItem (c : Word) (s : M) (i : Nat) (hi : i < 64) : s.Reports (M.refreshItem c s i) := by
  have k (lo : Nat) (o : Nat) (h : o < 16) (h3 : lo < 32) : reportField (fieldKey (0x40003100 + o + 0x10 * i) lo) = true :=
    reportField_item _ _ (by omega) (by omega) h3
  unfold M.refreshItem
  dsimp only
  split
  · exact .refl s
  · have h1 := M.Reports.set (s := s) (word (s.itemState i)) (k 0 0 (by omega) (by omega))
    have h2 : ∀ u : M, u.Reports (u.bump (F.hltItemStatCount i) 65535 1) := fun u => M.Reports.set _ (k 16 0 (by omega) (by omega))
    have h3 : ∀ (u : M) (d : DWord),
        u.Reports { u with fields := setField64 (setField u.fields (F.hltItemCause i) c) (F.hltItemStrokeLo i) (F.hltItemStrokeHi i) d } :=
      fun u d => ((M.Reports.set (s := u) c (k 0 4 (by omega) (by omega))).trans (M.Reports.set d.lo (k 0 8 (by omega) (by omega)))).trans
        (M.Reports.set d.hi (k 0 12 (by omega) (by omega)))
    split
    · exact (h1.trans (h2 _)).trans (h3 _ _)
    · exact h1.trans (h3 _ _)

theorem M.Reports.refreshItems (s : M) (c : Word) : s.Reports (s.refreshItems c) :=
  .foldl _ s _ fun i hi u => .refreshItem c u i (List.mem_range.1 hi)

theorem M.Reports.followHealthy (s : M) : s.Reports s.followHealthy := by
  unfold M.followHealthy
  split
  · split
    · exact .refl s
    · exact ⟨⟨s.fields, s.hlt.since, s.hlt.refused, _, rfl⟩, fun _ _ => rfl⟩
  · refine ⟨⟨_, s.hlt.since, s.hlt.refused, _, rfl⟩, fun k hk => ?_⟩
    exact M.reg_setB_ne (k := F.hltSummaryHealthy) s false (by rintro rfl; revert hk; decide)

theorem M.Reports.showHealth (s : M) : s.Reports s.showHealth := by
  unfold M.showHealth foldNat
  refine .trans (.trans (.trans (.trans (.trans (.set _ ?_) (.set _ ?_)) (.set _ ?_)) (.set _ ?_)) (.refl _)) (.foldl _ _ _ fun j hj u => .set _ ?_)
  · decide
  · decide
  · decide
  · decide
  · have := List.mem_range.1 hj
    exact reportField_head _ _ (by omega) (by omega) (by omega)

theorem M.Reports.showCounts (s : M) : s.Reports s.showCounts := by
  unfold M.showCounts
  exact ((((((M.Reports.set _ (by decide)).trans (.set _ (by decide))).trans (.set _ (by decide))).trans (.set _ (by decide))).trans
    (.set _ (by decide))).trans (.set _ (by decide))).trans (.set _ (by decide))

theorem M.Reports.keepRefused (s : M) : s.Reports s.keepRefused := ⟨⟨s.fields, s.hlt.since, _, s.aon.healthySince, rfl⟩, fun _ _ => rfl⟩

theorem M.Reports.showRestarts (s : M) : s.Reports s.showRestarts := .set _ (by decide)

/-- A command's end changes nothing but what it reports. -/
theorem M.Reports.settle (s : M) : s.Reports s.settle := by
  unfold M.settle
  exact ((((M.Reports.trackAll s).trans (.refreshItems ..)).trans (.keepRefused _)).trans (.showRestarts _)).trans
    (((M.Reports.followHealthy _).trans (.showHealth _)).trans (.showCounts _))

theorem M.reg_settle (s : M) {k : Nat} (h : reportField k = false) : s.settle.reg k = s.reg k := (M.Reports.settle s).2 k h

theorem M.settle_eq (s : M) : ∃ fs since refused healthy,
    s.settle = { s with fields := fs, hlt := { s.hlt with since := since, refused := refused }, aon := { s.aon with healthySince := healthy } } :=
  (M.Reports.settle s).1

@[simp] theorem M.settle_mem (s : M) : s.settle.mem = s.mem := by obtain ⟨_, _, _, _, h⟩ := s.settle_eq; rw [h]
@[simp] theorem M.settle_fy (s : M) : s.settle.fy = s.fy := by obtain ⟨_, _, _, _, h⟩ := s.settle_eq; rw [h]
@[simp] theorem M.settle_ctl (s : M) : s.settle.ctl = s.ctl := by obtain ⟨_, _, _, _, h⟩ := s.settle_eq; rw [h]
@[simp] theorem M.settle_run (s : M) : s.settle.run = s.run := by obtain ⟨_, _, _, _, h⟩ := s.settle_eq; rw [h]
@[simp] theorem M.settle_store (s : M) : s.settle.store = s.store := by obtain ⟨_, _, _, _, h⟩ := s.settle_eq; rw [h]
@[simp] theorem M.settle_saves (s : M) : s.settle.saves = s.saves := by obtain ⟨_, _, _, _, h⟩ := s.settle_eq; rw [h]
@[simp] theorem M.settle_dw (s : M) : s.settle.dw = s.dw := by obtain ⟨_, _, _, _, h⟩ := s.settle_eq; rw [h]
@[simp] theorem M.settle_aio (s : M) : s.settle.aio = s.aio := by obtain ⟨_, _, _, _, h⟩ := s.settle_eq; rw [h]
@[simp] theorem M.settle_aw (s : M) : s.settle.aw = s.aw := by obtain ⟨_, _, _, _, h⟩ := s.settle_eq; rw [h]
@[simp] theorem M.settle_hart (s : M) : s.settle.hart = s.hart := by obtain ⟨_, _, _, _, h⟩ := s.settle_eq; rw [h]
@[simp] theorem M.settle_hartQ (s : M) : s.settle.hartQ = s.hartQ := by obtain ⟨_, _, _, _, h⟩ := s.settle_eq; rw [h]
@[simp] theorem M.settle_can (s : M) : s.settle.can = s.can := by obtain ⟨_, _, _, _, h⟩ := s.settle_eq; rw [h]
@[simp] theorem M.settle_fifos (s : M) : s.settle.fifos = s.fifos := by obtain ⟨_, _, _, _, h⟩ := s.settle_eq; rw [h]
@[simp] theorem M.settle_boxes (s : M) : s.settle.boxes = s.boxes := by obtain ⟨_, _, _, _, h⟩ := s.settle_eq; rw [h]
@[simp] theorem M.settle_ring (s : M) : s.settle.ring = s.ring := by obtain ⟨_, _, _, _, h⟩ := s.settle_eq; rw [h]
@[simp] theorem M.settle_net (s : M) : s.settle.net = s.net := by obtain ⟨_, _, _, _, h⟩ := s.settle_eq; rw [h]
@[simp] theorem M.settle_red (s : M) : s.settle.red = s.red := by obtain ⟨_, _, _, _, h⟩ := s.settle_eq; rw [h]
@[simp] theorem M.settle_log (s : M) : s.settle.log = s.log := by obtain ⟨_, _, _, _, h⟩ := s.settle_eq; rw [h]
@[simp] theorem M.settle_out (s : M) : s.settle.out = s.out := by obtain ⟨_, _, _, _, h⟩ := s.settle_eq; rw [h]

end Sys2Proof.Machine
end

