-- ==== Sys2Proof/Laws/Events.lean ====
section
/-! SUPPORT. What raising an event leaves unchanged, what it puts into the recorder's queue, and what a command does to everything that its own
effect does not touch. -/

namespace Sys2Proof.Machine

/-- `t` is `s` but for report fields, the queues of events, and what belongs to a command's end. -/
def M.Logs (s t : M) : Prop :=
  (∃ fs since refused cause queue aq lost healthy, t = { s with
      fields := fs, hlt := { s.hlt with since := since, refused := refused, cause := cause }, log := { s.log with queue := queue }
      aon := { s.aon with queue := aq, lost := lost, healthySince := healthy } }) ∧
  ∀ k, reportField k = false → t.reg k = s.reg k

theorem M.Logs.refl (s : M) : s.Logs s :=
  ⟨⟨s.fields, s.hlt.since, s.hlt.refused, s.hlt.cause, s.log.queue, s.aon.queue, s.aon.lost, s.aon.healthySince, rfl⟩, fun _ _ => rfl⟩

theorem M.Logs.trans {s t u : M} (h : s.Logs t) (g : t.Logs u) : s.Logs u := by
  obtain ⟨⟨f1, a1, r1, b1, c1, d1, e1, i1, rfl⟩, h2⟩ := h
  obtain ⟨⟨f2, a2, r2, b2, c2, d2, e2, i2, rfl⟩, g2⟩ := g
  exact ⟨⟨f2, a2, r2, b2, c2, d2, e2, i2, rfl⟩, fun k hk => (g2 k hk).trans (h2 k hk)⟩

theorem M.Reports.logs {s t : M} (h : s.Reports t) : s.Logs t := by
  obtain ⟨⟨f, a, r, b, rfl⟩, h2⟩ := h
  exact ⟨⟨f, a, r, s.hlt.cause, s.log.queue, s.aon.queue, s.aon.lost, b, rfl⟩, h2⟩

theorem M.Logs.begun (s : M) : s.Logs s.begun :=
  ⟨⟨s.fields, s.hlt.since, s.hlt.refused, none, s.log.queue, s.aon.queue, s.aon.lost, s.aon.healthySince, rfl⟩, fun _ _ => rfl⟩

theorem M.Logs.enqueue (s : M) (e : Event) (st wall : DWord) : s.Logs (s.enqueue e st wall) := by
  unfold M.enqueue
  dsimp only
  split
  · split
    · exact ⟨⟨s.fields, s.hlt.since, s.hlt.refused, s.hlt.cause, s.log.queue, _, s.aon.lost, s.aon.healthySince, rfl⟩, fun _ _ => rfl⟩
    · exact ⟨⟨s.fields, s.hlt.since, s.hlt.refused, s.hlt.cause, s.log.queue, s.aon.queue, _, s.aon.healthySince, rfl⟩, fun _ _ => rfl⟩
  · split
    · refine ⟨⟨_, s.hlt.since, s.hlt.refused, s.hlt.cause, _, s.aon.queue, s.aon.lost, s.aon.healthySince, rfl⟩, fun k hk => ?_⟩
      exact M.reg_setN_ne (k := F.logQueuePeak) _ _ (by rintro rfl; revert hk; decide)
    · refine ⟨⟨_, s.hlt.since, s.hlt.refused, s.hlt.cause, s.log.queue, s.aon.queue, s.aon.lost, s.aon.healthySince, rfl⟩, fun k hk => ?_⟩
      exact M.reg_bump_ne (k := F.logLost) _ _ _ (by rintro rfl; revert hk; decide)

/-- Raising an event changes nothing but the queue of events and what is reported. -/
theorem M.Logs.hw (s : M) (e : Event) : s.Logs (s.hw e) := by
  unfold M.hw
  dsimp only
  refine .trans (M.Logs.enqueue s e s.stroke s.wall) (.trans (t := { s.note e with hlt := _ }) ?_ (M.Reports.logs (.refreshItems ..)))
  exact ⟨⟨_, _, _, _, _, _, _, _, rfl⟩, fun _ _ => rfl⟩

/-- A command's own effect `f` and what its end reports. -/
theorem M.Logs.perform (f : M → M) (s : M) (h : s.aon.powered = true) : (f s.begun).Logs (s.perform f) := by
  simp only [M.perform, h, if_true, M.act]
  exact (M.Reports.settle _).logs

theorem M.reg_hw (s : M) (e : Event) {k : Nat} (h : reportField k = false) : (s.hw e).reg k = s.reg k := (M.Logs.hw s e).2 k h

@[simp] theorem M.reg_begun (s : M) (k : Nat) : s.begun.reg k = s.reg k := rfl

@[simp] theorem M.begun_fields (s : M) : s.begun.fields = s.fields := rfl
@[simp] theorem M.begun_mem (s : M) : s.begun.mem = s.mem := rfl
@[simp] theorem M.begun_fy (s : M) : s.begun.fy = s.fy := rfl
@[simp] theorem M.begun_ctl (s : M) : s.begun.ctl = s.ctl := rfl
@[simp] theorem M.begun_run (s : M) : s.begun.run = s.run := rfl
@[simp] theorem M.begun_store (s : M) : s.begun.store = s.store := rfl
@[simp] theorem M.begun_saves (s : M) : s.begun.saves = s.saves := rfl
@[simp] theorem M.begun_dw (s : M) : s.begun.dw = s.dw := rfl
@[simp] theorem M.begun_aio (s : M) : s.begun.aio = s.aio := rfl
@[simp] theorem M.begun_aw (s : M) : s.begun.aw = s.aw := rfl
@[simp] theorem M.begun_hart (s : M) : s.begun.hart = s.hart := rfl
@[simp] theorem M.begun_hartQ (s : M) : s.begun.hartQ = s.hartQ := rfl
@[simp] theorem M.begun_can (s : M) : s.begun.can = s.can := rfl
@[simp] theorem M.begun_fifos (s : M) : s.begun.fifos = s.fifos := rfl
@[simp] theorem M.begun_boxes (s : M) : s.begun.boxes = s.boxes := rfl
@[simp] theorem M.begun_ring (s : M) : s.begun.ring = s.ring := rfl
@[simp] theorem M.begun_net (s : M) : s.begun.net = s.net := rfl
@[simp] theorem M.begun_red (s : M) : s.begun.red = s.red := rfl
@[simp] theorem M.begun_out (s : M) : s.begun.out = s.out := rfl
@[simp] theorem M.begun_log (s : M) : s.begun.log = s.log := rfl
@[simp] theorem M.begun_aon (s : M) : s.begun.aon = s.aon := rfl

theorem M.Logs.mem_eq {s t : M} (h : s.Logs t) : t.mem = s.mem := by obtain ⟨⟨_, _, _, _, _, _, _, _, rfl⟩, _⟩ := h; rfl
theorem M.Logs.fy_eq {s t : M} (h : s.Logs t) : t.fy = s.fy := by obtain ⟨⟨_, _, _, _, _, _, _, _, rfl⟩, _⟩ := h; rfl
theorem M.Logs.ctl_eq {s t : M} (h : s.Logs t) : t.ctl = s.ctl := by obtain ⟨⟨_, _, _, _, _, _, _, _, rfl⟩, _⟩ := h; rfl
theorem M.Logs.run_eq {s t : M} (h : s.Logs t) : t.run = s.run := by obtain ⟨⟨_, _, _, _, _, _, _, _, rfl⟩, _⟩ := h; rfl
theorem M.Logs.store_eq {s t : M} (h : s.Logs t) : t.store = s.store := by obtain ⟨⟨_, _, _, _, _, _, _, _, rfl⟩, _⟩ := h; rfl
theorem M.Logs.saves_eq {s t : M} (h : s.Logs t) : t.saves = s.saves := by obtain ⟨⟨_, _, _, _, _, _, _, _, rfl⟩, _⟩ := h; rfl
theorem M.Logs.dw_eq {s t : M} (h : s.Logs t) : t.dw = s.dw := by obtain ⟨⟨_, _, _, _, _, _, _, _, rfl⟩, _⟩ := h; rfl
theorem M.Logs.aio_eq {s t : M} (h : s.Logs t) : t.aio = s.aio := by obtain ⟨⟨_, _, _, _, _, _, _, _, rfl⟩, _⟩ := h; rfl
theorem M.Logs.aw_eq {s t : M} (h : s.Logs t) : t.aw = s.aw := by obtain ⟨⟨_, _, _, _, _, _, _, _, rfl⟩, _⟩ := h; rfl
theorem M.Logs.hart_eq {s t : M} (h : s.Logs t) : t.hart = s.hart := by obtain ⟨⟨_, _, _, _, _, _, _, _, rfl⟩, _⟩ := h; rfl
theorem M.Logs.hartQ_eq {s t : M} (h : s.Logs t) : t.hartQ = s.hartQ := by obtain ⟨⟨_, _, _, _, _, _, _, _, rfl⟩, _⟩ := h; rfl
theorem M.Logs.can_eq {s t : M} (h : s.Logs t) : t.can = s.can := by obtain ⟨⟨_, _, _, _, _, _, _, _, rfl⟩, _⟩ := h; rfl
theorem M.Logs.fifos_eq {s t : M} (h : s.Logs t) : t.fifos = s.fifos := by obtain ⟨⟨_, _, _, _, _, _, _, _, rfl⟩, _⟩ := h; rfl
theorem M.Logs.boxes_eq {s t : M} (h : s.Logs t) : t.boxes = s.boxes := by obtain ⟨⟨_, _, _, _, _, _, _, _, rfl⟩, _⟩ := h; rfl
theorem M.Logs.ring_eq {s t : M} (h : s.Logs t) : t.ring = s.ring := by obtain ⟨⟨_, _, _, _, _, _, _, _, rfl⟩, _⟩ := h; rfl
theorem M.Logs.net_eq {s t : M} (h : s.Logs t) : t.net = s.net := by obtain ⟨⟨_, _, _, _, _, _, _, _, rfl⟩, _⟩ := h; rfl
theorem M.Logs.red_eq {s t : M} (h : s.Logs t) : t.red = s.red := by obtain ⟨⟨_, _, _, _, _, _, _, _, rfl⟩, _⟩ := h; rfl
theorem M.Logs.out_eq {s t : M} (h : s.Logs t) : t.out = s.out := by obtain ⟨⟨_, _, _, _, _, _, _, _, rfl⟩, _⟩ := h; rfl
theorem M.Logs.aon_powered {s t : M} (h : s.Logs t) : t.aon.powered = s.aon.powered := by obtain ⟨⟨_, _, _, _, _, _, _, _, rfl⟩, _⟩ := h; rfl
theorem M.Logs.aon_resetLow {s t : M} (h : s.Logs t) : t.aon.resetLow = s.aon.resetLow := by obtain ⟨⟨_, _, _, _, _, _, _, _, rfl⟩, _⟩ := h; rfl
theorem M.Logs.aon_saving {s t : M} (h : s.Logs t) : t.aon.saving = s.aon.saving := by obtain ⟨⟨_, _, _, _, _, _, _, _, rfl⟩, _⟩ := h; rfl
theorem M.Logs.aon_waiting {s t : M} (h : s.Logs t) : t.aon.waiting = s.aon.waiting := by obtain ⟨⟨_, _, _, _, _, _, _, _, rfl⟩, _⟩ := h; rfl
theorem M.Logs.aon_now {s t : M} (h : s.Logs t) : t.aon.now = s.aon.now := by obtain ⟨⟨_, _, _, _, _, _, _, _, rfl⟩, _⟩ := h; rfl
theorem M.Logs.aon_wallOff {s t : M} (h : s.Logs t) : t.aon.wallOff = s.aon.wallOff := by obtain ⟨⟨_, _, _, _, _, _, _, _, rfl⟩, _⟩ := h; rfl
theorem M.Logs.aon_coldAsked {s t : M} (h : s.Logs t) : t.aon.coldAsked = s.aon.coldAsked := by obtain ⟨⟨_, _, _, _, _, _, _, _, rfl⟩, _⟩ := h; rfl
theorem M.Logs.aon_f3 {s t : M} (h : s.Logs t) : t.aon.f3 = s.aon.f3 := by obtain ⟨⟨_, _, _, _, _, _, _, _, rfl⟩, _⟩ := h; rfl
theorem M.Logs.aon_lastStroke {s t : M} (h : s.Logs t) : t.aon.lastStroke = s.aon.lastStroke := by obtain ⟨⟨_, _, _, _, _, _, _, _, rfl⟩, _⟩ := h; rfl
theorem M.Logs.aon_mated {s t : M} (h : s.Logs t) : t.aon.mated = s.aon.mated := by obtain ⟨⟨_, _, _, _, _, _, _, _, rfl⟩, _⟩ := h; rfl
theorem M.Logs.aon_enables {s t : M} (h : s.Logs t) : t.aon.enables = s.aon.enables := by obtain ⟨⟨_, _, _, _, _, _, _, _, rfl⟩, _⟩ := h; rfl
theorem M.Logs.aon_dipSince {s t : M} (h : s.Logs t) : t.aon.dipSince = s.aon.dipSince := by obtain ⟨⟨_, _, _, _, _, _, _, _, rfl⟩, _⟩ := h; rfl
theorem M.Logs.hlt_restarts {s t : M} (h : s.Logs t) : t.hlt.restarts = s.hlt.restarts := by obtain ⟨⟨_, _, _, _, _, _, _, _, rfl⟩, _⟩ := h; rfl
theorem M.Logs.hlt_passed {s t : M} (h : s.Logs t) : t.hlt.passed = s.hlt.passed := by obtain ⟨⟨_, _, _, _, _, _, _, _, rfl⟩, _⟩ := h; rfl
theorem M.Logs.hlt_overdue {s t : M} (h : s.Logs t) : t.hlt.overdue = s.hlt.overdue := by obtain ⟨⟨_, _, _, _, _, _, _, _, rfl⟩, _⟩ := h; rfl
theorem M.Logs.hlt_latched {s t : M} (h : s.Logs t) : t.hlt.latched = s.hlt.latched := by obtain ⟨⟨_, _, _, _, _, _, _, _, rfl⟩, _⟩ := h; rfl
theorem M.Logs.hlt_retriedStart {s t : M} (h : s.Logs t) : t.hlt.retriedStart = s.hlt.retriedStart := by obtain ⟨⟨_, _, _, _, _, _, _, _, rfl⟩, _⟩ := h; rfl
theorem M.Logs.hlt_leaseEver {s t : M} (h : s.Logs t) : t.hlt.leaseEver = s.hlt.leaseEver := by obtain ⟨⟨_, _, _, _, _, _, _, _, rfl⟩, _⟩ := h; rfl
theorem M.Logs.hlt_dioOn {s t : M} (h : s.Logs t) : t.hlt.dioOn = s.hlt.dioOn := by obtain ⟨⟨_, _, _, _, _, _, _, _, rfl⟩, _⟩ := h; rfl
theorem M.Logs.hlt_illegalAt {s t : M} (h : s.Logs t) : t.hlt.illegalAt = s.hlt.illegalAt := by obtain ⟨⟨_, _, _, _, _, _, _, _, rfl⟩, _⟩ := h; rfl
theorem M.Logs.hlt_deferAt {s t : M} (h : s.Logs t) : t.hlt.deferAt = s.hlt.deferAt := by obtain ⟨⟨_, _, _, _, _, _, _, _, rfl⟩, _⟩ := h; rfl
theorem M.Logs.log_records {s t : M} (h : s.Logs t) : t.log.records = s.log.records := by obtain ⟨⟨_, _, _, _, _, _, _, _, rfl⟩, _⟩ := h; rfl
theorem M.Logs.log_opened {s t : M} (h : s.Logs t) : t.log.opened = s.log.opened := by obtain ⟨⟨_, _, _, _, _, _, _, _, rfl⟩, _⟩ := h; rfl
theorem M.Logs.log_reported {s t : M} (h : s.Logs t) : t.log.reported = s.log.reported := by obtain ⟨⟨_, _, _, _, _, _, _, _, rfl⟩, _⟩ := h; rfl

@[simp] theorem M.hw_mem (s : M) (e : Event) : (s.hw e).mem = s.mem := (M.Logs.hw s e).mem_eq
@[simp] theorem M.hw_fy (s : M) (e : Event) : (s.hw e).fy = s.fy := (M.Logs.hw s e).fy_eq
@[simp] theorem M.hw_ctl (s : M) (e : Event) : (s.hw e).ctl = s.ctl := (M.Logs.hw s e).ctl_eq
@[simp] theorem M.hw_run (s : M) (e : Event) : (s.hw e).run = s.run := (M.Logs.hw s e).run_eq
@[simp] theorem M.hw_store (s : M) (e : Event) : (s.hw e).store = s.store := (M.Logs.hw s e).store_eq
@[simp] theorem M.hw_saves (s : M) (e : Event) : (s.hw e).saves = s.saves := (M.Logs.hw s e).saves_eq
@[simp] theorem M.hw_dw (s : M) (e : Event) : (s.hw e).dw = s.dw := (M.Logs.hw s e).dw_eq
@[simp] theorem M.hw_aio (s : M) (e : Event) : (s.hw e).aio = s.aio := (M.Logs.hw s e).aio_eq
@[simp] theorem M.hw_aw (s : M) (e : Event) : (s.hw e).aw = s.aw := (M.Logs.hw s e).aw_eq
@[simp] theorem M.hw_hart (s : M) (e : Event) : (s.hw e).hart = s.hart := (M.Logs.hw s e).hart_eq
@[simp] theorem M.hw_hartQ (s : M) (e : Event) : (s.hw e).hartQ = s.hartQ := (M.Logs.hw s e).hartQ_eq
@[simp] theorem M.hw_can (s : M) (e : Event) : (s.hw e).can = s.can := (M.Logs.hw s e).can_eq
@[simp] theorem M.hw_fifos (s : M) (e : Event) : (s.hw e).fifos = s.fifos := (M.Logs.hw s e).fifos_eq
@[simp] theorem M.hw_boxes (s : M) (e : Event) : (s.hw e).boxes = s.boxes := (M.Logs.hw s e).boxes_eq
@[simp] theorem M.hw_ring (s : M) (e : Event) : (s.hw e).ring = s.ring := (M.Logs.hw s e).ring_eq
@[simp] theorem M.hw_net (s : M) (e : Event) : (s.hw e).net = s.net := (M.Logs.hw s e).net_eq
@[simp] theorem M.hw_red (s : M) (e : Event) : (s.hw e).red = s.red := (M.Logs.hw s e).red_eq
@[simp] theorem M.hw_out (s : M) (e : Event) : (s.hw e).out = s.out := (M.Logs.hw s e).out_eq

/-- With MEM powered and room in the queue, an event raised is the newest entry of the recorder's queue. -/
theorem M.enqueue_queue (s : M) (e : Event) (st wall : DWord) (h : s.domainOn 1 = true) (h2 : s.log.queue.length < 1024) :
    (s.enqueue e st wall).log.queue = s.log.queue ++ [{ event := e, stroke := st, wall := wall, qual := s.nat F.wallQualQuality, kind := s.kindOf e.code }] := by
  simp [M.enqueue, h, h2]

theorem M.Reports.queue {s t : M} (h : s.Reports t) : t.log = s.log := by obtain ⟨⟨_, _, _, _, rfl⟩, _⟩ := h; rfl

theorem M.hw_queue (s : M) (e : Event) (h : s.domainOn 1 = true) (h2 : s.log.queue.length < 1024) :
    (s.hw e).log.queue = s.log.queue ++ [{ event := e, stroke := s.stroke, wall := s.wall, qual := s.nat F.wallQualQuality, kind := s.kindOf e.code }] := by
  unfold M.hw
  dsimp only
  rw [(M.Reports.refreshItems _ _).queue]
  exact M.enqueue_queue s e s.stroke s.wall h h2

end Sys2Proof.Machine
end

