-- ==== Sys2Proof/Laws/Frames.lean ====
section
/-! SUPPORT. What the shared operations leave unchanged, as frames that compose; and how the claims about a command follow from its effect. -/

namespace Sys2Proof.Machine

/-! ### Frames -/

theorem M.Logs.only {s t : M} (h : s.Logs t) : s.Only t [] := by
  obtain ⟨⟨f1, a1, r1, b1, c1, d1, e1, i1, rfl⟩, h2⟩ := h
  exact ⟨rfl, fun k hk _ => h2 k hk⟩

theorem M.Only.refl (s : M) : s.Only s [] := ⟨rfl, fun _ _ _ => rfl⟩

theorem M.Only.trans {s t u : M} {l m : List Nat} (h : s.Only t l) (g : t.Only u m) : s.Only u (l ++ m) := by
  obtain ⟨h1, h2⟩ := h
  obtain ⟨g1, g2⟩ := g
  refine ⟨?_, fun k hk hn => ?_⟩
  · rw [h1] at g1; exact g1
  · rw [List.mem_append, not_or] at hn
    exact (g2 k hk hn.2).trans (h2 k hk hn.1)

theorem M.Only.mono {s t : M} {l m : List Nat} (h : s.Only t l) (g : ∀ k ∈ l, k ∈ m) : s.Only t m :=
  ⟨h.1, fun k hk hn => h.2 k hk fun hm => hn (g k hm)⟩

theorem M.Only.set (s : M) (k : Nat) (v : Word) : s.Only (s.set k v) [k] :=
  ⟨rfl, fun _ _ hj => M.reg_set_ne s v (by simpa using hj)⟩

theorem M.Only.setN (s : M) (k n : Nat) : s.Only (s.setN k n) [k] := .set s k _
theorem M.Only.setB (s : M) (k : Nat) (b : Bool) : s.Only (s.setB k b) [k] := .set s k _
theorem M.Only.bump (s : M) (k top n : Nat) : s.Only (s.bump k top n) [k] := .set s k _

theorem M.Only.set64 (s : M) (lo hi : Nat) (v : DWord) : s.Only (s.set64 lo hi v) [lo, hi] :=
  ⟨rfl, fun _ _ hj => M.reg_set64_ne s v (fun h => hj (by simp [h])) (fun h => hj (by simp [h]))⟩

theorem M.Only.setDomain (s : M) (d : Nat) (b : Bool) : s.Only (s.setDomain d b) [F.pwrDomainOn] := .set s _ _

theorem M.Only.hw (s : M) (e : Event) : s.Only (s.hw e) [] := (M.Logs.hw s e).only

theorem M.Only.begun (s : M) : s.Only s.begun [] := (M.Logs.begun s).only

/-- The two sides of a choice framed alike. -/
theorem M.Only.ite {s a b : M} {l : List Nat} {c : Prop} [Decidable c] (h : c → s.Only a l) (g : ¬c → s.Only b l) : s.Only (if c then a else b) l := by
  split
  · exact h ‹_›
  · exact g ‹_›

/-- A command changes what its own effect changes. -/
theorem M.Only.perform {s : M} {f : M → M} {l : List Nat} (h : s.aon.powered = true) (g : s.begun.Only (f s.begun) l) : s.Only (s.perform f) l := by
  have := ((M.Only.begun s).trans g).trans (M.Logs.perform f s h).only
  exact this.mono (by simp)

theorem M.Only.mem_eq {s t : M} {l : List Nat} (h : s.Only t l) : t.mem = s.mem := by rw [h.1]
theorem M.Only.fy_eq {s t : M} {l : List Nat} (h : s.Only t l) : t.fy = s.fy := by rw [h.1]
theorem M.Only.powered {s t : M} {l : List Nat} (h : s.Only t l) : t.aon.powered = s.aon.powered := by rw [h.1]

/-! ### What a command does -/

/-- A command on the module, its queue left alone. -/
theorem runs_of {c : Instr} {s : State} {f : M → M} {P : M → Prop} (h : exec c s = runM f s) (hp : P (s.m.perform f)) : Runs c s P :=
  ⟨_, h, rfl, hp⟩

theorem M.perform_off (s : M) (f : M → M) (h : s.aon.powered = false) : s.perform f = s := by simp [M.perform, h]

theorem M.perform_on (s : M) (f : M → M) (h : s.aon.powered = true) : s.perform f = (f s.begun).settle := by simp [M.perform, M.act, h]

/-- A register that the end of a command does not report reads as the command's own effect left it. -/
theorem M.reg_perform (s : M) (f : M → M) {k : Nat} (h : s.aon.powered = true) (hk : reportField k = false) : (s.perform f).reg k = (f s.begun).reg k :=
  (M.Logs.perform f s h).2 k hk

/-- An effect that ends by raising an event raises it once. -/
theorem M.Raised.of {s u : M} {f : M → M} {e : Event} (h : s.aon.powered = true) (hf : f s.begun = u.hw e) (hq : u.log.queue = s.log.queue)
    (hd : u.domainOn 1 = s.domainOn 1) (hs : u.stroke = s.stroke) (hw : u.wall = s.wall) : s.Raised (s.perform f) e := by
  intro h1 h2
  refine ⟨{ event := e, stroke := u.stroke, wall := u.wall, qual := u.nat F.wallQualQuality, kind := u.kindOf e.code }, ?_, rfl, hs, hw⟩
  rw [M.perform_on s f h, hf, M.settle_log, M.hw_queue u e (hd.trans h1) (by rw [hq]; exact h2), hq]

/-- An effect that leaves the queues alone raises nothing. -/
theorem M.Silent.of {s : M} {f : M → M} (h : s.aon.powered = true) (hq : (f s.begun).log.queue = s.log.queue) (ha : (f s.begun).aon.queue = s.aon.queue)
    (hl : (f s.begun).aon.lost = s.aon.lost) : s.Silent (s.perform f) := by
  obtain ⟨fs, since, refused, healthy, e⟩ := (f s.begun).settle_eq
  rw [M.perform_on s f h]
  unfold M.Silent
  rw [e]
  exact ⟨hq, ha, hl⟩

/-- A step runs the command at the front of the queue on a state with the queue's rest. -/
theorem step_front (m : M) (c : Instr) (r : List Instr) : step { m := m, pending := c :: r } = exec c { m := m, pending := r } := rfl

end Sys2Proof.Machine
end

