-- ==== Sys2Proof/Laws/Fytric.lean ====
section
/-! SUPPORT. What the shared operations of the Fytric instructions do: registers and pairs written, results with the end of an instruction. -/

namespace Sys2Proof.Machine

@[simp] theorem Act.reg_zero (a : Act) : a.reg 0#7 = 0#32 := rfl

theorem Act.reg_congr {a b : Act} (h : a.regs = b.regs) (r : RegNo) : a.reg r = b.reg r := by simp [Act.reg, h]

/-- Reading any register after one is written. -/
theorem Act.reg_setReg (a : Act) (d r : RegNo) (w : Word) : (a.setReg d w).reg r = if r = d ∧ d ≠ 0#7 then w else a.reg r := by
  unfold Act.setReg
  by_cases hd : d = 0#7
  · simp [hd]
  · simp only [hd, if_false, Act.reg]
    by_cases hr : r = 0#7
    · simp [hr, Ne.symm hd]
    · simp only [hr, if_false]
      rw [Tab.get_set]
      by_cases h : r = d
      · subst h
        simp only [ne_eq, hr, not_false_eq_true, and_self, if_true]
        split <;> simp_all
      · have : r.toNat ≠ d.toNat := fun e => h (BitVec.eq_of_toNat_eq e)
        simp [this, h]

/-- A write to a register changes nothing but the registers. -/
theorem Act.setReg_eq (a : Act) (d : RegNo) (w : Word) : a.setReg d w = { a with regs := (a.setReg d w).regs } := by
  unfold Act.setReg; split <;> rfl

theorem Act.setReg_sets (a : Act) (d : RegNo) (w : Word) : a.SetsReg (a.setReg d w) d w := fun _ => Act.reg_setReg ..

theorem Act.setPair_eq (a : Act) (d : RegNo) (v : DWord) : a.setPair d v = { a with regs := (a.setPair d v).regs } := by
  unfold Act.setPair
  split
  · rfl
  · rw [Act.setReg_eq _ (d + 1), Act.setReg_eq a d]

theorem RegNo.ne_next (d : RegNo) : d ≠ d + 1 := by
  intro h
  have h := congrArg BitVec.toNat h
  rw [BitVec.toNat_add] at h
  have := d.isLt
  have e : (1 : RegNo).toNat = 1 := rfl
  rw [e] at h
  omega

theorem Act.setPair_sets (a : Act) (d : RegNo) (v : DWord) : a.SetsPair (a.setPair d v) d v := by
  intro r
  unfold Act.setPair
  by_cases hd : d = 0#7
  · rw [if_pos hd, if_pos hd]
  · rw [if_neg hd, if_neg hd, Act.reg_setReg, Act.reg_setReg]
    by_cases h1 : r = d
    · subst h1
      rw [if_neg fun h => RegNo.ne_next r h.1, if_pos ⟨rfl, hd⟩, if_pos rfl]
    · rw [if_neg h1, if_neg fun h : r = d ∧ d ≠ 0#7 => h1 h.1]
      by_cases h2 : r = d + 1
      · rw [h2]
      · rw [if_neg fun h => h2 h.1, if_neg fun h => h2 h.1]

/-- The source-B reading of a register and of a literal. -/
@[simp] theorem Act.src_reg (a : Act) (r : RegNo) : a.src (.reg r) = a.reg r := rfl
@[simp] theorem Act.src_lit (a : Act) (w : Word) : a.src (.lit w) = w := rfl

/-- A result in a register: what `Writes` says. -/
theorem writes_of {c : Instr} {s : State} {d : RegNo} {w : Word} {len bu : Nat}
    {F : Fy → Fy} (h : exec c s = runFy F s) (hF : F s.m.fy = s.m.fy.result d w len bu) : Writes c s d w len bu := by
  refine ⟨{ s.m.fy.act.setReg d w with pc := s.m.fy.act.pc + len, charge := s.m.fy.act.charge + bu }, ?_, fun r => Act.reg_setReg .., ?_⟩
  · unfold Act.Past Act.setReg; split <;> rfl
  · unfold FyNext; rw [h]; simp only [runFy, hF, Fy.result, Fy.upd, Act.retire]; unfold Act.setReg; split <;> rfl

/-- A result in a pair: what `WritesPair` says. -/
theorem writesPair_of {c : Instr} {s : State} {d : RegNo} {v : DWord} {len bu : Nat}
    {F : Fy → Fy} (h : exec c s = runFy F s) (hF : F s.m.fy = s.m.fy.result64 d v len bu) : WritesPair c s d v len bu := by
  refine ⟨{ s.m.fy.act.setPair d v with pc := s.m.fy.act.pc + len, charge := s.m.fy.act.charge + bu }, ?_, fun r => Act.setPair_sets .., ?_⟩
  · unfold Act.Past; rw [Act.setPair_eq]
  · unfold FyNext; rw [h]; simp only [runFy, hF, Fy.result64, Fy.upd, Act.retire]; rw [Act.setPair_eq]

theorem toInt_satS32 (i : Int) : (satS32 i).toInt = limit32 i := by
  unfold satS32 clampInt limit32
  rw [BitVec.toInt_ofInt]
  simp only [Int.bmod]; omega

theorem toNat_satU32 (i : Int) : ((satU32 i).toNat : Int) = limitU32 i := by
  unfold satU32 clampInt limitU32
  simp only [BitVec.toNat_ofInt]; omega

theorem toInt_satS64 (i : Int) : (satS64 i).toInt = limit64 i := by
  unfold satS64 clampInt limit64
  rw [BitVec.toInt_ofInt]
  simp only [Int.bmod]; omega

end Sys2Proof.Machine
end

