-- ==== Sys2Proof/Laws/Memory.lean ====
section
/-! SUPPORT. Data memory: a byte read after it is written, other bytes left alone, and the canonical form kept. -/

namespace Sys2Proof.Machine

@[simp] theorem memByte_memPut_same (m : List Host.Cell) (a : Nat) (b : Byte) : memByte (memPut m a b) a = b := Tab.get_set_same ..

theorem memByte_memPut_ne (m : List Host.Cell) {a c : Nat} (b : Byte) (h : c ≠ a) : memByte (memPut m a b) c = memByte m c := Tab.get_set_ne _ _ _ _ h

theorem Memory.wf_put (m : List Host.Cell) (a : Nat) (b : Byte) (h : Memory.wf m = true) : Memory.wf (memPut m a b) = true :=
  Tab.wf_set m (fun _ => 0#8) a b h

theorem Memory.wf_putWord (m : List Host.Cell) (a : Nat) (w : Word) (h : Memory.wf m = true) : Memory.wf (memPutWord m a w) = true :=
  Memory.wf_put _ _ _ (Memory.wf_put _ _ _ (Memory.wf_put _ _ _ (Memory.wf_put _ _ _ h)))

/-- A word read back after it is written. -/
theorem memWord_memPutWord_same (m : List Host.Cell) (a : Nat) (w : Word) : memWord (memPutWord m a w) a = w := by
  unfold memWord memPutWord
  rw [memByte_memPut_same, memByte_memPut_ne _ _ (by omega), memByte_memPut_same, memByte_memPut_ne _ _ (by omega), memByte_memPut_ne _ _ (by omega),
    memByte_memPut_same, memByte_memPut_ne _ _ (by omega), memByte_memPut_ne _ _ (by omega), memByte_memPut_ne _ _ (by omega), memByte_memPut_same]
  apply BitVec.eq_of_getElem_eq
  intro i hi
  simp only [BitVec.getElem_append, BitVec.getElem_extractLsb']
  repeat' split
  all_goals first | rfl | (rw [BitVec.getElem_eq_testBit_toNat, BitVec.getLsbD]; congr 1; omega)

/-- A byte outside the word written. -/
theorem memByte_memPutWord_ne (m : List Host.Cell) {a c : Nat} (w : Word) (h : c < a ∨ a + 4 ≤ c) : memByte (memPutWord m a w) c = memByte m c := by
  unfold memPutWord
  rw [memByte_memPut_ne _ _ (by omega), memByte_memPut_ne _ _ (by omega), memByte_memPut_ne _ _ (by omega), memByte_memPut_ne _ _ (by omega)]

/-- A word that does not overlap the word written. -/
theorem memWord_memPutWord_ne (m : List Host.Cell) {a c : Nat} (w : Word) (h : c + 4 ≤ a ∨ a + 4 ≤ c) : memWord (memPutWord m a w) c = memWord m c := by
  unfold memWord
  rw [memByte_memPutWord_ne _ _ (by omega), memByte_memPutWord_ne _ _ (by omega), memByte_memPutWord_ne _ _ (by omega), memByte_memPutWord_ne _ _ (by omega)]

end Sys2Proof.Machine
end

