-- ==== Sys2Proof/Laws/Pages.lean ====
section
/-! SUPPORT. What marking pages for a joiner does (R353, R354). -/

namespace Sys2Proof.Machine

/-- Marking a page adds it to the dirty list, or leaves the module as it is. -/
theorem M.markPage_cases (s : M) (p : Nat) : s.markPage p = s ∨ s.markPage p = { s with red := { s.red with dirty := s.red.dirty ++ [p] } } := by
  unfold M.markPage
  split <;> simp

/-- Marking pages changes the dirty list alone, which gains at most the pages named. -/
theorem M.markPages_cases (l : List Nat) (s : M) : ∃ d, l.foldl M.markPage s = { s with red := { s.red with dirty := d } } ∧
    d.length ≤ s.red.dirty.length + l.length := by
  induction l generalizing s with
  | nil => exact ⟨s.red.dirty, rfl, by simp⟩
  | cons p l ih =>
    obtain ⟨d, h, n⟩ := ih (s.markPage p)
    rcases s.markPage_cases p with e | e <;> rw [e] at h n <;> simp only [List.foldl_cons, e]
    · exact ⟨d, h, by simp only [List.length_cons]; omega⟩
    · exact ⟨d, h, by simp only [List.length_append, List.length_cons, List.length_nil] at n ⊢; omega⟩

/-- What a stroke in progress leaves for a joiner: at most a page for each address and part reached, and its commit records after those that wait. -/
theorem M.markStroke_red (s : M) (h : s.role = 1) (j : s.red.joining = true) : ∃ d, s.markStroke.red = { s.red with
    dirty := d, records := s.red.records ++ s.strokeRecords } ∧ d.length ≤ s.red.dirty.length + (s.storeAddrs.map pageOf ++ s.partsReached).length := by
  obtain ⟨d, e, n⟩ := M.markPages_cases (s.storeAddrs.map pageOf ++ s.partsReached) s
  refine ⟨d, ?_, n⟩
  rw [M.markStroke, if_pos ⟨h, j⟩]
  simp only [e]
  rfl

end Sys2Proof.Machine
end

