-- ==== Sys2Proof/Laws/RegisterFile.lean ====
section
/-! SUPPORT. Which fields a store to a register changes: the others, and every read-only field, keep their values (R8, R11). -/

namespace Sys2Proof.Machine

/-- Whether a store changes a field of this access. -/
def FieldAccess.stores (a : FieldAccess) : Bool := a == .rw || a == .w1s || a == .w1c

/-- A store changes no field that the register at its address does not hold as a writable one. -/
theorem getField_writeReg_ne (ok : Bool) (t : Tab Word) (addr k : Nat) (w : Word)
    (h : ∀ f ∈ fieldsAt addr, f.acc.stores = true → f.keyAt addr ≠ k) : getField (writeReg ok t addr w) k = getField t k := by
  unfold writeReg
  by_cases ha : blockAbsent t addr = true
  · rw [if_pos ha]
  rw [if_neg ha]
  clear ha
  have g : ∀ f ∈ (fieldsAt addr).reverse, f.acc.stores = true → f.keyAt addr ≠ k := fun f hf => h f (List.mem_reverse.1 hf)
  generalize (fieldsAt addr).reverse = l at g
  induction l generalizing t with
  | nil => rfl
  | cons f r ih =>
    rw [List.foldl_cons, ih]
    · have hf := g f (List.mem_cons_self ..)
      dsimp only
      split <;> rename_i e <;> first
        | rfl
        | exact getField_setField_ne _ _ (Ne.symm (hf (by rw [e]; rfl)))
    · exact fun x hx => g x (List.mem_cons_of_mem _ hx)

/-- The maps of the blocks. -/
def allMaps : List (List FieldSpec) :=
  [[], mapIdentity, mapMode, mapStroke, mapHealth, mapPower, mapDigital, mapAnalog, mapEncoder, mapCan, mapRio, mapNet, mapRed, mapLog, mapCvu, mapHart, mapSec,
    mapLoop]

theorem mem_choice {α : Type} {l : List α} {a b : α} {c : Prop} [Decidable c] (h : a ∈ l) (g : b ∈ l) : (if c then a else b) ∈ l := by
  by_cases hc : c
  · rw [if_pos hc]; exact h
  · rw [if_neg hc]; exact g

theorem mapAt_mem (addr : Nat) : mapAt addr ∈ allMaps := by
  unfold mapAt
  repeat' apply mem_choice
  all_goals (unfold allMaps; simp only [List.mem_cons, true_or, or_true])

/-- Every field is stored at its own register, but for the two that share DIO_OUT (R238). -/
theorem mapAt_home (addr : Nat) : ∀ f ∈ mapAt addr, f.home = f.base ∨ f.home = 0x40010080 := by
  have h : ∀ l ∈ allMaps, ∀ f ∈ l, f.home = f.base ∨ f.home = 0x40010080 := by decide +kernel
  exact h _ (mapAt_mem addr)

theorem FieldSpec.base_le {f : FieldSpec} {addr : Nat} (h : f.covers addr = true) : f.base ≤ addr := by
  unfold FieldSpec.covers isElement at h
  split at h
  · exact absurd h (by simp)
  · omega

/-- Where a field of a register is kept. -/
theorem keyAt_cases {addr : Nat} {f : FieldSpec} (h : f ∈ fieldsAt addr) : f.keyAt addr = fieldKey addr f.lo ∨ 0x40010080 * 32 ≤ f.keyAt addr := by
  obtain ⟨h1, h2⟩ := List.mem_filter.1 h
  have hb := FieldSpec.base_le h2
  unfold FieldSpec.keyAt fieldKey
  rcases mapAt_home addr f h1 with e | e
  · left; rw [e]; omega
  · right; rw [e]; omega

/-- A field below the digital block that its register does not hold as a writable one keeps its value whatever is stored, at any address (R8). -/
theorem getField_writeReg_ro (ok : Bool) (t : Tab Word) (addr k : Nat) (w : Word) (h1 : k < 0x40010080 * 32)
    (h2 : (fieldsAt (k / 32)).all (fun f => f.lo != k % 32 || !f.acc.stores) = true) (h3 : ∀ a, ∀ f ∈ fieldsAt a, f.lo < 32) :
    getField (writeReg ok t addr w) k = getField t k := by
  refine getField_writeReg_ne ok t addr k w fun f hf hs e => ?_
  rcases keyAt_cases hf with g | g
  · rw [g] at e
    have hl := h3 addr f hf
    have e1 : k / 32 = addr := by unfold fieldKey at e; omega
    have e2 : k % 32 = f.lo := by unfold fieldKey at e; omega
    have := List.all_eq_true.1 h2 f (by rw [e1]; exact hf)
    simp [e2, hs] at this
  · omega

theorem fieldsAt_lo (addr : Nat) : ∀ f ∈ fieldsAt addr, f.lo < 32 := by
  intro f hf
  have h : ∀ l ∈ allMaps, ∀ f ∈ l, f.lo < 32 := by decide +kernel
  exact h _ (mapAt_mem addr) f (List.mem_filter.1 hf).1

/-- No store changes the mode or the number of the stroke. -/
theorem getField_writeReg_mode (ok : Bool) (t : Tab Word) (addr : Nat) (w : Word) {k : Nat} (h : k ∈ [F.modStatusMode, F.stkCountLo, F.stkCountHi]) :
    getField (writeReg ok t addr w) k = getField t k := by
  simp only [List.mem_cons, List.not_mem_nil, or_false] at h
  rcases h with rfl | rfl | rfl <;> exact getField_writeReg_ro ok t addr _ w (by decide) (by decide +kernel) fieldsAt_lo

end Sys2Proof.Machine
end

