-- ==== Sys2Proof/Tests/Slice0.lean ====
section
/-! SUPPORT. The model's own tests: ill-formed commands refused, words written out from the encoding tables, single instructions and commands with results
worked out from the spec, and for every statement with hypotheses a state and operands that meet them. -/

-- One theorem after the other: evaluated all at once they would ask for more threads than the memory limit leaves room for.
set_option Elab.async false

namespace Sys2Proof.Tests

open Sys2Proof Sys2Proof.Machine

/-! ### Well-formed commands -/

/-- A code word is well formed, and each check of WellFormed.lean refuses a term. -/
def refused (l : List Instr) : Bool := l.all fun i => !i.wf

def frame8 : CanFrame := { ide := false, ident := 0x123, fdf := false, brs := false, esi := false, data := [1#8, 2#8], stamp := 0#32 }
def hart3 : HartFrame := { ok := true, uid := 0, command := 3, respCode := 0#8, devStatus := 0#8, data := [] }
def head1 : WazarHead := { port := 1, now := 0, hops := 4, mac := 0, seq := 0, ctrl := 0, stn := 9, start := false }
def status0 : RopeStatus :=
  { now := 0, role := 4, holds := false, safeDriver := false, armed := false, mode := 2, priming := 0, station := 0, slotB := true, ropeVersion := 1
    imageId := 0, safeA := false, safeB := false, joinReq := false, joinAccept := false, joinRefuse := false, refusal := 0, wall := 0#64 }
def manifest0 : Manifest :=
  { stroke := 0#64, modeAt := 0#64, newMode := 2, safeCause := 0, roleEvent := 0, roleAt := 0#64, changeAt := 0#64, changeSlot := 0, commands := 0
    fields := [], raw := [], dead := [], skips := 0, hostWrites := [], remote := [], can := [], modbus := [], hart := [] }
def prime0 : PrimingIn :=
  { now := 0, station := 13, slotB := false, sramOk := true, fwBad := [], imageBad := false, areaBad := [], calOk := true, sramFixed := []
    mramFixed := 0, mramBad := false }
def tick0 : TickIn :=
  { now := 0, station := 13, slotB := false, onBus := [], leaseFault := false, laneFault := none, sramFixed := [], sramBad := none, mramFixed := 0
    mramBad := false }
def req0 : Req := { sess := 1, tag := 7 }
def mb0 : MbReq := { conn := 2, tag := 5, start := 0 }
def dw0 : DwFrame := { now := 0, good := true, alive := 1, groups := [(240, 10), (240, 0), (240, 0), (240, 0)], encMa := 50 }
def aw0 : AwFrame := { w := 1, now := 0, good := true, alive := 1, reservoir := 80 }
def meas0 : AwMeas := { w := 0, now := 0, codes := List.replicate 8 0, drive := List.replicate 8 0, readback := List.replicate 8 0 }
def shake0 : Handshake := { id := 1, usb := true, addr := 0#32, cert := [], anchor := [], ok := true, datesOk := true, units := ["Engineer"], now := 0 }
def master0 : PtpMaster := { priority1 := 128, clockClass := 6, accuracy := 0, variance := 0, priority2 := 128, identity := 1, steps := 0, sender := 1 }
def word4 : Access := { arr := { base := 0x400, bytes := 16 }, kind := .word, scale := 0#3 }
def pair4 : Access := { word4 with kind := .pair }

/-- Well-formed commands at the ends of their ranges. -/
theorem test_wf_accepts : ([.ld 1#7 2#7 word4, .st 2#7 0#7 pair4, .add64 2#7 0#7 126#7, .loop 1#7 0#7 1 65535, .cantx 1#7 1 31 0x00FFFFB4,
    .canFrameReceived 1 { frame := frame8, sof := 0 }, .hartResponse 15 hart3, .dwLinkFrame dw0, .awLinkFrame aw0, .analogSample meas0, .strokeTick tick0, .priming prime0,
    .ropeStatus status0, .ropeManifest manifest0, .regRead req0 4294967295 65535, .bitSetAlias 15 0x00FFFFFC 0#32, .registerWrite 0 0x5003FFFC 0#32,
    .wazarIn { head := head1, linkA := true, linkB := true, acked := 0, records := [] }] : List Instr).all Instr.wf = true := by decide

/-- Registers, literals and buffers of the Fytric instructions (R119, R135, R144, R145, R148, R150). -/
theorem test_wf_refuses_instructions : refused
    [.add64 3#7 2#7 2#7, .sub64 0#7 2#7 2#7, .mul64 2#7 3#7 2#7, .eq64 1#7 5#7 2#7, .ld 3#7 0#7 pair4, .st 5#7 0#7 pair4,
     .ld 1#7 0#7 { word4 with arr := { base := 0x401, bytes := 16 } }, .ld 2#7 0#7 { pair4 with arr := { base := 0x400, bytes := 4 } },
     .st 1#7 0#7 { word4 with arr := { base := 0xFFFFFFFC, bytes := 8 } }, .ld 1#7 2#7 { word4 with ecc := { fixed := [16777216] } }, .loop 1#7 0#7 0 4, .loop 1#7 0#7 65536 4, .loop 1#7 0#7 4 0, .loop 1#7 0#7 4 65536,
     .call 4294967296, .rise 1#7 2#7 4096, .ton 1#7 2#7 3#7 4096, .crd 1#7 4096, .stroke 5#7, .evt 1#7 0#7 1, .evt 1#7 125#7 1, .evt 1#7 2#7 32768,
     .auto 1#7 1024, .cantx 1#7 2 0 0, .cantx 1#7 0 32 0, .cantx 1#7 0 0 0x00FFFFB8, .canpop 1#7 0 2 0, .canmb 1#7 0 128 0,
     .hreq 1#7 16 { base := 0, bytes := 8 }, .hres 1#7 0 { base := 2, bytes := 264 }, .crc 1#7 2#7 .crc8 { base := 0, bytes := 0 },
     .seal 1#7 2#7 .crc8 { base := 0, bytes := 4 } 256, .check 1#7 2#7 .crc8 { base := 0x00FFFFFC, bytes := 8 } 0] = true := by decide

/-- Frames and edges of the wellheads, the ring, CAN and HART (R231, R255, R267, R275, R302, R303). -/
theorem test_wf_refuses_frames : refused
    [.dwLinkFrame { dw0 with alive := 256 }, .dwLinkFrame { dw0 with groups := [] }, .dwLinkFrame { dw0 with encMa := 65536 }, .awLinkFrame { aw0 with w := 2 },
     .awLinkFrame { aw0 with reservoir := 101 }, .analogSample { meas0 with codes := [0] }, .analogSample { meas0 with codes := List.replicate 8 65536 },
     .dioSample { pins := [], limited := 0#32 }, .canFrameReceived 2 { frame := frame8, sof := 0 }, .rxNotice 0 { frame8 with ident := 2048 },
     .rxNotice 0 { frame8 with ide := true, ident := 536870912 }, .rxNotice 0 { frame8 with data := List.replicate 12 0#8 },
     .rxNotice 0 { frame8 with fdf := true, data := List.replicate 9 0#8 }, .canFrameReceived 0 { frame := { frame8 with brs := true }, sof := 0 },
     .canBusError 0 (.sending false 32), .canBusError 0 (.receiving 32), .txdDominantTimeout 0 true 32, .canBusError 0 (.collision 536870912), .hartResponse 16 hart3,
     .hartResponse 0 { hart3 with uid := 274877906944 }, .hartResponse 0 { hart3 with command := 65536 },
     .wazarOutReceived { head1 with port := 3 }, .wazarOutReceived { head1 with port := 0 }, .wazarOutReceived { head1 with stn := 64 },
     .wazarIn { head := head1, linkA := true, linkB := true, acked := 0
                records := [{ slot := 64, subst := false, fault := false, version := 0#32, words := [], crc := 0#32 }] },
     .wazarIdentRsp { head := head1, records := [{ slot := 1, inWords := 256, outWords := 0, code := 0#32 }] },
     .wireBreak 32, .encLineLoss 4, .supplyShort 16, .proofMarkSet 32 true, .engineRail 4, .domainReturn 0, .domainReturn 6, .ethernetLinkUp 0 true] = true := by decide

/-- The tick, priming, the rope, the host, Modbus and PTP (R87, R93, R112, R320, R325, R331, R341, R354, R403). -/
theorem test_wf_refuses_requests : refused
    [.strokeTick { tick0 with station := 64 }, .strokeTick { tick0 with onBus := [64] }, .strokeTick { tick0 with laneFault := some 1024 },
     .strokeTick { tick0 with sramBad := some 16777216 }, .priming { prime0 with station := 64 }, .priming { prime0 with fwBad := [2] },
     .ropeStatus { status0 with role := 5 }, .ropeStatus { status0 with mode := 6 }, .ropeManifest { manifest0 with newMode := 6 },
     .ropeManifest { manifest0 with raw := [(16, 0)] }, .ropeImage (.bytes 4294967296 0 []), .ropeImage (.anchors (List.replicate 9 []) [] []),
     .verifierDone 2 ImageBody.empty,
     .verifierDone 0 { ImageBody.empty with tasks := [{ num := 16, engine := 0, period := 1, phase := 0, sliced := false, budget := 0, entry := 0 }] },
     .regRead { req0 with tag := 4294967296 } 0 1, .regRead req0 4294967296 1, .varWrite req0 [(2, 0#32)], .readCoils { mb0 with tag := 65536 } 1,
     .readCoils mb0 65536, .tuneStart (.host { req0 with tag := 4294967296 }) 0 0#32, .denyAdd req0 [], .deviceAttest req0 [], .sessionOpen { shake0 with chain := 0 }, .regRead { req0 with flags := 65536 } 0 1, .varRead req0 0 { count := 1, ecc := { bad := some 16777216 } },
     .readCoils { mb0 with unit := 256 } 1, .transfer (.more 0) { seq := 4294967296, gap := false, lost := 0 },
     .registerWrite 0 0x40000002 0#32, .registerWrite 0 0x400C0000 0#32, .bitSetAlias 0 0x01000000 0#32, .bitClearAlias 16 0 0#32, .pwrRestart 16 0#32,
     .encLoad 0 4 0#32, .recover 0 2, .feedLow true ⟨0, 65536⟩, .modbusConnect 8, .ropeLaneUp 2, .ptpAnnounce 256 master0, .ptpAnnounce 0 { master0 with priority1 := 256 },
     .ropeStatus { status0 with ack := 4294967296 }, .ropeManifest { manifest0 with inputs := 8 }] = true := by decide

/-! ### Fytric instructions, one at a time

g2 and g3 hold the operands; expected values are worked out from the tables of chapter 07. -/

/-- The Fytric context with the given registers. -/
def regs (l : List (Nat × Word)) : Fy := { Fy.empty with act := { Act.start with regs := l } }

/-- The context after one instruction. -/
def after (i : Instr) (f : Fy) : Option Fy :=
  match exec i { m := { State.reset.m with fy := f }, pending := [] } with
  | .next t => some t.m.fy
  | _ => none

/-- g1 after one instruction on g2 = a and g3 = b. -/
def gives (i : Instr) (a b : Word) : Option Word := (after i (regs [(2, a), (3, b)])).map fun f => f.act.reg 1#7

/-- The pair g4, g5 after one instruction on the pairs g6, g7 and g8, g9. -/
def gives64 (i : Instr) (a b : DWord) : Option DWord := (after i (regs [(6, a.lo), (7, a.hi), (8, b.lo), (9, b.hi)])).map fun f => f.act.pair 4#7

def two (op : RegNo → RegNo → Src → Instr) : Instr := op 1#7 2#7 (.reg 3#7)

theorem test_add_saturates : gives (two .add) 0x7FFFFFFF#32 1#32 = some 0x7FFFFFFF#32 := by decide +kernel
theorem test_add_literal : gives (.add 1#7 2#7 (.lit 0xFFFFFFFE#32)) 5#32 0#32 = some 3#32 := by decide +kernel
theorem test_sub_saturates : gives (two .sub) 0x80000000#32 1#32 = some 0x80000000#32 := by decide +kernel
theorem test_addu_saturates : gives (two .addu) 0xFFFFFFFF#32 1#32 = some 0xFFFFFFFF#32 := by decide +kernel
theorem test_subu_floor : gives (two .subu) 1#32 2#32 = some 0#32 := by decide +kernel
theorem test_mul_negative : gives (two .mul) 0x80000000#32 2#32 = some 0x80000000#32 := by decide +kernel
theorem test_mulu_saturates : gives (two .mulu) 0x10000#32 0x10000#32 = some 0xFFFFFFFF#32 := by decide +kernel
theorem test_div_truncates : gives (two .div) (-7 : Word) 2#32 = some (-3 : Word) := by decide +kernel
theorem test_div_by_zero : gives (two .div) (-7 : Word) 0#32 = some 0x80000000#32 := by decide +kernel
theorem test_div_overflow : gives (two .div) 0x80000000#32 (-1 : Word) = some 0x7FFFFFFF#32 := by decide +kernel
theorem test_divu_by_zero : gives (two .divu) 1#32 0#32 = some 0xFFFFFFFF#32 := by decide +kernel
theorem test_rem_sign : gives (two .rem) (-7 : Word) 2#32 = some (-1 : Word) := by decide +kernel
theorem test_remu : gives (two .remu) 7#32 4#32 = some 3#32 := by decide +kernel
theorem test_andn : gives (two .andn) 0xFF#32 0x0F#32 = some 0xF0#32 := by decide +kernel
theorem test_shl_wide : gives (two .shl) 1#32 32#32 = some 0#32 := by decide +kernel
theorem test_shr_last : gives (two .shr) 0x80000000#32 31#32 = some 1#32 := by decide +kernel
theorem test_sar_wide : gives (two .sar) 0x80000000#32 40#32 = some 0xFFFFFFFF#32 := by decide +kernel
theorem test_min_signed : gives (two .min) 0xFFFFFFFF#32 1#32 = some 0xFFFFFFFF#32 := by decide +kernel
theorem test_minu_unsigned : gives (two .minu) 0xFFFFFFFF#32 1#32 = some 1#32 := by decide +kernel
theorem test_cmov_keeps : gives (two .cmov) 0#32 9#32 = some 0#32 := by decide +kernel
theorem test_lt_signed : gives (two .lt) 0xFFFFFFFF#32 0#32 = some 1#32 := by decide +kernel
theorem test_ltu_unsigned : gives (two .ltu) 0xFFFFFFFF#32 0#32 = some 0#32 := by decide +kernel
theorem test_neg_least : gives (.neg 1#7 2#7) 0x80000000#32 0#32 = some 0x7FFFFFFF#32 := by decide +kernel
theorem test_not_logical : gives (.not 1#7 2#7) 2#32 0#32 = some 0#32 := by decide +kernel
/-- g0 reads as 0 and takes nothing (R138). -/
theorem test_g0_reads_zero : (after (.add 0#7 0#7 (.lit 5#32)) (regs [])).map (fun f => (f.act.reg 0#7, f.act.pc)) = some (0#32, 2) := by decide +kernel

/-- 1.5 + 2.25 = 3.75; the largest finite value on overflow; an infinity is read as the largest finite value (R141). -/
theorem test_fadd : gives (two .fadd) 0x3FC00000#32 0x40100000#32 = some 0x40700000#32 ∧
    gives (two .fadd) 0x7F800000#32 0x7F7FFFFF#32 = some 0x7F7FFFFF#32 := by decide +kernel
/-- x − x = +0. -/
theorem test_fsub_zero : gives (two .fsub) 0xC0000000#32 0xC0000000#32 = some 0#32 := by decide +kernel
/-- 2 × 6.25 = 12.5 with the literal of the spec's example. -/
theorem test_fmul : gives (.fmul 1#7 2#7 (.lit 0x40C80000#32)) 0x40000000#32 0#32 = some 0x41480000#32 := by decide +kernel
/-- 1 / 3 to nearest even; a zero divisor gives the largest finite value of the dividend's sign (R141). -/
theorem test_fdiv : gives (two .fdiv) 0x3F800000#32 0x40400000#32 = some 0x3EAAAAAB#32 ∧
    gives (two .fdiv) 0xBF800000#32 0#32 = some 0xFF7FFFFF#32 := by decide +kernel
theorem test_fsqrt : gives (.fsqrt 1#7 2#7) 0x40000000#32 0#32 = some 0x3FB504F3#32 := by decide +kernel
theorem test_flt_zeros : gives (two .flt) 0x80000000#32 0#32 = some 0#32 := by decide +kernel
/-- 2.5 goes to the even 2, −2.5 toward zero to −2; 2^31 is limited; −1 as UINT32 is 0. -/
theorem test_float_to_integer : gives (.ftoi 1#7 2#7) 0x40200000#32 0#32 = some 2#32 ∧ gives (.ftoiz 1#7 2#7) 0xC0200000#32 0#32 = some (-2 : Word) ∧
    gives (.ftoi 1#7 2#7) 0x4F000000#32 0#32 = some 0x7FFFFFFF#32 ∧ gives (.ftou 1#7 2#7) 0xBF800000#32 0#32 = some 0#32 := by decide +kernel
/-- 2^24 + 1 rounds to even. -/
theorem test_itof_rounds : gives (.itof 1#7 2#7) 0x01000001#32 0#32 = some 0x4B800000#32 := by decide +kernel

theorem test_add64_carry : gives64 (.add64 4#7 6#7 8#7) 0xFFFFFFFF#64 1#64 = some 0x100000000#64 := by decide +kernel
theorem test_sub64_zero_pair : gives64 (.sub64 4#7 0#7 8#7) 5#64 1#64 = some (-1 : DWord) := by decide +kernel
theorem test_mul64_saturates : gives64 (.mul64 4#7 6#7 8#7) 0x4000000000000000#64 (-4 : DWord) = some 0x8000000000000000#64 := by decide +kernel
theorem test_div64_by_zero : gives64 (.div64 4#7 6#7 8#7) 3#64 0#64 = some 0x7FFFFFFFFFFFFFFF#64 := by decide +kernel
theorem test_rem64 : gives64 (.rem64 4#7 6#7 8#7) (-7 : DWord) 2#64 = some (-1 : DWord) := by decide +kernel
theorem test_sx64 : gives64 (.sx64 4#7 6#7) 0x80000000#64 0#64 = some 0xFFFFFFFF80000000#64 := by decide +kernel
theorem test_sat32 : (after (.sat32 1#7 6#7) (regs [(6, 0#32), (7, 1#32)])).map (fun f => f.act.reg 1#7) = some 0x7FFFFFFF#32 := by decide +kernel

/-- PRESS of the spec's example: 6 items from 0x0002_0400, 8 bytes apart; an index of 5 or 9 reaches 0x0002_0428 (R145). -/
def press : Access := { arr := { base := 0x00020400, bytes := 48 }, kind := .word, scale := 1#3 }
theorem test_ld_index : effAddr (regs [(19, 5#32)]).act 19#7 press = 0x00020428 ∧ effAddr (regs [(19, 9#32)]).act 19#7 press = 0x00020428 ∧
    effAddr (regs [(19, (-1 : Word))]).act 19#7 press = 0x00020400 := by decide +kernel
/-- A store is seen by the activation's own load; the system part of the cistern takes none (R90, R172). -/
theorem test_st_then_ld : ((after (.st 2#7 0#7 word4) (regs [(2, 77#32)])).bind (after (.ld 1#7 0#7 word4))).map (fun f => f.act.reg 1#7) = some 77#32 := by
  decide +kernel
theorem test_st_system_part : (after (.st 2#7 0#7 { word4 with arr := { base := 0x00FF0000, bytes := 4 } }) (regs [(2, 77#32)])).map (fun f => f.act.writes) =
    some [] := by decide +kernel

theorem test_brt_taken : (after (.brt 2#7 6#32) (regs [(2, 1#32)])).map (fun f => f.act.pc) = some 8 := by decide +kernel
theorem test_brf_falls_through : (after (.brf 2#7 6#32) (regs [(2, 1#32)])).map (fun f => f.act.pc) = some 2 := by decide +kernel
/-- CALL leaves the return word; RET takes it (R149). -/
theorem test_call_ret : ((after (.call 40) (regs [])).bind (after .ret)).map (fun f => (f.act.pc, f.act.calls)) = some (2, []) := by decide +kernel
/-- A LOOP without a pass skips its body; a NOP body of 2 passes runs twice, gd 1 in the second and 2 at the end (R148). -/
theorem test_loop_skips : (after (.loop 1#7 2#7 8 1) (regs [(2, (-3 : Word))])).map (fun f => (f.act.pc, f.act.loops)) = some (3, []) := by decide +kernel
theorem test_loop_runs : ((after (.loop 1#7 0#7 2 1) (regs [])).bind (after .nop)).map (fun f => (f.act.pc, f.act.reg 1#7)) = some (2, 1#32) := by decide +kernel
theorem test_end_done : (after .endTask (regs [])).map (fun f => f.act.done) = some true := by decide +kernel
theorem test_evt_limit : (after (.evt 1#7 2#7 5) { Fy.empty with act := { Act.start with events := 16 } }).map (fun f => (f.act.reg 1#7, f.act.effects)) =
    some (37#32, []) := by decide +kernel
theorem test_rise_fresh : gives (.rise 1#7 2#7 0) 1#32 0#32 = some 0#32 := by decide +kernel
/-- TON with a preset of 0 closes at once (R151). -/
theorem test_ton_preset_zero : gives (.ton 1#7 2#7 3#7 0) 1#32 0#32 = some 1#32 := by decide +kernel
theorem test_ctu_counts : (after (.ctu 1#7 2#7 0#7 3#7 4095) (regs [(2, 1#32), (3, 1#32)])).map (fun f => f.act.reg 1#7) = some 1#32 := by decide +kernel

/-- The check values of R158 for "123456789". -/
def digits : List Byte := [0x31#8, 0x32#8, 0x33#8, 0x34#8, 0x35#8, 0x36#8, 0x37#8, 0x38#8, 0x39#8]
theorem test_crc_check_values : crcOf .crc8 digits = 0xDF ∧ crcOf .crc16 digits = 0x29B1 ∧ crcOf .crc32 digits = 0xCBF43926 ∧
    crcOf .crc32c digits = 0xE3069283 := by decide +kernel
/-- An activation whose snapshot was cut in RUN. -/
def running : Fy := { Fy.empty with act := { Act.start with snap := { Snap.empty with fields := setField [] F.modStatusMode 3#32 } } }
/-- CANTX in RUN on a port that is not on is refused with NOT_CONFIGURED and INSTR_REFUSED (R12, R156). -/
theorem test_cantx_refused : (after (.cantx 1#7 0 3 0x400) running).map (fun f => (f.act.reg 1#7, f.act.effects)) = some (11#32, [.event
    { source := 0x0F00#16, code := 0x00F0#16, p0 := 0x1C#32, p1 := 0#32, p2 := 11#32, p3 := 3#32 }]) := by decide +kernel
theorem test_hres_empty : gives (.hres 1#7 0 { base := 0x400, bytes := 264 }) 0#32 0#32 = some 32#32 := by decide +kernel

/-! ### Code words written out from the encoding tables (R135 to R159) -/

/-- FMULI g5, g5, 6.25 and LD g18, PRESS[g19] of the spec's example. -/
theorem test_words_of_the_example : assemble (.fmul 5#7 5#7 (.lit 0x40C80000#32)) = [0x10285002#32, 0x40C80000#32] ∧
    assemble (.ld 18#7 19#7 press) = [0x20913001#32, 0x00020400#32] := by decide +kernel

/-! ### The module, one operation at a time -/

/-- A module with register fields put over those of reset. -/
def having (l : List (Nat × Nat)) : M := { State.reset.m with fields := l.foldl (fun t e => setField t e.1 (word e.2)) State.reset.m.fields }

/-- A primed module in a mode and a role with every domain powered. -/
def module (mode role : Nat) (l : List (Nat × Nat)) : M :=
  let m := having ([(F.modStatusMode, mode), (F.redStatusRole, role), (F.pwrDomainOn, 0x1FF)] ++ l)
  { m with ctl := { m.ctl with primed := true }, aon := { m.aon with enables := true } }

/-- A feed becomes LOW and stays LOST at a later dip below 19.2 V; FEED_OVER_END at 19.2 V gives GOOD (R47). -/
theorem test_feed_states : (feedLow false ⟨1, 180⟩ (having [])).nat F.pwrFeedFeedA = 1 ∧ (feedLow true ⟨1, 180⟩ (having [(F.pwrFeedFeedB, 2)])).nat F.pwrFeedFeedB = 2 ∧
    (feedOverEnd true ⟨1, 1920⟩ (having [(F.pwrFeedFeedB, 3)])).nat F.pwrFeedFeedB = 0 := by decide +kernel

/-- SOURCE 0x0221, CODE 0x5210 of the spec's example: class 2 with the hardware bit in KIND (R379). -/
theorem test_kind_of_the_example : (having []).kindOf 0x5210#16 % 8 = 6 := by decide +kernel

/-- The SSI encoder of the spec's example: T_B 100 µs, 25 bits, SSI_TM 20 µs, SSI_CLK 25 is raised to 42 (R248). -/
theorem test_ssi_clock_of_the_example : (having [(F.stkPeriodTbUs, 100), (F.encCfgMode 1, 2), (F.encCfgSsiBits 1, 25), (F.encCfgSsiClk 1, 25),
    (F.encCfgSsiTm 1, 20)]).ssiClock 1 = 42 := by decide +kernel

/-- N = 4000 strokes at T_B = 250 µs and INTERVAL_S = 1, the spec's example (R174). -/
theorem test_checkpoint_interval_of_the_example : (having [(F.stkPeriodTbUs, 250), (F.memCkptCfgIntervalS, 1)]).ckptEvery = 4000 := by decide +kernel

/-- In one commit the clears act before the sets: bit 3 ends at 1 and bit 4 at 0, the spec's example (R91). -/
theorem test_aliases_of_the_example : let ws : List (Nat × Word) := [(0x400, 0x10#32), (0x04000400, 8#32), (0x08000400, 0x18#32)]
    memWord (((having []).applyPlain ws).applyBits ws).mem 0x400 = 8#32 := by decide +kernel

/-- Gray code 0b1101 is 9 (R248); a quadrature step of A, then B, counts up (R247). -/
theorem test_encoder_codes : grayDecode 4 13 = 9 ∧ quadStep false false true false = 1 ∧ quadStep true false true true = 1 ∧ quadStep false false false true = -1 := by
  decide +kernel

/-- LEASE_STROKES 3 at T_B = 100 µs gives a lease of 300 µs, the spec's example (R343). -/
theorem test_lease_of_the_example : (module 3 0 [(F.stkPeriodTbUs, 100), (F.redCfgLeaseStrokes, 3)]).leaseStrokes = 3 := by decide +kernel

/-- Currents of 3.6, 3.8, 20.5 and 21.0 mA stand at the ends of their NAMUR NE 43 bands (R257). -/
theorem test_ne43_bands : [0x40666665#32, 0x40666666#32, 0x40733333#32, 0x41A40000#32, 0x41A40001#32, 0x41A80000#32, 0x41A80001#32].map ne43Band =
    [0, 1, 2, 2, 3, 3, 4] := by decide +kernel

/-- The pitch loop of the spec's example at T_B = 200 µs (R192): KP 2.0, TI 0.5, TD 0.01, N 10.0, B 1.0, C 0.0, UMIN −100.0, UMAX 100.0, RMAX 2000.0, SP 40.0, in
auto; y is the value at 0x400. -/
def pitch (y yPrev dPrev uPrev : Word) : Snap :=
  { Snap.empty with
    mem := memPutWord [] 0x400 y
    fields := [(F.loopPeriodKL 0, 1#32), (F.loopPvAddr 0, 0x400#32), (F.loopKp 0, 0x40000000#32), (F.loopTi 0, 0x3F000000#32), (F.loopTd 0, 0x3C23D70A#32), (F.loopB 0, 0x3F800000#32),
        (F.loopUmin 0, 0xC2C80000#32), (F.loopRmax 0, 0x44FA0000#32), (F.loopSpHi 0, 0x42C80000#32), (F.loopSp 0, 0x42200000#32), (F.loopH 0, 0x3951B717#32),
        (F.loopStatusMode 0, 1#32), (F.loopStatusFresh 0, 0#32), (F.loopREff 0, 0x42200000#32), (F.loopI 0, 0x42C50000#32), (F.loopD 0, dPrev),
        (F.loopEdPrev 0, yPrev ^^^ 0x80000000#32), (F.loopU 0, uPrev)].foldl (fun t e => setField t e.1 e.2) [] }

def pitchEval (y yPrev dPrev uPrev : Word) : LoopResult := evalLoop (pitch y yPrev dPrev uPrev) { blocks := [0], schedules := [], groups := [] } [] LoopHidden.none 0

/-- Evaluation 3: the rate limit holds u at 99.6 and inhibits the integrator. -/
theorem test_loop_rate_of_the_example : let w := (pitchEval 0x4233999A#32 0x42333333#32 0xBF800000#32 0x42C80000#32).words
    w.u = 0x42C73333#32 ∧ w.i = 0x42C50000#32 ∧ bitAt w.status 8 = true ∧ bitAt w.status 11 = true := by decide +kernel

/-! ### Witnesses: states and operands that meet the hypotheses of the statements

A theorem is named after its statement; its parts meet the hypotheses of that statement's clauses, at the ends of their ranges where they have one. Every
state is powered (`test_powered`), so that hypothesis is not repeated. -/

end Sys2Proof.Tests

namespace Sys2Proof.Machine

/-- `m` after its unit `f` was changed. -/
def M.withRed (m : M) (f : Red → Red) : M := { m with red := f m.red }
def M.withRun (m : M) (f : Run → Run) : M := { m with run := f m.run }
def M.withNet (m : M) (f : Net → Net) : M := { m with net := f m.net }
def M.withCtl (m : M) (f : Ctl → Ctl) : M := { m with ctl := f m.ctl }
def M.withDw (m : M) (f : Dw → Dw) : M := { m with dw := f m.dw }
/-- `m` with register fields put. -/
def M.put (m : M) (l : List (Nat × Nat)) : M := { m with fields := l.foldl (fun t e => setField t e.1 (word e.2)) m.fields }

end Sys2Proof.Machine

namespace Sys2Proof.Tests

open Sys2Proof.Machine

/-! Base states: a module alone, each role of a pair with its rope up, and the modes of one module. -/

def alone : M := module 3 0 [(F.redStatusHolder, 1), (F.idStrapsBucketLine, 1)]
def roped (m : M) : M := m.withRed fun r => { r with lost := false, absent := false }
def lead : M := roped <| module 3 1 [(F.redStatusHolder, 1), (F.redStatusPartnerRole, 2), (F.redStatusRope, 1), (F.redStatusLanes, 3), (F.redStatusPartnerHolds, 0)]
def shadow : M := roped <| module 3 2 [(F.redStatusPartnerRole, 1), (F.redStatusPartnerHolds, 1), (F.redStatusRope, 1), (F.redStatusLanes, 3)]
def joiner : M := roped <| module 2 3 [(F.redStatusRope, 1), (F.redStatusLanes, 3)]
def apart : M := roped <| module 2 4 [(F.redStatusRope, 1), (F.redStatusLanes, 3)]
def safe : M := module 5 0 [(F.redStatusHolder, 1), (F.modStatusSafeCause, 2)]
def priming1 : M := roped { module 1 4 [] with ctl := { (module 1 4 []).ctl with primed := false, step8 := true } }
def resting : M := having [(F.modStatusMode, 0)]

theorem test_powered : [alone, lead, shadow, joiner, apart, safe, priming1, resting].all (fun m => m.aon.powered) = true := by decide +kernel

/-- The last element of an array, and an index below 0. -/
theorem witness_AccessInBounds : accessBytes press ≤ press.arr.bytes ∧ ((regs [(19, 5#32)]).act.reg 19#7).toInt = (5 : Nat) ∧
    5 * strideOf press + accessBytes press ≤ press.arr.bytes ∧ ((regs [(19, (-1 : Word))]).act.reg 19#7).toInt < 0 ∧ (19#7 : RegNo) ≠ 0#7 := by decide +kernel

/-- Both kinds; a pair at the end of the part of data SRAM that takes stores. -/
theorem witness_LoadsAndStores : word4.kind = .word ∧ pair4.kind = .pair ∧ let ea := effAddr Act.start 0#7 { pair4 with arr := { base := 0x00FEFFF8, bytes := 8 } }
    writable ea = true ∧ writable (ea + 4) = true ∧ writable (ea + 8) = false ∧
    (let found (x : Access) := eccWithin x.ecc (loadAddrs Act.start 0#7 x); let bit : Access := { word4 with ecc := { fixed := [0x407] } }
      let both : Access := { pair4 with ecc := { bad := some 0x404 } }
      (found pair4).bad = none ∧ (found pair4).fixed = [] ∧ (found bit).bad = none ∧ (found { bit with ecc := { fixed := [0x403, 0x408] } }).fixed = [0x403] ∧
      (found both).bad = some 0x404 ∧ (found { both with kind := .word }).bad = some 0x404 ∧ (found { both with ecc := { bad := some 0x408 } }).bad = none) ∧
    alone.aon.powered = true ∧ 2 ≤ alone.mode ∧ alone.log.queue.length < 1024 ∧ alone.domainOn 1 = true := by decide +kernel

theorem witness_LoadVisibility : Act.start.priming = false ∧ inOpenSram 0x00FEFFFC = true ∧ (inSram 0x00FF0000 = true ∧ inOpenSram 0x00FF0000 = false) ∧
    (inSram 0x00FFFFFC = true ∧ ∀ e ∈ Act.start.writes, e.1 ≠ 0x00FFFFFC) ∧ inSetAlias 0x04FFFFFC = true ∧ inClrAlias 0x08FFFFFC = true ∧
    (inSram 0x01000000 = false ∧ inSetAlias 0x01000000 = false ∧ inClrAlias 0x01000000 = false ∧ inCodeWindow 0x01000000 = false ∧
      inSys 0x01000000 = false ∧ inLoop 0x01000000 = false) := by decide +kernel

theorem witness_ControlFlow : (regs [(2, 1#32)]).act.reg 2#7 ≠ 0#32 ∧ (regs []).act.reg 2#7 = 0#32 ∧ (regs []).act.calls = [] ∧
    ({ (regs []).act with calls := [7] } : Act).calls = 7 :: [] := by decide +kernel

/-- A count of 0 and one of the bound; a body not yet at its end, one with a pass left, and one at its last pass. -/
theorem witness_LoopPasses :
    let f : LoopFrame := { start := 2, stop := 3, pass := 0, count := 2, reg := 1#7, depth := 0 }
    let p : Act := { Act.start with pc := 3 }
    (max 0 (min ((8 : Nat) : Int) ((regs [(2, 0#32)]).act.reg 2#7).toInt)).toNat = 0 ∧ (max 0 (min ((8 : Nat) : Int) ((regs [(2, 9#32)]).act.reg 2#7).toInt)).toNat = 8 ∧
    ¬(Act.start.pc = f.stop) ∧ (p.pc = f.stop ∧ f.depth = p.calls.length ∧ f.pass + 1 < f.count) ∧ (let g : LoopFrame := { f with pass := 1 }; g.count ≤ g.pass + 1) := by
  decide +kernel

theorem witness_SystemInstructions : 16 ≤ ({ Act.start with events := 16 } : Act).events ∧ ({ Act.start with events := 15 } : Act).events < 16 := by decide

/-- A zero divisor, the quotient beyond the maximum, and an ordinary division. -/
theorem witness_IntegerArithmeticAndDivision : let r (l : List (Nat × Word)) (n : RegNo) := (regs l).act.reg n
    r [(2, 5#32)] 3#7 = 0#32 ∧ ((r [(2, 0x80000000#32), (3, 0xFFFFFFFF#32)] 2#7).toInt = -2147483648 ∧ (r [(2, 0x80000000#32), (3, 0xFFFFFFFF#32)] 3#7).toInt = -1) ∧
    (r [(3, 1#32)] 3#7 ≠ 0#32 ∧ ¬((r [(3, 1#32)] 2#7).toInt = -2147483648 ∧ (r [(3, 1#32)] 3#7).toInt = -1)) := by decide +kernel

/-- A timer that the activation before ran, and one skipped for 2^32 activations. -/
theorem witness_TimerSlots : let f : Fy :=
      { act := { Act.start with number := 4294967300 }
        slots := { Slots.empty with timers := [(7, { idleTimer with last := 4294967299, timing := true }), (8, { idleTimer with last := 3, timing := true, q := true })] } }
    let t := f.slots.timers.get idleTimer 7; let u := f.slots.timers.get idleTimer 8
    t.timing = true ∧ t.q = false ∧ f.act.number - t.last = 1 ∧ u.timing = true ∧ u.q = true ∧ f.act.number - u.last = 4294967297 ∧
    (regs [(3, 1#32)]).act.reg 3#7 ≠ 0#32 ∧ (regs []).act.reg 3#7 = 0#32 := by decide +kernel

theorem witness_CounterSlots : ({ zeroCounter with cv := 2147483647 } : CounterSlot).cv ≤ 2147483647 ∧ -2147483648 ≤ zeroCounter.cv ∧ zeroCounter.prev = false ∧
    (regs [(2, 1#32)]).act.reg 2#7 ≠ 0#32 ∧ (regs [(2, 1#32)]).act.reg 3#7 = 0#32 := by decide +kernel

/-- The states of a port, a buffer, a FIFO, a mailbox and a HART channel that the clauses tell apart. -/
theorem witness_CanAndHartInstructions :
    let snap : Snap := { Snap.empty with
      fields := [(F.modStatusMode, 3#32), (F.canRateNom 0, 1000000#32), (F.aioCfgFunc 0, 1#32), (F.hartCfgHartEn 0, 1#32), (F.aioCfgFunc 2, 1#32), (F.hartCfgHartEn 2, 1#32),
        (F.hartStatOutstanding 0, 1#32)].foldl (fun t e => setField t e.1 e.2) []
      fifos := [(0, [(frame8, 5)])], boxes := [(7, some { frame := frame8, filter := 1, isRead := true, lost := true })]
      hart := [(0, some { command := 3, outcome := 0, respCode := 0#8, devStatus := 0#8, data := [] })], hartOk := true }
    let a : Act := { Act.start with snap := snap }
    ({ a with priming := true } : Act).mode = 1 ∧ a.mode = 3 ∧ a.canOn 1 = false ∧ a.canOn 0 = true ∧ a.txLoaded 0 31 = false ∧
    ({ a with effects := [.canTx 0 31 frame8] } : Act).txLoaded 0 31 = true ∧ (a.snap.fifos.get [] (fifoKey 0 1)).length ≤ a.popped 0 1 ∧
    (a.snap.fifos.get [] (fifoKey 0 0)).drop (a.popped 0 0) = (frame8, 5) :: [] ∧ a.snap.boxes.get none (boxKey 0 6) = none ∧
    (a.snap.boxes.get none (boxKey 0 7)).isSome = true ∧ a.hartOn 1 = false ∧ a.hartOn 0 = true ∧ a.hartBusy 0 = true ∧ a.hartTook 0 = false ∧
    (a.snap.hart.get none 0).isSome = true ∧ a.snap.hart.get none 1 = none ∧ (0x00FEFEF8 % 4 = 0 ∧ 0x00FEFEF8 + 264 ≤ 0x00FF0000) ∧
    a.hartOn 2 = true ∧ a.hartBusy 2 = false := by decide +kernel

/-- A buffer that ends with the part of data SRAM that takes stores. -/
theorem witness_CheckUnit : let arr : ArrRef := { base := 0x00FEFFE0, bytes := 32 }
    let len := (max 0 (min ((min arr.bytes 4096 : Nat) : Int) ((regs [(2, 99#32)]).act.reg 2#7).toInt)).toNat
    len = 32 ∧ arr.base + max (CrcKind_bytes .crc32 + 1) len ≤ 0x00FF0000 ∧ Act.start.priming = false := by decide +kernel

/-- The load of the spec's example, with its array in the reference list, and the SEAL of a buffer. -/
theorem witness_CodeWordsDecode : let arr : ArrRef := { base := 0x400, bytes := 16 }
    let b (i : Instr) (a : ArrRef) : ImageBody := { ImageBody.empty with code := assemble i, refs := [(0, a)] }
    let meets (i : Instr) (b : ImageBody) (a : ArrRef) (k : AccessKind) (s : BitVec 3) : Bool := i.wf && !(assemble i).isEmpty &&
      ((List.range (assemble i).length).all fun n => b.code.getD n 0#32 == (assemble i).getD n 0#32) && namedArray b 0 a.base k s == a
    (let i := Instr.ld 18#7 19#7 press; meets i (b i press.arr) press.arr press.kind press.scale = true) ∧
    (let i := Instr.seal 1#7 2#7 .crc16 arr 255; meets i (b i arr) arr .word 0#3 = true) := by decide +kernel

theorem witness_CommandsComplete : assemble .powerLoss = [] ∧ (∀ now, Instr.powerLoss ≠ .aonPowerUp now) ∧ (aonPowerDown resting).aon.powered = false := by
  refine ⟨by decide, ?_, by decide +kernel⟩
  intro now h
  cases h

/-- An instruction that is no load, and a load that meets no error. -/
theorem witness_InstructionFrame : assemble .nop ≠ [] ∧ (∀ d a x, Instr.nop ≠ .ld d a x) ∧
    ∀ d a x, Instr.ld 18#7 19#7 press = .ld d a x → eccWithin x.ecc (loadAddrs Act.start a x) = {} := by
  refine ⟨by decide, ?_, ?_⟩ <;> intro d a x h <;> cases h
  decide +kernel

theorem witness_StepKeepsReports : State.reset.m.CountsShown ∧ State.reset.m.ContactSafe ∧ step State.reset = .next State.reset := by
  refine ⟨?_, ?_, rfl⟩
  · unfold M.CountsShown; decide +kernel
  · unfold M.ContactSafe; decide +kernel

theorem witness_MemoryCanonical : Memory.wf [(5, 1#8)] = true ∧ (∀ a, memByte [(5, 1#8)] a = memByte (memPut [] 5 1#8) a) ∧ (7 < 8 ∨ 8 + 4 ≤ 7) := by
  refine ⟨by decide, fun _ => rfl, by decide⟩

/-- An address that no register has, and a bit of MOD_REQ that no field covers. -/
theorem witness_ReservedBits : fieldsAt 0x400BFFFC = [] ∧ inSys 0x400BFFFC = true ∧ (31 < 32 ∧ ∀ f ∈ fieldsAt 0x40001010, 31 < f.lo ∨ f.hi < 31) ∧
    inSys 0x40001010 = true ∧ fieldsAt 0x40001010 ≠ [] := by decide +kernel

theorem witness_FeedsAndDips : resting.on F.pwrFeedDipActive = false ∧ (resting.put [(F.pwrFeedDipActive, 1)]).on F.pwrFeedDipActive = true := by decide +kernel

theorem witness_AonPower : (aonPowerDown resting).aon.powered = false ∧ resting.on F.pwrFeedDipActive = false ∧ (resting.put [(F.pwrFeedDipActive, 1)]).on F.pwrFeedDipActive = true := by
  decide +kernel

theorem witness_ResetsAndSaves : (2 ≤ apart.mode ∧ apart.role ≠ 3) ∧ (2 ≤ joiner.mode ∧ joiner.role = 3) ∧ priming1.mode = 1 ∧ resting.mode = 0 ∧
    resting.aon.saving = 0 ∧ let m : M := { resting with aon := { resting.aon with saving := 2 }, saves := { resting.saves with running := some (1, Area.empty) } }
    m.aon.saving ≠ 0 ∧ m.saves.running = some (1, Area.empty) ∧ resting.saves.running = none ∧
    apart.ctl.primed = true ∧ apart.saves.newer = none ∧ (apart.withCtl fun c => { c with primed := false }).ctl.primed = false ∧
    (let l : LastCommit := { mode := 5, cells := [], identity := [] }; (apart.withRun fun r => { r with last := some l }).run.last = some l) := by decide +kernel

/-- The stations of a partner's coming and going, and a strap whose wellhead works or not. -/
theorem witness_PresenceAndStrapLines : (alone.holds = true ∧ apart.holds = false) ∧ (resting.mode = 0 ∧ alone.role = 0) ∧
    (2 ≤ lead.mode ∧ lead.hlt.refused = [] ∧ lead.role = 1 ∧ lead.red.joining = false) ∧ (apart.role = 4 ∧ apart.hlt.refused = []) ∧
    (lead.withRed fun r => { r with joining := true }).red.joining = true ∧ (joiner.mode ≠ 0 ∧ joiner.role = 3) ∧
    (2 ≤ shadow.mode ∧ shadow.role = 2 ∧ shadow.holds = false) ∧ (2 ≤ alone.mode ∧ alone.hlt.refused = []) ∧ safe.mode = 5 ∧ alone.mode = 3 ∧
    ((module 4 0 [(F.idStrapsDbgEn, 1)]).mode = 4 ∧ (module 4 0 [(F.idStrapsDbgEn, 1)]).on F.idStrapsDbgEn = true) ∧
    (alone.awOn 1 = true ∧ (alone.awGet 1).coreDead = false ∧ (alone.awGet 1).silent = false) ∧ resting.awOn 0 = false ∧ (1 : Nat) < 2 := by decide +kernel

/-- Fractions of a second at 100 ms and 900 ms, and the roles that follow. -/
theorem witness_TimeSources : let at1 (n : Int) (l : List (Nat × Nat)) : M := let m := module 3 0 l; { m with aon := { m.aon with wallOff := n } }
    ((at1 100000000 []).at 0).wall.toNat % 1000000000 ≤ 100000000 ∧ 900000000 ≤ ((at1 900000000 []).at 0).wall.toNat % 1000000000 ∧
    (at1 0 [(F.wallQualQuality, 3)]).nat F.wallQualQuality = 3 ∧ (at1 0 [(F.stkTimebaseLockSrc, 2)]).nat F.stkTimebaseLockSrc = 2 ∧
    shadow.role = 2 ∧ alone.nat F.stkTimebaseLockSrc = 0 ∧ resting.mode = 0 := by decide +kernel

/-- A module alone, one in step, one armed, a joiner that primes, one in SAFE; engine 3. -/
theorem witness_FailStop : (3 : Nat) < 4 ∧ resting.mode = 0 ∧ (priming1.mode = 1 ∧ priming1.role ≠ 3) ∧ (lead.inStep = true ∧ lead.on F.redStatusSafeDriver = false) ∧
    ((module 1 3 []).mode = 1 ∧ (module 1 3 []).role = 3) ∧ (apart.put [(F.redStatusArmed, 1)]).on F.redStatusArmed = true ∧
    (2 ≤ alone.mode ∧ alone.mode ≤ 4 ∧ alone.inStep = false ∧ alone.on F.redStatusArmed = false ∧ alone.holds = true) ∧
    (safe.mode = 5 ∧ safe.inStep = false ∧ safe.on F.redStatusArmed = false) ∧ apart.holds = false := by decide +kernel

theorem witness_SelfTestsAndMarks : let m := module 3 0 [(F.redStatusHolder, 1), (F.dioCfgDir 31, 1), (F.dioOut, 0x80000000), (F.hltCfgProofDays, 30)]
    (let m := m.withDw fun d => { d with out := 0x80000000#32, passed := true, island := setField d.island (F.dioGrpState 3) 0#32 }; m.holds = true ∧ m.dioDrives 31 = some true ∧ m.isl (F.dioStatSwitchFault 31) = 0) ∧
    apart.holds = false ∧ m.on F.hltCfgProofDays = true ∧ (2 ≤ m.mode ∧ (3 : Nat) < 4) ∧ resting.mode < 2 ∧ resting.healthyNow = false := by decide +kernel

/-- The last storage word of a scrub pass, and a checkpoint under way. -/
theorem witness_MemoryUpkeep : let m : M := { apart with saves := { apart.saves with scrubAt := 2097151, running := some (0, Area.empty) } }
    m.saves.scrubAt + 1 = 2 ^ 21 ∧ apart.saves.scrubAt + 1 < 2 ^ 21 ∧ apart.mode ≠ 0 ∧ resting.mode = 0 ∧ (2 ≤ m.mode ∧ m.aon.saving = 0 ∧ m.saves.running = some (0, Area.empty)) ∧
    apart.saves.running = none ∧ (apart.domainOn 1 = true ∧ apart.log.queue = []) := by decide +kernel

/-- An entry that merges into the open record, and one that does not. -/
theorem witness_OpenRecord :
    let x : LogEntry := { event := ev 0x0040 0x1050, stroke := 9#64, wall := 0#64, qual := 0, kind := 4 }
    let o : LogRec := { seq := 1#32, event := x.event, first := 8#64, last := 8#64, wall := 0#64, qual := 0, kind := 4, repeats := 65534, bad := false }
    let m : M := { apart with log := { apart.log with queue := [x], opened := some o } }
    m.domainOn 1 = true ∧ m.log.queue = x :: [] ∧ m.on F.logStatFull = false ∧ o.event = x.event ∧ o.kind % 8 = x.kind % 8 ∧ o.repeats < 65535 ∧
    m.log.records.length < 65534 ∧ ¬({ o with repeats := 65535 } : LogRec).repeats < 65535 := by decide +kernel

/-- A module ready to prime, with and without an image. -/
theorem witness_PrimingSteps :
    let may (m : M) (now : Nat) : Bool := m.mode == 0 && m.aon.saving == 0 && !m.aon.resetLow && !m.aon.waiting &&
      m.on F.pwrFeedStandpipeReady && !m.on F.pwrFeedDipActive && m.aon.railSince.any fun t0 => decide (t0 + 100000000 ≤ max m.aon.now now)
    let m := having [(F.modStatusMode, 0), (F.pwrFeedStandpipeReady, 1)]
    let m : M := { m with aon := { m.aon with railSince := some 0 } }
    let n := m.put [(F.idImgSlotActive 1, 1), (F.idImgSlotState 1, 3)]
    may m 100000000 = true ∧ may m 99999999 = false ∧ (m.firmwareToRun []).isSome = true ∧ (m.firmwareToRun [0, 1]).isSome = false ∧ m.slotToRun = none ∧
    n.slotToRun.isSome = true ∧ may n 100000000 = true ∧ (priming1.mode = 1 ∧ priming1.role ≠ 3) ∧ joiner.role = 3 := by decide +kernel

/-- A tick that finds no error, one that does, and the stations of the bucket step. -/
theorem witness_StrokeSkipped : tick0.sramFixed = [] ∧ tick0.mramFixed = 0 ∧ (let x := { tick0 with sramFixed := [0, 2097151], mramFixed := 65536 }; x.sramBad = none ∧ x.mramBad = false) ∧
    (let m := apart.withCtl fun c => { c with primed := false }; m.mode ≠ 0 ∧ m.ctl.step8 = false ∧ m.ctl.primed = false) ∧ (priming1.withRed fun r => { r with joinAsked := true }).red.joinAsked = true ∧
    (let m := priming1.put [(F.idStrapsBucketLine, 1), (F.redStatusRope, 1), (F.redCfgAutoJoin, 0)]; let m : M := { m with aon := { m.aon with joinAgain := true } };
      m.ropeUp = true ∧ m.on F.redCfgAutoJoin = false ∧ m.aon.joinAgain = true ∧ m.red.noJoin = false) ∧ resting.mode = 0 ∧ (priming1.mode ≠ 0 ∧ priming1.ctl.step8 = true) ∧ (priming1.withRed fun r => { r with absent := true }).red.absent = true ∧
    (let m := priming1.put [(F.idStrapsBucketLine, 1), (F.redStatusRope, 1), (F.redCfgAutoJoin, 1)];
      m.red.absent = false ∧ m.on F.idStrapsBucketLine = true ∧ m.ropeUp = true ∧ m.on F.redCfgAutoJoin = true ∧ m.red.noJoin = false ∧ m.red.joinAsked = false) ∧
    (priming1.put [(F.idStrapsBucketLine, 1)]).ropeUp = false ∧
    (apart.mode ≠ 0 ∧ apart.ctl.step8 = false ∧ apart.ctl.primed = true ∧ apart.ctl.firstCommit = false ∧ tick0.sramBad = none ∧ tick0.mramBad = false) ∧
    (shadow.withRed fun r => { r with mismatch := some (5#64, 1#64, 2#64) }).red.mismatch.isSome = true := by decide +kernel

theorem witness_StrokeCommits : alone.mode = 3 ∧ alone.role = 0 ∧ alone.holds = true ∧ alone.ctl.step8 = false ∧ alone.ctl.primed = true ∧ alone.ctl.firstCommit = false ∧
    alone.run.abandoned = false ∧ alone.red.wantBucket = 0 ∧ alone.on F.redStatusArmed = false ∧ alone.red.mismatch = none ∧ alone.red.roleEvent = 0 ∧
    alone.store.change = none ∧ tick0.sramBad = none ∧ tick0.mramBad = false ∧ tick0.leaseFault = false ∧ tick0.laneFault = none ∧
    (let m := alone.withCtl fun c => { c with nextMode := some (1#64, 2, 0) }; m.ctl.nextMode = some (1#64, 2, 0) ∧ (1#64 : DWord).toNat ≤ (m.stroke + 1#64).toNat ∧
      ∀ at1 mode cause, m.ctl.nextMode = some (at1, mode, cause) → mode = 2 ∨ mode = 3) ∧ alone.ctl.nextMode = none := by
  refine ⟨by decide +kernel, by decide +kernel, by decide +kernel, by decide +kernel, by decide +kernel, by decide +kernel, by decide +kernel, by decide +kernel,
    by decide +kernel, by decide +kernel, by decide +kernel, by decide +kernel, by decide +kernel, by decide +kernel, by decide +kernel, by decide +kernel, ⟨rfl, by decide, ?_⟩, rfl⟩
  intro at1 mode cause h
  cases h
  decide

/-- The manifest of the stroke for a shadow, one that waits for a frame, and the three findings of an exchange. -/
theorem witness_ManifestsAndDigests :
    let x := manifest0
    let waits : Manifest := { x with can := [{ port := 0, frame := frame8, route := 3, mailbox := 0, filter := 0 }] }
    let did (m : M) : M := m.withRun fun r => { r with executed := true }
    (x.stroke = shadow.stroke ∧ shadow.run.executed = false ∧ shadow.run.manifest = none ∧ 2 ≤ shadow.mode ∧ shadow.red.mismatch = none ∧ shadow.role = 2 ∧
      shadow.run.lane = none ∧ (shadow.begun.cutShadow x).isSome = true) ∧ shadow.begun.cutShadow waits = none ∧
    (joiner.run.executed = false ∧ joiner.run.manifest = none ∧ joiner.red.mismatch = none ∧ joiner.role = 3) ∧
    (shadow.run.parked = none ∧ shadow.hlt.refused = [] ∧ shadow.store.change = none) ∧ alone.role < 2 ∧
    (let m := did lead; m.run.executed = true ∧ m.run.paceDue = false ∧ m.role = 1 ∧ m.red.joining = false ∧ m.inStep = true ∧ m.holds = true ∧ m.run.partner = none) ∧
    (let m := did alone; m.run.executed = true ∧ m.role = 0 ∧ 2 ≤ m.mode ∧ m.mode ≤ 4 ∧ m.on F.redStatusArmed = false ∧ m.inStep = false) ∧
    (let m := (did lead).withRun fun r => { r with partner := some (did lead).strokeDigest, partnerOk := true };
      m.run.partner = some m.strokeDigest ∧ m.run.partnerOk = true) ∧ (did shadow).run.executed = true := by decide +kernel

/-- A lead module that a partner joins, with a record that waits, for the CATCHUP: as many pages as the stroke reaches, and every record, or all but one. -/
theorem witness_ManifestsAndDigests_catchup : let m := (lead.withRun fun r => { r with executed := true }).withRed fun r => { r with joining := true, records := [.more 0] }
    (m.run.executed = true ∧ m.run.paceDue = false ∧ m.role = 1 ∧ m.red.joining = true ∧ m.red.unsent = 0) ∧
    m.markStroke.red.dirty.length ≤ (m.storeAddrs.map pageOf ++ m.partsReached).length ∧ min 0 m.markStroke.red.records.length = 0 ∧
    min 1 m.markStroke.red.records.length ≠ 0 := by
  intro m
  have h : m.role = 1 ∧ m.red.joining = true ∧ m.red.dirty = [] ∧ m.red.records = [.more 0] ∧ m.run.executed = true ∧ m.run.paceDue = false ∧ m.red.unsent = 0 := by
    decide +kernel
  obtain ⟨d, e, n⟩ := M.markStroke_red m h.1 h.2.1
  refine ⟨⟨h.2.2.2.2.1, h.2.2.2.2.2.1, h.1, h.2.1, h.2.2.2.2.2.2⟩, ?_, by simp, ?_⟩
  · simpa [e, h.2.2.1] using n
  · simp [e, h.2.2.2.1]

theorem witness_DivergenceAndPace :
    let m := lead.withRed fun r => { r with mismatch := some (5#64, 1#64, 2#64) }
    lead.role = 1 ∧ alone.role ≠ 1 ∧ alone.role ≠ 2 ∧ lead.red.mismatch = none ∧ (m.red.mismatch.isSome = true ∧ m.red.selfOwn ≠ some true ∧ m.red.selfPartner = none ∧
      m.red.lost = false ∧ m.role = 1 ∧ m.red.joining = false ∧ m.hlt.refused = []) ∧ (m.withRed fun r => { r with selfOwn := some true }).red.selfOwn = some true ∧
    (m.withRed fun r => { r with selfPartner := some false }).red.selfPartner.isSome = true ∧ shadow.holds = false ∧ resting.mode = 0 ∧
    (alone.mode ≠ 0 ∧ alone.run.paceNeg = false) ∧ (let m := alone.withRun fun r => { r with paceNeg := true };
      m.run.paceNeg = true ∧ (-1 : Int) < 0 ∧ m.role = 0 ∧ 2 ≤ m.mode ∧ m.mode ≤ 4 ∧ m.on F.redStatusArmed = false ∧ (m.at 0).atExchange = false) ∧
    (let m := lead.withRun fun r => { r with paceNeg := true, executed := true }; let m := m.withRed fun r => { r with tickAt := 10000 }; (m.at (1000 * m.nat F.stkPeriodTbUs)).atExchange = true) ∧
    (let z : SelfTest := { pass := true, leaseFault := true }; let m := alone.withRed fun r => { r with mismatch := some (5#64, 1#64, 2#64) };
      z.leaseFault = true ∧ m.holds = true ∧ m.role = 0 ∧ m.red.mismatch.isSome = true) ∧
    (let m := shadow.withRed fun r => { r with mismatch := some (5#64, 1#64, 2#64), selfOwn := some true }; m.red.selfPartner = none ∧ m.role = 2 ∧ m.holds = false) := by decide +kernel

def onNet : M := alone.put [(F.netIp 0, 0x0A000001), (F.mbCfgEnable, 1)]
theorem witness_NetPort : (onNet.mode ≠ 0 ∧ onNet.domainOn 4 = true ∧ onNet.reg (F.netIp (onNet.nat F.idStrapsSlot)) ≠ 0#32) ∧ 0x0A000001#32 = onNet.reg (F.netIp (onNet.nat F.idStrapsSlot)) ∧
    (onNet.on F.mbCfgEnable = true ∧ 7 ∉ onNet.net.conns ∧ onNet.net.conns.length < 8) ∧ resting.mode = 0 ∧
    (let m := onNet.withNet fun n => { n with conns := [0, 1, 2, 3, 4, 5, 6, 8] }; 7 ∉ m.net.conns ∧ 8 ≤ m.net.conns.length) ∧ 3 ∈ (onNet.withNet fun n => { n with conns := [3] }).net.conns := by
  decide +kernel

/-- Requests with and without one before them, and the roles that take no writes. -/
theorem witness_ModbusRequests : let m := onNet.withNet fun n => { n with conns := [2] }
    (m.mode ≠ 0 ∧ m.domainOn 4 = true ∧ m.reg (F.netIp (m.nat F.idStrapsSlot)) ≠ 0#32 ∧ mb0.conn ∈ m.net.conns) ∧ m.net.writes = [] ∧
    (m.mode ≠ 1 ∧ m.role = 0) ∧ m.mbRange 5 0 1 = 2 ∧ m.aMb < 1 + 8 ∧ m.mbRange 5 0 0 = 0 ∧ ((m.put [(F.redStatusRole, 2)]).role ≠ 0 ∧ (m.put [(F.redStatusRole, 2)]).role ≠ 1 ∧
      (m.put [(F.redStatusRole, 2)]).role ≠ 4) := by decide +kernel

/-- A Sync whose offset at `onPtp` is the one given. -/
def fixAt (offset : Int) : PtpMeas := { now := 10000000000, origin := 10000000000, correction := -offset, servo := 0, adj := 0 }
def onPtp : M := (onNet.put [(F.ptpCfgPtpEn, 1), (F.ptpStatPortState, 3)]).withNet fun n => { n with ptpMaster := some 4, delayAsked := true, twoStepOpen := true }
/-- Offsets at the edges of the two bands, ten seconds within 1 µs, errors of the clock at the edge of a step, and a port whose address is gone. -/
theorem witness_PtpPort :
    let offset (m : M) (x : PtpMeas) : Int := ((x.now / 8 * 8 : Nat) + m.net.ptpClock) - x.origin - x.correction - m.net.ptpDelay
    let err (m : M) (x : PtpMeas) : Int := (BitVec.ofInt 64 ((m.at x.now).aon.now + m.net.ptpClock - offset m x) - (m.at x.now).wall).toInt
    let apart (n : Int) : M := let m := onPtp.put [(F.ptpStatSynced, 1), (F.wallQualQuality, 4)]; { m with aon := { m.aon with wallOff := n } }
    (onPtp.ptpOn = true ∧ onPtp.nat F.ptpCfgDomain = 0 ∧ onPtp.net.ptpMaster = some 4 ∧ onPtp.nat F.ptpStatPortState = 3 ∧ onPtp.net.delayAsked = true ∧
      onPtp.net.twoStepOpen = true ∧ onPtp.on F.ptpStatSynced = false ∧ onPtp.net.inBand = none ∧ onPtp.nat F.wallQualQuality ≤ 1) ∧
    (offset onPtp (fixAt 1000) = 1000 ∧ offset onPtp (fixAt (-1000)) = -1000 ∧ offset onPtp (fixAt 10001) = 10001 ∧ offset onPtp (fixAt (-10001)) = -10001) ∧
    (err (apart 1000000) (fixAt 0) = -1000000 ∧ err (apart (-1000000)) (fixAt 0) = 1000000 ∧ err (apart 1000001) (fixAt 0) = -1000001 ∧ err (apart (-1000001)) (fixAt 0) = 1000001) ∧
    ((onPtp.withNet fun n => { n with inBand := some 0 }).net.inBand = some 0 ∧ 0 + 10000000000 ≤ (onPtp.at (fixAt 0).now).aon.now ∧
      (onPtp.withNet fun n => { n with inBand := some 1 }).net.inBand = some 1 ∧ (onPtp.at (fixAt 0).now).aon.now < 1 + 10000000000) ∧
    ((apart 0).on F.ptpStatSynced = true ∧ 2 ≤ (apart 0).nat F.wallQualQuality ∧ (apart 0).role ≠ 2 ∧ (apart 0).role ≠ 3) ∧ alone.ptpOn = false ∧
    (let m := onPtp.put [(F.netIp 0, 0)]; m.netOn = true ∧ m.ptpOn = false ∧ m.on F.ptpCfgPtpEn = true) ∧ resting.netOn = false ∧
    ({ master := 4, sent := 9, receive := 8, correction := 0 } : PtpDelay).master = 4 ∧ (onPtp.put [(F.ptpStatPortState, 0)]).nat F.ptpStatPortState = 0 := by decide +kernel

theorem witness_RingPorts : (63 : Nat) < 64 ∧ (alone.domainOn 4 = true ∧ alone.mode ≠ 0) ∧ resting.mode = 0 ∧
    ((alone.put [(F.rioStnStatState 63, 1)]).nat (F.rioStnStatState 63) = 1) ∧ (alone.put [(F.rioStnStatState 63, 4)]).nat (F.rioStnStatState 63) = 4 ∧
    bothWays alone.ring.seen1 alone.ring.seen2 = false ∧ bothWays [⟨1, 2, 3⟩] [⟨1, 2, 3⟩] = true := by decide +kernel

/-- A new frame of a declared station, the same frame again, another originator of its address, and a record with a right CRC and with a wrong one. -/
theorem witness_RingStations :
    let d : ModuleDecl := { station := 9, slot := 3, inWords := 1, outWords := 0, code := 0#32, inAddr := 0, outAddr := 0 }
    let m := alone.put [(F.rioStnCfgPresent 9, 1), (F.rioStnStatState 9, 2), (F.idImgSlotActive 0, 1)]
    let m : M := { m with store := { m.store with slots := [(0, { ImgSlot.empty with body := { ImageBody.empty with modules := [d] } })] } }
    let st : Station := { claims := [(0, 0)], needStart := false, ackOk := true, sentAt := 0, out := [], removedUntil := none }
    let h : WazarHead := { head1 with mac := 5 }
    let r : RioRecord := { slot := 3, subst := false, fault := true, version := 1#32, words := [7#32], crc := word (recordCrc 0 9 (recordBody 3 false true 1 [7#32])) }
    (m.domainOn 4 = true ∧ m.mode ≠ 0 ∧ h.stn = 9 ∧ (m.freshFrame h).isSome = true ∧ m.on (F.rioStnCfgPresent 9) = true ∧ m.nat (F.rioStnStatState 9) = 2) ∧
    (m.stn 9).claims = [] ∧ m.slotDiffers 9 [] = some 3 ∧ (alone.slotDiffers 9 [] = none ∧ alone.nat (F.rioStnStatState 9) ≠ 3) ∧ (h.start = false ∧ { h with start := true }.start = true) ∧
    m.ring.foreignAt = none ∧ h.ctrl = m.nat F.idStrapsStationAddr ∧ ({ h with ctrl := 255 } : WazarHead).ctrl ≠ m.nat F.idStrapsStationAddr ∧ h.mac ≠ m.ownMac ∧
    (({ m with ring := { m.ring with stations := [(9, st)] } } : M).stn 9).claims = [(0, 0)] ∧ ¬((0 : Nat) = 5 ∨ 0 + 100000000 < max m.aon.now 100000000) ∧
    (recordOk r h = true ∧ recordOk { r with fault := false } h = false ∧
      m.modules.find? (fun e => e.1.station == 9 && e.1.slot == r.slot && e.1.inWords == r.words.length) = some (d, 0) ∧ ((m.rmod 0).kept.head?.map (·.version)) ≠ some r.version) ∧
    (m.freshFrame h).any (fun u => (u.freshFrame h).isNone) = true := by decide +kernel

def onBus : M := alone.put [(F.canRateNom 1, 1000000), (F.canStatState 1, 0), (F.canStatListenActive 1, 0)]
theorem witness_CanBus : (1 : Nat) < 2 ∧ (31 : Nat) < 32 ∧ (onBus.canLive 1 = true ∧ onBus.nat (F.canStatState 1) ≠ 2 ∧ onBus.canListens 1 = false ∧ (onBus.port 1).next = [] ∧
      (onBus.port 1).abort = []) ∧ resting.canLive 0 = false ∧ shadow.role = 2 ∧ (let m := onBus.put [(F.canFltCfgRoute 1 63, 1), (F.canFltCfgOwned 1 63, 1), (F.canFltMatchMatch 1 63, 0x123), (F.canFltMaskMask 1 63, 0x1FFFFFFF)];
      (63 : Nat) < 64 ∧ canMatches m.fields 1 63 frame8 = true ∧ m.on (F.canFltCfgOwned 1 63) = true) ∧ canMatches onBus.fields 1 63 frame8 = false ∧
    (let m : M := { onBus with can := [(1, { CanPort.start with tx := [(31, some frame8)], recovering := true })] };
      let off := m.put [(F.canStatState 1, 2)]
      (m.port 1).tx.get none 31 ≠ none ∧ (m.port 1).tx.get none 30 = none ∧ off.nat (F.canStatState 1) = 2 ∧ (off.port 1).recovering = true) ∧
    (let at1 (tec rec_ st : Nat) : M := onBus.put [(F.canStatTec 1, tec), (F.canStatRec 1, rec_), (F.canStatState 1, st)]; let tec (m : M) := m.nat (F.canStatTec 1)
      let rec_ (m : M) := m.nat (F.canStatRec 1); let st (m : M) := m.nat (F.canStatState 1)
      (tec (at1 255 128 1) = 255 ∧ st (at1 255 128 1) = 1 ∧ rec_ (at1 255 128 1) = 128) ∧ (tec (at1 127 127 0) = 127 ∧ st (at1 127 127 0) = 0 ∧ rec_ (at1 127 127 0) = 127) ∧
      (tec (at1 128 127 0) = 128 ∧ st (at1 128 127 0) = 0)) ∧
    (let m := onBus.put [(F.canStatListenActive 1, 1)]; m.canListens 1 = true ∧ m.drives = true) ∧ onBus.drives = true ∧
    lead.role = 1 ∧ lead.nat F.redStatusPartnerRole = 2 := by decide +kernel

def onHart (dev : Nat) (c : HartChan) : M := { alone.put [(F.aioCfgFunc 15, 1), (F.hartCfgHartEn 15, 1), (F.hartStatDevice 15, dev), (F.hartCfgBurstEn 15, 1)] with hart := [(15, c)] }
theorem witness_HartChannels : let x : HartTx := { command := 3, data := [], attempts := 0, sent := true, task := 0, pass := none }
    (15 : Nat) < 16 ∧ (onHart 2 { HartChan.start with tx := some x }).hartActive 15 = true ∧ resting.hartActive 15 = false ∧ hart3.ok = true ∧
    (let c := (onHart 2 { HartChan.start with tx := some x, uid := some 0 }).hartGet 15; c.tx = some x ∧ x.sent = true ∧ x.done = false ∧ c.identify = none ∧ c.uid = some (hart3.uid % 2 ^ 38)) ∧
    ({ x with sent := false } : HartTx).sent = false ∧ ({ hart3 with ok := false } : HartFrame).ok = false ∧
    (let m := (onHart 2 HartChan.start).put [(F.hartCfgRetries 15, 1)]; m.nat (F.hartCfgRetries 15) < 1 + 1 ∧ 0 + 1 ≤ m.nat (F.hartCfgRetries 15)) ∧
    (onHart 2 { HartChan.start with uid := some 1 }).hartGet 15 ≠ (onHart 2 HartChan.start).hartGet 15 ∧ ((onHart 1 { HartChan.start with identify := some 0 }).hartGet 15).identify = some 0 ∧
    (onHart 3 HartChan.start).nat (F.hartStatDevice 15) = 3 ∧ (onHart 3 HartChan.start).hartActive 15 = true ∧ (onHart 2 HartChan.start).on (F.hartCfgBurstEn 15) = true := by decide +kernel

def onDio : M := (alone.put [(F.dioCfgDir 31, 1), (F.dioCfgWbEn 0, 1)]).withDw fun d =>
  { d with out := 0x80000000#32, passed := true, island := [(F.dioGrpState 3, 0#32), (F.dioStatThermal 31, 1#32), (F.dioStatCurrentLimit 31, 1#32)].foldl (fun t e => setField t e.1 e.2) d.island }
theorem witness_DigitalChannels : (31 : Nat) < 32 ∧ (3 : Nat) < 4 ∧ (onDio.dwOn = true ∧ resting.dwOn = false) ∧ (onDio.cfgOn (F.dioCfgDir 0) = false ∧ onDio.cfgOn (F.dioCfgWbEn 0) = true) ∧
    (onDio.on (F.dioCfgDir 31) = true ∧ onDio.cfgOn (F.dioCfgDir 31) = true) ∧ (onDio.isl (F.dioStatThermal 31) = 1 ∧ onDio.dw.out.getLsbD 31 = true) ∧ (31 / 8 = 3 ∧ onDio.isl (F.dioStatCurrentLimit 31) = 1) ∧
    (onDio.holds = true ∧ onDio.role ≠ 2) ∧ (let m := onDio.withDw fun d => { d with island := setField [] (F.dioGrpState 3) 0#32 };
      m.dioDrives 31 = some true ∧ m.isl (F.dioStatCurrentLimit 31) = 0 ∧ m.on (F.dioCfgParalleled 31) = false ∧
      (m.withDw fun d => { d with out := 0#32 }).dioDrives 31 = some false) := by decide +kernel

theorem witness_DigitalLinkAndEncoders : let m := alone.put [(F.encCfgMode 3, 1)]
    (3 : Nat) < 4 ∧ resting.dwOn = false ∧ (m.dwOn = true ∧ (m.cfg (F.encCfgMode 3)).toNat = 1 ∧ m.isl (F.encStatLineFault 3) ≠ 1 ∧ (m.enc 3).a = false) ∧ dw0.good = true ∧
    m.dw.alive ≠ some dw0.alive ∧ m.dw.coreDead = false ∧ (m.withDw fun d => { d with alive := some 1 }).dw.alive = some dw0.alive ∧
    (m.withDw fun d => { d with island := setField [] (F.encStatLineFault 3) 1#32 }).isl (F.encStatLineFault 3) = 1 ∧
    (let m := (alone.put [(F.encCfgMode 3, 2), (F.encCfgSsiBits 3, 25)]).withDw fun d => { d with passed := true }; m.ssiDrives 3 = some true ∧ m.isl (F.encStatLineFault 3) ≠ 1 ∧
      m.on (F.encCfgGray 3) = false ∧ (m.put [(F.encCfgGray 3, 1)]).on (F.encCfgGray 3) = true) ∧ m.ssiDrives 3 ≠ some true ∧
    (m.withDw fun d => { d with island := setField [] F.encSupplyOn 1#32 }).isl F.encSupplyOn ≠ 0 ∧ m.isl F.encSupplyOn = 0 := by decide +kernel

def onAio : M := alone.put [(F.aioCfgFunc 7, 3), (F.aioCfgVerify 7, 2), (F.aioCfgFunc 0, 1)]
theorem witness_AnalogChannels : (15 : Nat) < 16 ∧ (1 : Nat) < 2 ∧ meas0.w < 2 ∧ (onAio.awOn 0 = true ∧ 7 / 8 = meas0.w ∧ onAio.aioFunc 7 = 3 ∧ (onAio.cfg (F.aioCfgFunc 7)).toNat = 3 ∧
      (onAio.cfg (F.aioCfgFunc 0)).toNat = 1 ∧ (onAio.cfg (F.aioCfgFunc 6)).toNat = 0 ∧ onAio.nat (F.aioCfgVerify 7) = 2) ∧ ({ onAio with aon := { onAio.aon with enables := false } } : M).aioDriving 7 = false ∧ shadow.senses = false ∧
    (let m : M := { onAio with aw := [(0, { Aw.start with resumed := true, stagesOff := false })], aio := [(7, { AioChan.start with code := 2500 })] };
      m.holds = true ∧ m.aioDriving 7 = true ∧ m.verifies 7 = true ∧ m.aioTarget 7 = some (false, 2500) ∧ m.aioFlag 7 (F.aioStatOpenLoop 7) = false) ∧
    onAio.verifies 15 = false ∧ onAio.aioTarget 15 = none ∧ resting.awOn 0 = false ∧ onAio.senses = true ∧
    (let m : M := { onAio with aio := [(0, { AioChan.start with queued := true, supplyOn := true })] };
      m.aioFunc 0 = 1 ∧ (m.aioGet 0).queued = true ∧ (m.aioGet 0).supplyOn = true ∧ m.drives = true ∧ m.awFlag 0 (F.awStatResLow 0) = false) ∧
    (let m : M := { onAio with aw := [(0, { Aw.start with island := setField [] (F.aioStatSupplyShort 0) 1#32 })] };
      m.aioFlag 0 (F.aioStatSupplyShort 0) = true ∧ (m.aioGet 0).supplyOn = false) := by decide +kernel

theorem witness_AnalogLink : (1 : Nat) < 2 ∧ 15 / 8 = 1 ∧ aw0.w = 1 ∧ alone.awOn 1 = true ∧ resting.awOn 1 = false ∧ aw0.good = true ∧ (alone.awGet 1).alive ≠ some aw0.alive ∧
    (alone.domainOn (7 + 1) = true ∧ (alone.awGet 1).coreDead = false) ∧ alone.dwOn = true ∧ alone.awFlag 1 (F.awStatResLow 1) = false ∧ alone.awFlag 1 (F.awStatRefFault 1) = false ∧
    (let m : M := { alone with aw := [(1, { Aw.start with inReset := true, coreDead := true, alive := some 1, island := setField (setField [] (F.awStatResLow 1) 1#32) (F.awStatRefFault 1) 1#32 })] };
      (m.awGet 1).inReset = true ∧ (m.awGet 1).coreDead = true ∧ (m.awGet 1).alive = some aw0.alive ∧ m.awFlag 1 (F.awStatResLow 1) = true ∧ m.awFlag 1 (F.awStatRefFault 1) = true) ∧
    alone.nat F.hltCfgAutoRestart / 2 ^ 4 % 2 = 0 ∧ (alone.on F.idStrapsAg1Alm = alone.aon.alm.contains 1 ∧ (alone.put [(F.idStrapsAg1Alm, 1)]).on F.idStrapsAg1Alm ≠ alone.aon.alm.contains 1) ∧
    (let x : HartTx := { command := 3, data := [], attempts := 0, sent := true, task := 0, pass := none }; let m (d : Bool) : M := onHart 2 { HartChan.start with tx := some { x with done := d } };
      ((m true).hartGet 15).tx = some { x with done := true } ∧ ((m false).hartGet 15).tx = some { x with done := false } ∧ (alone.hartGet 15).tx = none) := by decide +kernel

/-- Lanes 0 and 1, a rope that was never up, one that is lost, and a pair too big for one lane. -/
theorem witness_RopeLanes : let ask := (apart.put [(F.redStatusLanes, 1), (F.redCfgAutoJoin, 1)]).withRed fun r => { r with ask := true }
    (1 : Nat) < 2 ∧ resting.mode = 0 ∧ (ask.mode ≠ 0 ∧ ask.domainOn 5 = true ∧ ask.nat F.redStatusLanes = 3 - 2 ∧ ask.red.everUp = false ∧ ask.red.ask = true ∧
      ask.on F.redCfgAutoJoin = true ∧ ask.role = 4 ∧ ask.holds = false ∧ ask.red.noJoin = false ∧ ask.red.refusal = 0) ∧
    (let m := lead.put [(F.stkManifestBound, 4097)]; m.role = 1 ∧ 4096 < m.nat F.stkManifestBound ∧ m.nat F.redStatusLanes = 3 ∧ m.red.lost = false ∧ m.hlt.refused = []) ∧
    lead.nat F.stkManifestBound ≤ 4096 ∧ (apart.put [(F.redStatusLanes, 0)]).nat F.redStatusLanes = 0 ∧ (lead.withRed fun r => { r with lost := true, everUp := true }).red.lost = true ∧
    lead.nat F.redStatusRope = 1 ∧ (shadow.role = 2 ∧ shadow.red.tickMiss < 2) ∧ (1000 < (1001 : Int)) ∧ 2 ≤ (shadow.withRed fun r => { r with tickMiss := 2 }).red.tickMiss ∧
    (let m := apart.put [(F.redStatusRope, 0), (F.idStrapsPartnerPresent, 1), (F.hltCfgAutoRestart, 2)];
      m.nat F.redStatusRope ≠ 1 ∧ m.on F.idStrapsPartnerPresent = true ∧ 2 ≤ m.mode ∧ m.nat F.hltCfgAutoRestart / 2 % 2 = 1 ∧ m.recentRestarts 2 < 3 ∧
      m.restarting 2 = false ∧ 2 ∉ m.ctl.leftOff ∧ m.aon.saving = 0) ∧
    (let m := (ask.put [(F.redCfgAutoJoin, 0)]); let n : M := { m with aon := { m.aon with joinAgain := true } }; m.aon.joinAgain = false ∧ n.aon.joinAgain = true) := by decide +kernel

/-- A holder that answers, a module that asks, a conflict of the bucket, the bucket step, and the parts of a TRANSFER. -/
theorem witness_Joins :
    let holder := (module 2 4 [(F.redStatusHolder, 1), (F.redStatusRope, 1), (F.redCfgJoinEn, 1)])
    let asks := apart.withRed fun r => { r with joinAsked := true }
    resting.mode = 0 ∧ (apart.mode ≠ 0 ∧ apart.domainOn 5 = true ∧ apart.ctl.step8 = false ∧ status0.holds = false ∧ status0.joinReq = false ∧ apart.red.joinAsked = false) ∧
    (holder.red.answered = false ∧ holder.holds = true ∧ holder.mode ≠ 4 ∧ holder.role = 4 ∧ holder.red.joinAsked = false ∧ holder.red.joining = false ∧
      holder.on F.redCfgJoinEn = true ∧ status0.slotB ≠ holder.on F.idStrapsSlot ∧ status0.station = holder.nat F.idStrapsStationAddr) ∧
    (asks.red.joinAsked = true ∧ asks.hlt.refused = []) ∧ (alone.holds = true ∧ alone.on F.redStatusPartnerHolds = false ∧ alone.on F.idStrapsSlot = false ∧ 2 ≤ alone.mode ∧ alone.mode < 5) ∧
    ((priming1.put [(F.redStatusRope, 1)]).ctl.step8 = true ∧ (priming1.put [(F.redStatusRope, 1)]).red.strapsSeen = false ∧ (priming1.put [(F.redStatusRope, 1)]).ropeUp = true ∧
      (priming1.put [(F.redStatusRope, 1)]).holds = false) ∧ (joiner.role = 3 ∧ joiner.red.gap = false ∧ (65535 : Nat) < 65536) ∧ apart.role ≠ 3 ∧
    ((joiner.withRed fun r => { r with joining := true }).red.joining = true ∧ joiner.hlt.refused = []) ∧
    (let m := (apart.put [(F.redCfgAutoJoin, 1)]).withRed fun r => { r with refusal := 2 };
      m.role = 4 ∧ m.red.refusal = 2 ∧ m.on F.redCfgAutoJoin = true ∧ m.holds = false ∧ m.nat F.redStatusRope = 1 ∧ m.red.lost = false ∧ m.domainOn 5 = true ∧
      m.red.joinAsked = false ∧ 2 ≤ m.mode) := by decide +kernel

/-- A lead module whose joiner acknowledges, enters its stroke and leaves; STATUS frames of each kind; fields of the parts that TRANSFER brings. -/
theorem witness_Joins_lead :
    (let m := (lead.put [(F.redStatusPartnerRole, 3)]).withRed fun r => { r with joining := true, catchup := some lead.stroke, lastAck := some 5, flight := [(5, 7), (6, 8)] };
      (m.role = 1 ∧ m.red.joining = true ∧ m.hlt.refused = [] ∧ m.nat F.redStatusPartnerRole = 3 ∧ m.red.lastAck = some 5 ∧ m.red.catchup = some m.stroke) ∧
      (m.red.flight.filter fun e => !seqUpTo e.1 5) = [(6, 8)] ∧ (m.red.flight.filter fun e => !seqUpTo e.1 4294967295) = [(5, 7), (6, 8)]) ∧
    (let x : RopeStatus := { status0 with role := 3 }; x.role = 3 ∧ x.joinReq = false ∧ x.holds = false ∧ { x with role := 2 }.role = 2 ∧ { x with role := 4 }.role ≠ 2 ∧
      { x with joinReq := true }.joinReq = true ∧ { x with joinAccept := true }.joinAccept = true ∧ { x with joinRefuse := true, refusal := 6 }.refusal ≠ 5) ∧
    (sharedKey F.dioOut = true ∧ reportField F.dioOut = false) ∧ (sharedKey F.modStatusMode = false ∧ reportField F.modStatusMode = false) ∧
    (Transfer.page 66559 []).number = some 66559 := by decide +kernel

theorem witness_Bucket :
    let armed := (apart.put [(F.redStatusArmed, 1)]).withRed fun r => { r with guarding := true }
    let b := priming1.put [(F.idStrapsSlot, 1)]
    (alone.holds = true ∧ resting.mode = 0) ∧ (priming1.mode ≠ 0 ∧ priming1.holds = false ∧ priming1.on F.idStrapsBucketLine = false ∧ priming1.ctl.step8 = true ∧ priming1.red.absent = false ∧
      priming1.on F.idStrapsSlot = false) ∧ (b.on F.idStrapsSlot = true ∧ b.ropeUp = false ∧ b.on F.pwrCtrlRopeEn = true) ∧ (b.put [(F.pwrCtrlRopeEn, 0)]).on F.pwrCtrlRopeEn = false ∧
    ((b.put [(F.redStatusRope, 1)]).withRed fun r => { r with partner := some { status0 with priming := 2 } }).ropeUp = true ∧
    (apart.mode ≠ 0 ∧ apart.holds = false ∧ apart.on F.idStrapsBucketLine = false ∧ apart.ctl.step8 = false ∧ apart.mode ≠ 1 ∧ apart.on F.redStatusArmed = false ∧ apart.mode ≠ 5 ∧
      apart.ctl.primed = true ∧ apart.red.wantBucket = 0) ∧ (apart.withRed fun r => { r with wantBucket := 8 }).red.wantBucket = 8 ∧
    ((apart.withCtl fun c => { c with nextMode := some (1#64, 5, 1) }).ctl.nextMode.any (·.2.1 == 5) = true ∧ apart.ctl.nextMode.any (·.2.1 == 5) = false) ∧
    (armed.on F.redStatusArmed = true ∧ armed.red.guarding = true ∧ armed.red.armedTill = false ∧ armed.hlt.refused = []) ∧
    (let m := (shadow.put [(F.idStrapsBucketLine, 1)]).withRed fun r => { r with taker := true, release := true };
      m.red.taker = true ∧ m.red.release = true ∧ m.role = 2 ∧ m.holds = false ∧ m.on F.idStrapsBucketLine = true) ∧
    (let m := (module 5 0 []).withRed fun r => { r with absent := true }; m.mode = 5 ∧ m.red.absent = true ∧ m.drives = false) := by decide +kernel

/-- The last task, encoder, port and alias word; a plain register and one that starts an action. -/
theorem witness_TaskStores : let m := alone.withRun fun r => { r with executed := true }
    (m.tasksRan = true ∧ (15 : Nat) < 16) ∧ apart.tasksRan = false ∧ (3 : Nat) < 4 ∧ (1 : Nat) < 2 ∧ inOpenSram 0x00FEFFFC = true ∧ inOpenSram 0x00FF0000 = false ∧
    (inSys 0x40010080 = true ∧ startsAction 0x40010080 = false) ∧ inLoop 0x5003FFFC = true ∧ startsAction 0x40010094 = true := by decide +kernel

/-- Loop 1023 with a run under way and with candidate values, and an earlier command to it. -/
theorem witness_LoopCommands : let l (n : Nat) (t : Tab Word) := readReg t (loopAddr 1023 n)
    let f (l : List (Nat × Nat)) : Tab Word := ([(F.loopPeriodKL 1023, 1)] ++ l).foldl (fun (t : Tab Word) (e : Nat × Nat) => setField t e.1 (word e.2)) []
    running.act.mode = 3 ∧ Act.start.effects = [] ∧ (∃ k v, Effect.loopCmd 1023 k v ∈ ({ Act.start with effects := [.loopCmd 1023 0 0#32] } : Act).effects) ∧
    (l 0xA0 (f [(F.loopStatusInjecting 1023, 1)])).getLsbD 17 = true ∧ (l 0xEC (f [(F.loopTuneStatusState 1023, 3)])).bits 2 0 = 3 ∧ (l 0xA0 (f [])).bits 1 0 = 0 ∧
    (l 0xA0 (f [(F.loopStatusMode 1023, 1)])).bits 1 0 = 1 := by
  refine ⟨by decide +kernel, rfl, ⟨0, 0#32, by decide⟩, by decide +kernel, by decide +kernel, by decide +kernel, by decide +kernel⟩

/-- A session that asks, with each role, and one with 8 unanswered requests. -/
def client (role : Nat) : Session := { id := 1, usb := true, auth := true, role := role, principal := 0#32, cert := [], anchor := [], order := [], ready := [] }
def hosted (m : M) (x : Session) : M := m.withNet fun n => { n with sessions := [x] }
theorem witness_HostJudgement : let x := client 3; let m := hosted apart x
    (m.session req0 = some x ∧ x.order = [] ∧ x.ready = [] ∧ m.mode ≠ 0 ∧ x.closing = false ∧ headerOk req0 = true ∧ req0.place = 0) ∧
    (headerOk { req0 with length := 65552, flags := 1 } = true ∧ headerOk { req0 with length := 65553 } = false ∧ headerOk { req0 with length := 15 } = false ∧
      headerOk { req0 with flags := 2 } = false ∧ headerOk { req0 with spare := 1 } = false) ∧ ({ x with closing := true } : Session).closing = true ∧
    ({ x with order := [4] } : Session).order = [4] ∧ (m.store.imageFrom = none ∧ m.store.fwFrom = none) ∧ apart.session req0 = none ∧ (x.auth = true ∧ 3 ≤ x.role) ∧ (client 0).role < 1 ∧
    8 ≤ ({ x with order := List.replicate 8 0 } : Session).order.length ∧ ({ x with auth := false } : Session).auth = false ∧ m.mode ∉ [3, 4] ∧ m.mode ∈ [2, 3, 4, 5] ∧ m.role ∉ [0] := by
  decide +kernel

theorem witness_HostSessions : let m := alone.put [(F.engStatUsbAttached, 1)]
    let claimed (m : M) : M := { m with store := { m.store with clients := [(0, [1#8])] } }
    (m.mode ≠ 0 ∧ m.domainOn 4 = true ∧ m.on F.engStatUsbAttached = true ∧ (m.net.sessions.any fun x => x.id == shake0.id) = false) ∧ resting.mode = 0 ∧
    (m.on F.secStatusSecureFault = false ∧ shake0.usb = true ∧ placesUsed m.store.clients = 0) ∧ placesUsed (claimed m).store.clients ≠ 0 ∧
    (2 ≤ m.mode ∧ m.role ∈ [0, 1, 4] ∧ m.ctl.primed = true) ∧ priming1.mode < 2 ∧ m.net.forwarded = [] ∧
    (let r : Req := { req0 with place := 7 }; let q : HostReq := { req := some r, principal := 0#32, role := 2, cmd := .safe, status := none };
      let t := (hosted shadow { client 2 with order := [7] }).withNet fun n => { n with forwarded := [q] }
      t.net.forwarded = [] ++ q :: [] ∧ q.cmd.code = 0x22 ∧ q.req = some r ∧ r.place ≠ 0 ∧
        (t.session r).map (·.order) = some [r.place] ∧ (t.session r).map (·.ready) = some [] ∧ (t.session r).map (·.closing) = some false) ∧
    (shake0.suite ≠ .other ∧ shake0.scheme ≠ .other ∧ shake0.chain ≤ 3 ∧ ({ shake0 with chain := 4 } : Handshake).chain > 3) := by decide +kernel

/-- The words that latch and read the high half of the count, and a restart of each domain. -/
theorem witness_HostActions : let m := hosted apart (client 2); let h := hosted (module 4 0 [(F.idStrapsDbgEn, 1)]) (client 2)
    (m.session req0 = some (client 2) ∧ m.mode ≤ 5 ∧ m.role ≤ 4 ∧ 2 ≤ m.mode ∧ m.role ∈ [0, 1, 4] ∧ m.nat F.wallQualQuality ≠ 4) ∧
    (0x40002004 ≤ 0x40002004 ∧ 0x40002004 < 0x40002004 + 4 * 1) ∧ ¬(0x40002004 ≤ 0x40002000) ∧ (0x40002008 < 0x40002004 + 4 * 2) ∧
    (h.mode = 4 ∧ h.role = 0 ∧ h.on F.idStrapsDbgEn = true) ∧ (m.role = 4 ∧ m.holds = false ∧ m.ropeUp = true ∧ m.mode = 2) ∧
    ((List.range 6).all fun n => n == 0 || (!m.restarting n && m.domainOn (n + 3))) = true ∧ m.aon.saving = 0 ∧ m.hlt.refused = [] ∧ m.repairable m.role 2 = true ∧ (m.put [(F.pwrCtrlDwRepairable, 1)]).repairable m.role 3 = true ∧ m.repairable m.role 5 = false ∧
    (let t := m.put [(F.pwrDomainRestarting, 0x1FF)]; t.restarting 5 = true) ∧
    (let found (e : EccFound) := eccWithin e (((List.range 2).map fun i => 0x00FFFFFC + 4 * i).filter inSram); (found {}).bad = none ∧ (found {}).fixed = [] ∧
      (found { fixed := [0x00FFFFF8, 0x00FFFFF7] }).fixed = [0x00FFFFF8] ∧ (found { bad := some 0x00FFFFFF }).bad = some 0x00FFFFFF ∧ (found { bad := some 0x00FFFFF7 }).bad = none) ∧
    ((hosted alone (client 0)).session req0 = some (client 0) ∧ alone.role = 0 ∧ alone.on F.redStatusArmed = false ∧ 9 ∈ (alone.withCtl fun c => { c with leftOff := [9] }).ctl.leftOff) := by decide +kernel

/-- A module with its own snapshots, one that primes, a shadow, a joiner, and one that has not primed. -/
theorem witness_HostCommits : let x := client 2
    ((hosted alone x).session req0 = some x ∧ alone.mode ≠ 1 ∧ alone.role ≠ 2 ∧ alone.role ≠ 3 ∧ alone.ctl.primed = true) ∧ (hosted priming1 x).mode = 1 ∧
    (shadow.mode ≠ 1 ∧ shadow.role = 2) ∧ (joiner.mode ≠ 1 ∧ joiner.role = 3 ∧ 2 ≤ joiner.mode) ∧ (let m := apart.withCtl fun c => { c with primed := false };
      m.mode ≠ 1 ∧ m.role ≠ 2 ∧ m.ctl.primed = false ∧ m.cutStatus .ack ≠ 0) ∧ joiner.cutStatus .hold ≠ 0 ∧
    (module 5 3 []).cutStatus .ack = 0 ∧ (alone.mode ≠ 5 ∧ safe.mode = 5) := by decide +kernel

/-- A download that begins and one that goes on, a slot to check, to activate and to refuse. -/
theorem witness_ImagesAndFirmware :
    let m := hosted apart (client 2)
    let loading := m.put [(F.idImgSlotState 0, 1), (F.secFwSlotState 1, 1)]
    (m.session req0 = some (client 2) ∧ 2 ≤ m.mode ∧ m.mode ≤ 5 ∧ m.role ∈ [0, 4] ∧ m.store.change = none) ∧
    (loading.nat (F.idImgSlotState 0) = 1 ∧ loading.store.fromRope = false ∧ (loading.img 0).received = 0) ∧ (loading.on (F.idImgSlotActive 0) = false ∧ loading.on (F.secFwSlotActive 0) = true) ∧
    (let t := m.put [(F.idImgSlotState 1, 2), (F.secFwSlotState 1, 2)]; 2 ≤ t.mode ∧ (1 : Nat) ≤ 1 ∧ t.nat (F.idImgSlotState 1) = 2 ∧ t.nat (F.secFwSlotState 1) = 2 ∧
      (t.finding 1 { ImageBody.empty with malformed := true }).isSome = true) ∧ m.nat (F.idImgSlotState (min 1 1)) ≠ 3 ∧
    (m.put [(F.idImgSlotState 1, 3)]).nat (F.idImgSlotState (min 1 9)) = 3 ∧ (m.put [(F.secFwSlotState 1, 3)]).nat (F.secFwSlotState (min 1 9)) = 3 ∧ (2 ≤ shadow.mode ∧ shadow.ropeUp = true ∧ shadow.role = 2) := by
  decide +kernel

/-- Sets with a free place and without one, a certificate listed, and a module that may be claimed. -/
theorem witness_TrustMaterial :
    let m := hosted apart (client 3)
    let full : M := { m with store := { m.store with images := (List.range 8).map fun i => (i, [1#8]), deny := List.replicate 16 [2#8] } }
    (m.session req0 = some (client 3) ∧ m.mode ≤ 5 ∧ m.role ≤ 4 ∧ 2 ≤ m.mode) ∧ ((0 : Nat) < 8 ∧ m.store.images.get [] 0 = []) ∧ ((List.range 8).all fun i => full.store.images.get [] i != []) = true ∧
    full.store.images.get [] (min 7 255) ≠ [] ∧ (16 ≤ full.store.deny.length ∧ [2#8] ∈ full.store.deny) ∧ (m.store.deny.length < 16 ∧ [2#8] ∉ m.store.deny) ∧
    ((client 3).usb = true ∧ placesUsed m.store.clients = 0 ∧ m.on F.idStrapsDbgEn = false) ∧ (m.mode = 2 ∧ m.role ≠ 0 ∧ m.holds = false) ∧ (m.put [(F.idStrapsDbgEn, 1)]).on F.idStrapsDbgEn = true ∧
    (2 ≤ shadow.mode ∧ shadow.ropeUp = true ∧ shadow.role = 2 ∧ placesUsed shadow.store.clients = 0 ∧ placesUsed shadow.store.images = 0) := by decide +kernel

/-- A log of one record, read, read as bad, kept back and cleared. -/
theorem witness_LogReadAndClear :
    let y : LogRec := { seq := 5#32, event := ev 0x0001 0x1002, first := 0#64, last := 0#64, wall := 0#64, qual := 0, kind := 4, repeats := 0, bad := false }
    let m : M := { hosted apart (client 3) with log := { apart.log with records := [y] } }
    (m.session req0 = some (client 3) ∧ m.mode ≤ 5 ∧ m.role ≤ 4 ∧ 2 ≤ m.mode) ∧ (0 : Nat) < m.log.records.length ∧ 0 ∉ m.log.reported ∧
    (1 ≤ (y.seq - 4#32).toNat ∧ (y.seq - 4#32).toNat < 2147483648) ∧ ¬(1 ≤ (y.seq - 5#32).toNat) := by decide +kernel

end Sys2Proof.Tests
end

section
/-! PROOFS. Data memory is determined by what it reads as, and a word is stored byte by byte (R4, R117). -/

namespace Sys2Proof

/-- Below every listed key, a table reads as the default. -/
theorem Tab.get_eq_default {α : Type} (t : Tab α) (d : α) {b k : Nat} (h : t.rising b = true) (hk : k < b) : t.get d k = d := by
  induction t generalizing b with
  | nil => rfl
  | cons e r ih =>
    simp only [Tab.rising, Bool.and_eq_true, decide_eq_true_eq] at h
    obtain ⟨hb, hr⟩ := h
    rw [Tab.get, if_neg (by omega)]
    exact ih hr (by omega)

/-- Two tables with rising keys and no entry at its default that read alike are equal. -/
theorem Tab.eq_of_get {α : Type} (t u : Tab α) (d : α) {b c : Nat} (ht : t.rising b = true) (hu : u.rising c = true)
    (nt : ∀ e ∈ t, e.2 ≠ d) (nu : ∀ e ∈ u, e.2 ≠ d) (h : ∀ k, t.get d k = u.get d k) : t = u := by
  induction t generalizing u b c with
  | nil =>
    cases u with
    | nil => rfl
    | cons x v =>
      have hx := h x.1
      rw [Tab.get, Tab.get, if_pos rfl] at hx
      exact absurd hx.symm (nu x (List.mem_cons_self ..))
  | cons e r ih =>
    cases u with
    | nil =>
      have he := h e.1
      rw [Tab.get, Tab.get, if_pos rfl] at he
      exact absurd he (nt e (List.mem_cons_self ..))
    | cons x v =>
      simp only [Tab.rising, Bool.and_eq_true, decide_eq_true_eq] at ht hu
      obtain ⟨-, hr⟩ := ht
      obtain ⟨-, hv⟩ := hu
      rcases Nat.lt_trichotomy e.1 x.1 with hlt | heq | hgt
      · have he := h e.1
        rw [Tab.get, if_pos rfl, Tab.get, if_neg (by omega), Tab.get_eq_default v d hv (by omega)] at he
        exact absurd he (nt e (List.mem_cons_self ..))
      · have he := h e.1
        rw [Tab.get, if_pos rfl, Tab.get, if_pos heq.symm] at he
        have hrv : r = v := ih v hr hv (fun y hy => nt y (List.mem_cons_of_mem _ hy)) (fun y hy => nu y (List.mem_cons_of_mem _ hy)) fun k => by
          by_cases hk : e.1 = k
          · rw [Tab.get_eq_default r d hr (by omega), Tab.get_eq_default v d hv (by omega)]
          · have hh := h k
            rwa [Tab.get, if_neg hk, Tab.get, if_neg (by omega)] at hh
        rw [hrv, Prod.ext heq he]
      · have hx := h x.1
        rw [Tab.get, if_neg (by omega), Tab.get_eq_default r d hr (by omega), Tab.get, if_pos rfl] at hx
        exact absurd hx.symm (nu x (List.mem_cons_self ..))

end Sys2Proof

namespace Sys2Proof.Machine

/-- Memories in canonical form are determined by what they read as. -/
theorem Memory.ext {m n : List Host.Cell} (hm : Memory.wf m = true) (hn : Memory.wf n = true) (h : ∀ a, memByte m a = memByte n a) : m = n := by
  simp only [Memory.wf, Tab.wf, Bool.and_eq_true, List.all_eq_true, decide_eq_true_eq] at hm hn
  exact Tab.eq_of_get m n 0#8 hm.1 hn.1 hm.2 hn.2 h

/-- Each byte of a word read back by itself (R4). -/
theorem memByte_memPutWord_same (m : List Host.Cell) (a : Nat) (w : Word) {i : Nat} (h : i < 4) :
    memByte (memPutWord m a w) (a + i) = w.extractLsb' (8 * i) 8 := by
  unfold memPutWord
  obtain rfl | rfl | rfl | rfl : i = 0 ∨ i = 1 ∨ i = 2 ∨ i = 3 := by omega
  · rw [memByte_memPut_ne _ _ (by omega), memByte_memPut_ne _ _ (by omega), memByte_memPut_ne _ _ (by omega)]
    exact memByte_memPut_same ..
  · rw [memByte_memPut_ne _ _ (by omega), memByte_memPut_ne _ _ (by omega), memByte_memPut_same]
  · rw [memByte_memPut_ne _ _ (by omega), memByte_memPut_same]
  · rw [memByte_memPut_same]

/-- Settles O22. -/
theorem memoryCanonical : Obligations.MemoryCanonical := by
  refine ⟨fun m n hm hn h => Memory.ext hm hn h, fun m a b w h => ⟨Memory.wf_put m a b h, Memory.wf_putWord m a w h⟩, fun m a w => ?_, rfl⟩
  exact ⟨memWord_memPutWord_same m a w, fun i hi => memByte_memPutWord_same m a w hi, fun c hc => memByte_memPutWord_ne m w hc⟩

end Sys2Proof.Machine
end

section
/-! PROOFS. The ways in which a command acts: each completes and leaves the queue alone (R12, R30, R50). -/

namespace Sys2Proof.Machine

/-- How a command acts: on the module, as a Fytric instruction that leaves the queue alone, or by powering AON up. -/
inductive Acts (c : Instr) (s : State) : Prop
  | module (f : M → M) (h : exec c s = runM f s)
  | fytric (w : Word) (l : List Word) (t : State) (words : assemble c = w :: l) (h : exec c s = .next t) (queue : t.pending = s.pending)
  | powerUp (now : Nat) (h : c = .aonPowerUp now)

/-- An instruction in R or in I form has code words (R142, R143). -/
theorem Acts.arith {c : Instr} {s t : State} {major fn : Nat} {d a : RegNo} {b : Src} (hw : assemble c = arithWords major fn d a b)
    (h : exec c s = .next t) (hq : t.pending = s.pending) : Acts c s := by
  cases b with
  | reg r => exact .fytric _ _ t hw h hq
  | lit w => exact .fytric _ _ t hw h hq

/-- A loop command is an instruction of a task or a command of the host (R217). -/
theorem Acts.loop {c : Instr} {s : State} {who : LoopBy} {cmd block : Nat} {operand : Word} (hw : assemble c = loopWords who cmd block)
    (h : exec c s = loopBy who block cmd operand s) : Acts c s := by
  cases who with
  | task d b => exact .fytric _ _ _ hw h rfl
  | host r => exact .module _ h

/-- LD completes whatever it finds in its storage words (R168, R169). -/
theorem Acts.ld (d a : RegNo) (x : Access) (s : State) : Acts (.ld d a x) s := by
  by_cases h : (eccWithin x.ecc (loadAddrs s.m.fy.act a x)).bad.isNone ∧ (eccWithin x.ecc (loadAddrs s.m.fy.act a x)).fixed.isEmpty
  · exact .fytric _ _ _ rfl (if_pos h) rfl
  · exact .fytric _ _ _ rfl (if_neg h) rfl

/-- Every command acts in one of these ways. -/
theorem exec_acts (c : Instr) (s : State) : Acts c s := by
  cases c with
  | aonPowerUp now => exact .powerUp now rfl
  | ld d a x => exact .ld d a x s
  | tuneStart | tuneAccept | tuneDiscard | tuneAbort | injectStart | injectStop => exact .loop rfl rfl
  | add | sub | addu | subu | and | or | xor | andn | shl | shr | sar | min | max | minu | maxu | mul | mulu | div | divu | rem | remu | cmov
  | eq | ne | lt | le | ltu | leu | fadd | fsub | fmul | fdiv | fmin | fmax | feq | flt | fle => exact .arith rfl rfl rfl
  | aonPowerDown | standpipeReady | feedGood | feedLow | feedLost | feedOver | feedOverEnd | dipBegin | dipRidden | powerLoss | saveDone | resetAssert
  | resetRelease | presentMated | presentParted | partnerAbsent | partnerPresent | safeInputAsserted | dbgEnOpen | ppsInEdge | ppsOutPulse
  | almStrapChange | priming | primingTimeout | primingRetry | strokeTick | digestExchange | digestCompare | divergenceSelftest | selftestTimeout
  | paceMeasurement | lockSourceLost | lockSourceReturn | timebaseFault | engineRail | loopRail | memRail | scrubRead | checkpointDone | verifierDone
  | fwCheckDone | domainReturn | engineSelftestPass | selftestOverdue | proofMarkSet | proofMarkExpired | healthyClose | netFault | secureFault
  | recordWrite | dwLinkFrame | awLinkFrame | islandWatchdogExpired | dwLinkLost | awLinkLost | wireBreak | thermalShutdown | thermalRetry
  | groupOvercurrent | externalDrive | switchFault | dgSupplyLow | dgSupplyLost | groupRestoreTimer | ssiReadDone | encLineLoss | encSupplyOverload
  | encSupplyRetry | supplySwitchOn | supplyShort | complianceShort | openLoop | readbackFault | awReservoirLow | reservoirRecovered | awIslandReset
  | referenceCheck | hartResponse | hartRt1Timeout | hartIdentifyTimer | hartBurstFrame | canFrameReceived | canFrameSent | canBusError | canRecovered
  | protocolException | remoteFrame | txdDominantTimeout | wazarIn | wazarIdentRsp | wazarOutReceived | identReqTimer | rioRingOpen | conflictEnd
  | arpRequest | icmpEcho | modbusConnect | modbusIdleTimeout | readCoils | readDiscreteInputs | readHoldingRegisters | readInputRegisters
  | writeSingleCoil | writeSingleRegister | writeMultipleCoils | writeMultipleRegisters | readWriteMultipleRegisters | ptpSync | ptpFollowUp
  | ptpDelayResp | ptpAnnounce | delayReqTimer | ptpSyncTimeout | sessionOpen | sessionIdleTimeout | authLockoutEnd | usbAttach | usbDetach
  | ropeLaneUp | ropeLaneLost | ropeLost | ropeRestored | tickMarker | ropeStatus | ropeManifest | manifestLate | rxNotice | ropeDigest | transfer
  | catchup | ropeImage | ropeCommand | handoverReleased | selftestPass | selftestFail | bucketLineChange | bucketTake | bucketStuck | leaseLapsed
  | armedWindowEnd | joinTimeout | joinRetry | pwrRestart | requestStop | requestSafe | ckptNow | dioUnlatch | groupAck | encLoad | canTxAbort
  | recover | dioOutSet | dioOutClr | bitSetAlias | bitClearAlias | clearStrapChanged | clearCanFlags | stkCountLoRead | registerWrite | regRead
  | varRead | varWrite | dipperRead | modeRun | modeStop | modeSafe | safeAck | modeHold | holdStep | breakSet | breakClear | forceSet | forceClear
  | restart | imageDownload | activateAtRestart | activateOnline | fwDownload | fwActivate | domainRestart | hartPass | clockSet | detach | join
  | switchover | takeBucket | logRead | logClear | claim | unclaim | anchorAdd | anchorRemove | denyAdd | denyRemove | anchorRead | deviceAttest
  | dioSample | analogSample | quadratureTransition | wireBreakCleared | externalDriveCleared | retryCountReset | dgSupplyGood | encLineValid
  | supplyRetry | supplyShortCleared | complianceShortCleared | openLoopCleared | readbackFaultCleared | awIslandRestart | safeInputReleased
  | dbgEnFitted | ethernetLinkUp | ethernetLinkDown | unknownFrame | p3DroppedFrame | modbusUnsupportedFunction | malformedHeader | unknownCommand
  | ropeCrcError | becomesSafeDriver => exact .module _ rfl
  | _ => exact .fytric _ _ _ rfl rfl rfl

theorem Acts.runs {c : Instr} {s : State} (h : Acts c s) : Runs c s fun _ => True := by
  cases h with
  | module f h => exact ⟨_, h, rfl, trivial⟩
  | fytric w l t hw h hq => exact ⟨t, h, hq, trivial⟩
  | powerUp now h => subst h; exact ⟨_, rfl, rfl, trivial⟩

/-- A command that is no instruction and does not power AON up leaves a module without power as it is (R50). -/
theorem Acts.unpowered {c : Instr} {s : State} (h : Acts c s) (hw : assemble c = []) (hu : ∀ now, c ≠ .aonPowerUp now)
    (hp : s.m.aon.powered = false) : exec c s = .next s := by
  cases h with
  | module f h => rw [h, runM, M.perform_off _ _ hp]
  | fytric w l t hw' h hq => exact nomatch hw'.symm.trans hw
  | powerUp now h => exact absurd h (hu now)

/-- Settles O18: each command has one of the ways to act of `Acts`. -/
theorem commandsComplete : Obligations.CommandsComplete :=
  ⟨fun c s => (exec_acts c s).runs, fun c s hw hu hp => (exec_acts c s).unpowered hw hu hp⟩

end Sys2Proof.Machine
end

section
/-! PROOFS. A host read of one word inside STK_COUNT_HI, but not at its address (R9, R86). -/

namespace Sys2Proof.Machine

/-- A module whose host has just read STK_COUNT_LO, with the high word 1 kept for the next read of STK_COUNT_HI (R86). -/
def M.latched : M := { M.factory with run := { Run.start with countHi := some 1#32 } }

/-- A read of one word from an address inside STK_COUNT_HI that is not its own takes the word kept (R86). -/
theorem M.readRegs_latched : (M.latched.readRegs 0x40002005 1).2 = [1#32] := by decide +kernel

/-- Refutes O26: one word read from 0x40002005, which names no register, covers STK_COUNT_HI, and reads as the high word kept by an earlier read of
STK_COUNT_LO, not as zero. -/
theorem not_reservedBits : ¬ Obligations.ReservedBits := by
  intro h
  obtain ⟨-, -, -, reads⟩ := h
  obtain ⟨hz, -, -⟩ := reads M.latched 0x40002005 0#32 (.inl rfl) (by decide +kernel)
  rw [M.readRegs_latched] at hz
  exact absurd hz (by decide)

end Sys2Proof.Machine
end

section
/-! PROOFS. The effects that an instruction leaves, and a second loop command of an activation to one block (R148, R154). -/

namespace Sys2Proof.Machine

theorem Act.setReg_effects (a : Act) (d : RegNo) (w : Word) : (a.setReg d w).effects = a.effects := by rw [Act.setReg_eq]

/-- The ends of LOOP bodies record no effect (R148). -/
theorem settleLoops_effects (a : Act) (l : List LoopFrame) : (settleLoops a l).effects = a.effects := by
  induction l generalizing a with
  | nil => rfl
  | cons f r ih =>
    rw [settleLoops]
    split
    · split
      · exact Act.setReg_effects ..
      · exact (ih _).trans (Act.setReg_effects ..)
    · rfl

/-- An instruction that leaves `p` leaves the effects of `p`. -/
theorem Leaves.effects {c : Instr} {s t : State} {p : Act} {sl : Slots} (h : Leaves c s p sl) (ht : exec c s = .next t) : t.m.fy.act.effects = p.effects := by
  rw [Leaves, FyNext, ht] at h
  injection h with h
  rw [h]
  exact settleLoops_effects ..

/-- A task in RUN that has given AUTO to block 0, which no image declares and which therefore holds no candidate values. -/
def State.afterAuto : State :=
  { State.reset with m := { State.reset.m with fy := { Fy.empty with act := { Act.start with
    snap := { Snap.empty with fields := setField [] F.modStatusMode 3#32 }, effects := [.loopCmd 0 0 0#32] } } } }

/-- What a TUNE_ACCEPT refused with `st` leaves of effects, after that AUTO. -/
def refusedAccept (st : Nat) : List Effect :=
  [.loopCmd 0 0 0#32, .event { source := 0x0F00#16, code := 0x00F0#16, p0 := 0x18#32, p1 := word 3, p2 := word st, p3 := word 0 }]

/-- After an accepted command to the same block, TUNE_ACCEPT is BUSY, 3, although there are no candidate values (R154). -/
theorem tuneAccept_busy : ∃ t, exec (.tuneAccept (.task 1#7 0#7) 0) State.afterAuto = .next t ∧ t.m.fy.act.effects = refusedAccept 3 :=
  ⟨_, rfl, by decide +kernel⟩

/-- Refutes O53: a TUNE_ACCEPT without candidate values on a block that has taken an AUTO of the same activation is answered BUSY, 3; the statement has the
loop's own status, 19, take precedence. -/
theorem not_loopCommands : ¬ Obligations.LoopCommands := by
  intro h
  obtain ⟨-, -, -, ⟨-, accept⟩, -⟩ := h State.afterAuto 1#7 0#7 0 0#32
  obtain ⟨p, ⟨hp, -, -⟩, hl⟩ := accept 19 (by decide +kernel) (.inl (by decide +kernel))
  obtain ⟨t, ht, he⟩ := tuneAccept_busy
  have hpe : p.effects = refusedAccept 19 := congrArg Act.effects hp
  rw [hl.effects ht, hpe] at he
  exact absurd he (by decide)

end Sys2Proof.Machine
end

section
/-! PROOFS. Words and buffers stored by an activation as its later loads see them (R4, R90, R117, R146). -/

namespace Sys2Proof.Machine

/-! ### Bytes of a word -/

theorem getLsbD_byteMask (k : Nat) : (0xFF#32).getLsbD k = decide (k < 8) := by
  have h : (0xFF#32 : Word) = (BitVec.allOnes 8).setWidth 32 := by decide
  rw [h, BitVec.getLsbD_setWidth, BitVec.getLsbD_allOnes]
  by_cases hk : k < 8
  · simp [hk, show k < 32 by omega]
  · simp [hk]

/-- The bits of a word with a byte replaced. -/
theorem getLsbD_putByte (w : Word) (i : Nat) (b : Byte) {j : Nat} (hj : j < 32) :
    (putByte w i b).getLsbD j = if 8 * i ≤ j ∧ j < 8 * i + 8 then b.getLsbD (j - 8 * i) else w.getLsbD j := by
  simp only [putByte, BitVec.getLsbD_or, BitVec.getLsbD_and, BitVec.getLsbD_not, BitVec.getLsbD_shiftLeft, BitVec.getLsbD_setWidth, getLsbD_byteMask, hj,
    decide_true, Bool.true_and]
  by_cases h1 : j < 8 * i
  · simp [h1, show ¬8 * i ≤ j by omega]
  · by_cases h2 : j < 8 * i + 8
    · simp [h1, h2, show 8 * i ≤ j by omega, show j - 8 * i < 8 by omega, show j - 8 * i < 32 by omega]
    · have hb : b.getLsbD (j - 8 * i) = false := BitVec.getLsbD_of_ge _ _ (by omega)
      simp [h1, h2, hb, show ¬(j - 8 * i < 8) by omega]

/-- A byte of a word with one byte replaced. -/
theorem byte_putByte (w : Word) {i k : Nat} (b : Byte) (hk : k < 4) :
    (putByte w i b).extractLsb' (8 * k) 8 = if k = i then b else w.extractLsb' (8 * k) 8 := by
  apply BitVec.eq_of_getLsbD_eq
  intro j hj
  rw [BitVec.getLsbD_extractLsb', getLsbD_putByte _ _ _ (by omega)]
  by_cases h : k = i
  · subst h
    simp [hj]
  · rw [if_neg h, if_neg (by omega), BitVec.getLsbD_extractLsb']

/-- The word at `wa` with the bytes of a buffer at `ad` put over it. -/
def mergeWord (ad : Nat) (bs : List Byte) (w : Word) (wa : Nat) : Word :=
  (List.range 4).foldl (init := w) fun w i => if ad ≤ wa + i ∧ wa + i < ad + bs.length then putByte w i (bs.getD (wa + i - ad) 0#8) else w

theorem byte_mergeWord_fold (ad : Nat) (bs : List Byte) (w : Word) (wa : Nat) {k : Nat} (hk : k < 4) (n : Nat) :
    ((List.range n).foldl (init := w) fun w i => if ad ≤ wa + i ∧ wa + i < ad + bs.length then putByte w i (bs.getD (wa + i - ad) 0#8) else w).extractLsb'
      (8 * k) 8 = if k < n ∧ ad ≤ wa + k ∧ wa + k < ad + bs.length then bs.getD (wa + k - ad) 0#8 else w.extractLsb' (8 * k) 8 := by
  induction n with
  | zero => simp
  | succ n ih =>
    rw [List.range_succ, List.foldl_append, List.foldl_cons, List.foldl_nil]
    by_cases hn : ad ≤ wa + n ∧ wa + n < ad + bs.length
    · rw [if_pos hn, byte_putByte _ _ hk, ih]
      by_cases h : k = n
      · subst h
        rw [if_pos rfl, if_pos ⟨Nat.lt_succ_self _, hn⟩]
      · simp only [if_neg h, show (k < n + 1) = (k < n) by simp; omega]
    · rw [if_neg hn, ih]
      by_cases h : k = n
      · subst h
        rw [if_neg fun g => hn g.2, if_neg fun g => hn g.2]
      · simp only [show (k < n + 1) = (k < n) by simp; omega]

/-- A byte of the merged word: the buffer's where the buffer covers it, else the byte that stood there. -/
theorem byte_mergeWord (ad : Nat) (bs : List Byte) (w : Word) (wa : Nat) {k : Nat} (hk : k < 4) :
    (mergeWord ad bs w wa).extractLsb' (8 * k) 8 =
      if ad ≤ wa + k ∧ wa + k < ad + bs.length then bs.getD (wa + k - ad) 0#8 else w.extractLsb' (8 * k) 8 := by
  unfold mergeWord
  rw [byte_mergeWord_fold ad bs w wa hk 4]
  simp only [hk, true_and]

/-! ### Loads after stores -/

theorem lastWrite_concat (ws : List (Nat × Word)) (e : Nat × Word) (ad : Nat) :
    lastWrite (ws ++ [e]) ad = if e.1 = ad then some e.2 else lastWrite ws ad := by simp [lastWrite]

/-- A load of data SRAM sees the own stores and the snapshot, and nothing else of the activation. -/
theorem Act.load_congr {a b : Act} (hp : b.priming = a.priming) (hw : b.writes = a.writes) (hs : b.snap = a.snap) (ad : Nat) : b.load ad = a.load ad := by
  simp only [Act.load, Act.sramWord, hp, hw, hs]

theorem Act.load_sram (a : Act) {ad : Nat} (h : inSram ad = true) : a.load ad = a.sramWord ad := by rw [Act.load, if_pos h]

theorem writable_of_open {ad : Nat} (h : ad < 0x00FF0000) : writable ad = true := by simp [writable, inOpenSram, h]

/-- A store of a task to open data SRAM adds one plain write. -/
theorem Act.store_open (a : Act) {ad : Nat} (w : Word) (hp : a.priming = false) (h : ad < 0x00FF0000) :
    a.store ad w = { a with writes := a.writes ++ [(ad, w)] } := by
  simp [Act.store, writable_of_open h, hp]

/-- A word of data SRAM loaded after a word is stored. -/
theorem Act.load_store (a : Act) {wa ad : Nat} (w : Word) (hp : a.priming = false) (hw : wa < 0x00FF0000) (hs : inSram ad = true) :
    (a.store wa w).load ad = if wa = ad then w else a.load ad := by
  rw [Act.store_open a w hp hw, Act.load_sram _ hs, Act.load_sram _ hs]
  simp only [Act.sramWord, hp, Bool.false_eq_true, if_false, lastWrite_concat]
  by_cases h : wa = ad
  · simp only [h, if_true]
  · simp only [h, if_false]

/-- The first `n` words of a buffer stored: only plain writes are added, and the words they cover read as merged with what stood there. -/
theorem Act.storeBytes_fold (a : Act) (ad : Nat) (bs : List Byte) (hp : a.priming = false) (n : Nat) (hn : ad / 4 * 4 + 4 * n ≤ 0x00FF0000) :
    ∃ ws : List (Nat × Word), ((List.range n).foldl (init := a) fun a k => a.store (4 * (ad / 4 + k)) (mergeWord ad bs (a.load (4 * (ad / 4 + k))) (4 * (ad / 4 + k)))) =
        { a with writes := ws } ∧
      ∀ q, inSram (4 * q) = true → ({ a with writes := ws } : Act).load (4 * q) =
        if ad / 4 ≤ q ∧ q < ad / 4 + n then mergeWord ad bs (a.load (4 * q)) (4 * q) else a.load (4 * q) := by
  induction n with
  | zero => exact ⟨a.writes, rfl, fun q _ => by rw [if_neg (by omega)]⟩
  | succ n ih =>
    obtain ⟨ws, e, h⟩ := ih (by omega)
    rw [List.range_succ, List.foldl_append, List.foldl_cons, List.foldl_nil, e]
    have hopen : 4 * (ad / 4 + n) < 0x00FF0000 := by omega
    have hold := h (ad / 4 + n) (by simp [inSram]; omega)
    rw [if_neg (by omega)] at hold
    refine ⟨_, Act.store_open { a with writes := ws } _ hp hopen, fun q hq => ?_⟩
    rw [← Act.store_open { a with writes := ws } _ hp hopen, Act.load_store { a with writes := ws } _ hp hopen hq, h q hq, hold]
    by_cases hqn : q = ad / 4 + n
    · subst hqn
      rw [if_pos rfl, if_pos (by omega)]
    · simp only [show ¬4 * (ad / 4 + n) = 4 * q by omega, if_false, show (q < ad / 4 + (n + 1)) = (q < ad / 4 + n) by simp; omega]

/-- A buffer stored in open data SRAM by a task: only plain writes are added; each byte reads back from the buffer where it covers it, and as before
elsewhere; words that it does not touch read as before. -/
theorem Act.storeBytes_open (a : Act) (ad : Nat) (bs : List Byte) (hp : a.priming = false) (h : ad + bs.length ≤ 0x00FF0000) :
    ∃ ws : List (Nat × Word), a.storeBytes ad bs = { a with writes := ws } ∧
      (∀ x, inSram x = true → ({ a with writes := ws } : Act).loadByte x = if ad ≤ x ∧ x < ad + bs.length then bs.getD (x - ad) 0#8 else a.loadByte x) ∧
      ∀ q, inSram (4 * q) = true → 4 * q + 4 ≤ ad ∨ ad + bs.length ≤ 4 * q → ({ a with writes := ws } : Act).load (4 * q) = a.load (4 * q) := by
  let n := if bs.isEmpty then 0 else (ad + bs.length - 1) / 4 + 1 - ad / 4
  have hcov : ∀ q k, k < 4 → ad ≤ 4 * q + k → 4 * q + k < ad + bs.length → ad / 4 ≤ q ∧ q < ad / 4 + n := by
    intro q k hk h1 h2
    have hne : bs.isEmpty = false := by cases bs with
      | nil => simp at h2; omega
      | cons => rfl
    simp only [n, hne, Bool.false_eq_true, if_false]
    omega
  have hin : ∀ q, ad / 4 ≤ q ∧ q < ad / 4 + n → ad < 4 * q + 4 ∧ 4 * q < ad + bs.length := by
    intro q hq
    by_cases hne : bs.isEmpty
    · simp only [n, hne, if_true] at hq; omega
    · have hlen : 0 < bs.length := by cases bs with
        | nil => simp at hne
        | cons => simp
      simp only [n, hne, Bool.false_eq_true, if_false] at hq
      omega
  have hbound : ad / 4 * 4 + 4 * n ≤ 0x00FF0000 := by
    by_cases hn : n = 0
    · omega
    · have := hin (ad / 4 + n - 1) (by omega)
      omega
  obtain ⟨ws, e, hload⟩ := Act.storeBytes_fold a ad bs hp n hbound
  refine ⟨ws, e, fun x hx => ?_, fun q hq hout => ?_⟩
  · have hq : inSram (4 * (x / 4)) = true := by simp only [inSram, decide_eq_true_eq] at hx ⊢; omega
    simp only [Act.loadByte, show x / 4 * 4 = 4 * (x / 4) by omega, hload _ hq]
    have hb := byte_mergeWord ad bs (a.load (4 * (x / 4))) (4 * (x / 4)) (k := x % 4) (by omega)
    rw [show 4 * (x / 4) + x % 4 = x by omega] at hb
    by_cases hc : ad / 4 ≤ x / 4 ∧ x / 4 < ad / 4 + n
    · rw [if_pos hc, hb]
    · rw [if_neg hc, if_neg]
      exact fun g => hc (hcov (x / 4) (x % 4) (by omega) (by omega) (by omega))
  · rw [hload q hq, if_neg]
    intro hc
    have := hin q hc
    omega

end Sys2Proof.Machine
end

section
/-! PROOFS. What the CAN and HART instructions store, record and return (R12, R155 to R157). -/

namespace Sys2Proof.Machine

/-- The activation with stores made and effects recorded; in the priming section the stores reach its snapshot at once (R116). -/
def Act.noting (a : Act) (ws : List (Nat × Word)) (es : List Effect) : Act :=
  { a with writes := a.writes ++ ws, effects := a.effects ++ es, snap := if a.priming then ws.foldl (init := a.snap) fun m e => m.storeNow e.1 e.2 else a.snap }

theorem Act.noting_nil (a : Act) : a.noting [] [] = a := by simp [Act.noting]

theorem Act.effect_eq_noting (a : Act) (e : Effect) : a.effect e = a.noting [] [e] := by simp [Act.noting, Act.effect]

theorem Act.noting_effect (a : Act) (ws : List (Nat × Word)) (e : Effect) : (a.noting ws []).effect e = a.noting ws [e] := by simp [Act.noting, Act.effect]

theorem Act.setReg_snap (a : Act) (d : RegNo) (w : Word) : (a.setReg d w).snap = a.snap := by rw [Act.setReg_eq]

/-- An instruction that makes stores, records effects and puts its result in register d: what `Did` says of it. -/
theorem did_of {c : Instr} {s : State} {F : Act → Act} {d : RegNo} {w : Word} {len bu : Nat} {ws : List (Nat × Word)} {es : List Effect}
    (h : exec c s = runFy (fun f => f.upd F) s) (hF : F s.m.fy.act = ((s.m.fy.act.noting ws es).setReg d w).retire len bu) :
    ∃ p, s.m.fy.act.Did p d w len bu ws es ∧ Leaves c s p s.m.fy.slots := by
  refine ⟨{ (s.m.fy.act.noting ws es).setReg d w with pc := s.m.fy.act.pc + len, charge := s.m.fy.act.charge + bu }, ⟨?_, ?_, ?_⟩, ?_⟩
  · rw [Act.setReg_eq]; rfl
  · exact fun r => Act.setReg_sets (s.m.fy.act.noting ws es) d w r
  · exact Act.setReg_snap ..
  · rw [Leaves, FyNext, h, runFy, Fy.upd, hF, Act.setReg_eq]
    rfl

/-- The stores that put words in order from `ad` on, but for those to no writable region (R117). -/
def keptWords (ad n : Nat) (l : List Word) : List (Nat × Word) := ((l.zipIdx n).map fun e => (ad + 4 * e.2, e.1)).filter fun e => writable e.1

theorem Act.store_eq_noting (a : Act) (ad : Nat) (w : Word) : a.store ad w = a.noting ([(ad, w)].filter fun e => writable e.1) [] := by
  unfold Act.store
  by_cases h : writable ad = true
  · simp [h, Act.noting]
  · simp [h, Act.noting]

theorem Act.noting_noting (a : Act) (ws vs : List (Nat × Word)) : (a.noting ws []).noting vs [] = a.noting (ws ++ vs) [] := by
  unfold Act.noting
  cases a.priming <;> simp

/-- Words stored one after another are as many stores, in their order. -/
theorem Act.storeWords_eq_noting (a : Act) (ad n : Nat) (l : List Word) : a.storeWords (ad + 4 * n) l = a.noting (keptWords ad n l) [] := by
  induction l generalizing a n with
  | nil => exact (Act.noting_nil a).symm
  | cons w r ih =>
    rw [Act.storeWords, show ad + 4 * n + 4 = ad + 4 * (n + 1) by omega, ih, Act.store_eq_noting, Act.noting_noting, keptWords, keptWords,
      ← List.filter_append]
    rfl

/-- The event INSTR_REFUSED of an activation (R12, R418). -/
def Act.refusedEvent (a : Act) (major code status object : Nat) : Effect :=
  .event { source := a.source, code := 0x00F0#16, p0 := word major, p1 := word code, p2 := word status, p3 := word object }

theorem Act.refuse_eq_noting (a : Act) (major code status object : Nat) :
    a.refuse major code status object = a.noting [] [a.refusedEvent major code status object] := Act.effect_eq_noting ..

/-! ### CAN (R155, R156) -/

/-- The status of CANTX: WRONG_MODE, NOT_CONFIGURED and BUSY in this order. -/
def Act.cantxStatus (a : Act) (port buf : Nat) : Nat :=
  if a.mode = 1 ∨ a.mode = 4 then 1 else if !a.canOn port then 11 else if a.txLoaded port buf then 3 else 0

/-- CANTX records the frame for its buffer, or its refusal. -/
theorem cantx_did (s : State) (d : RegNo) (port buf base : Nat) {st : Nat} (h : s.m.fy.act.cantxStatus port buf = st) :
    ∃ p, s.m.fy.act.Did p d (word st) 2 12 []
        [if st = 0 then .canTx port buf (txFrame s.m.fy.act base) else s.m.fy.act.refusedEvent 0x1C 0 st buf] ∧
      Leaves (.cantx d port buf base) s p s.m.fy.slots := by
  subst h
  refine did_of rfl ?_
  rw [apply_ite (fun e => s.m.fy.act.noting [] [e]), ← Act.refuse_eq_noting, ← Act.effect_eq_noting]
  rfl

/-- A port that is not enabled refuses CANPOP and CANMB. -/
theorem canpop_did_off (s : State) (d : RegNo) (port fifo base : Nat) (h : s.m.fy.act.canOn port = false) :
    ∃ p, s.m.fy.act.Did p d (word 11) 2 12 [] [s.m.fy.act.refusedEvent 0x1C 1 11 fifo] ∧ Leaves (.canpop d port fifo base) s p s.m.fy.slots := by
  refine did_of rfl ?_
  simp only [h, Bool.not_false, if_true, Act.refuse_eq_noting]

theorem canmb_did_off (s : State) (d : RegNo) (port box base : Nat) (h : s.m.fy.act.canOn port = false) :
    ∃ p, s.m.fy.act.Did p d (word 11) 2 12 [] [s.m.fy.act.refusedEvent 0x1C 2 11 box] ∧ Leaves (.canmb d port box base) s p s.m.fy.slots := by
  refine did_of rfl ?_
  simp only [h, Bool.not_false, if_true, Act.refuse_eq_noting]

theorem canpop_did_empty (s : State) (d : RegNo) (port fifo base : Nat) (h : s.m.fy.act.canOn port = true)
    (he : (s.m.fy.act.snap.fifos.get [] (fifoKey port fifo)).drop (s.m.fy.act.popped port fifo) = []) :
    ∃ p, s.m.fy.act.Did p d (word 32) 2 12 [] [] ∧ Leaves (.canpop d port fifo base) s p s.m.fy.slots := by
  refine did_of rfl ?_
  simp only [h, Bool.not_true, Bool.false_eq_true, if_false, he, Act.noting_nil]

theorem canpop_did_frame (s : State) (d : RegNo) (port fifo base : Nat) {e : CanFrame × Nat} {l : List (CanFrame × Nat)} (h : s.m.fy.act.canOn port = true)
    (he : (s.m.fy.act.snap.fifos.get [] (fifoKey port fifo)).drop (s.m.fy.act.popped port fifo) = e :: l) :
    ∃ p, s.m.fy.act.Did p d 0#32 2 12 (keptWords base 0 (rxDescriptor e.1 e.2 false)) [.canPop port fifo] ∧
      Leaves (.canpop d port fifo base) s p s.m.fy.slots := by
  refine did_of rfl ?_
  have hw := s.m.fy.act.storeWords_eq_noting base 0 (rxDescriptor e.1 e.2 false)
  rw [Nat.mul_zero, Nat.add_zero] at hw
  simp only [h, Bool.not_true, Bool.false_eq_true, if_false, he, hw, Act.noting_effect]

theorem canmb_did_empty (s : State) (d : RegNo) (port box base : Nat) (h : s.m.fy.act.canOn port = true)
    (he : s.m.fy.act.snap.boxes.get none (boxKey port box) = none) :
    ∃ p, s.m.fy.act.Did p d (word 32) 2 12 [] [] ∧ Leaves (.canmb d port box base) s p s.m.fy.slots := by
  refine did_of rfl ?_
  simp only [h, Bool.not_true, Bool.false_eq_true, if_false, he, Act.noting_nil]

theorem canmb_did_frame (s : State) (d : RegNo) (port box base : Nat) {b : Mailbox} (h : s.m.fy.act.canOn port = true)
    (he : s.m.fy.act.snap.boxes.get none (boxKey port box) = some b) :
    ∃ p, s.m.fy.act.Did p d (if b.isRead then 33#32 else 0#32) 2 12 (keptWords base 0 (rxDescriptor b.frame b.filter b.lost)) [.canMb port box] ∧
      Leaves (.canmb d port box base) s p s.m.fy.slots := by
  refine did_of rfl ?_
  have hw := s.m.fy.act.storeWords_eq_noting base 0 (rxDescriptor b.frame b.filter b.lost)
  rw [Nat.mul_zero, Nat.add_zero] at hw
  simp only [h, Bool.not_true, Bool.false_eq_true, if_false, he, hw, Act.noting_effect, apply_ite word]
  rfl

/-! ### HART (R157) -/

/-- The status of HREQ: WRONG_MODE, NOT_CONFIGURED and BUSY in this order. -/
def Act.hreqStatus (a : Act) (chan : Nat) : Nat := if a.mode = 1 then 1 else if !a.hartOn chan then 11 else if a.hartBusy chan then 3 else 0

/-- The request that HREQ reads from its buffer. -/
def Act.hartRequest (a : Act) (chan : Nat) (arr : ArrRef) : Effect :=
  .hartStart chan ((a.load arr.base).bits 15 0) (a.loadBytes (arr.base + 8) (min ((a.load arr.base).bits 23 16) (arr.bytes - 8)))

theorem Act.hartRequest_eq (a : Act) (chan : Nat) (arr : ArrRef) : a.hartRequest chan arr = .hartStart chan ((a.load arr.base).toNat % 65536)
    ((List.range (min ((a.load arr.base).toNat / 65536 % 256) (arr.bytes - 8))).map fun i => a.loadByte (arr.base + 8 + i)) := by
  simp [Act.hartRequest, Act.loadBytes, Word.bits, bitsOf, Nat.shiftRight_eq_div_pow]

/-- HREQ records its transaction, or its refusal. -/
theorem hreq_did (s : State) (d : RegNo) (chan : Nat) (arr : ArrRef) {st : Nat} (h : s.m.fy.act.hreqStatus chan = st) :
    ∃ p, s.m.fy.act.Did p d (word st) 2 40 [] [if st = 0 then s.m.fy.act.hartRequest chan arr else s.m.fy.act.refusedEvent 0x1D 0 st chan] ∧
      Leaves (.hreq d chan arr) s p s.m.fy.slots := by
  subst h
  refine did_of rfl ?_
  rw [apply_ite (fun e => s.m.fy.act.noting [] [e]), ← Act.refuse_eq_noting, ← Act.effect_eq_noting]
  rfl

theorem hres_did_empty (s : State) (d : RegNo) (chan : Nat) (arr : ArrRef) (h : s.m.fy.act.hartTook chan = true ∨ s.m.fy.act.snap.hart.get none chan = none) :
    ∃ p, s.m.fy.act.Did p d (word 32) 2 40 [] [] ∧ Leaves (.hres d chan arr) s p s.m.fy.slots := by
  refine did_of rfl ?_
  have hn : (if s.m.fy.act.hartTook chan then none else s.m.fy.act.snap.hart.get none chan) = none := by
    rcases h with h | h
    · exact if_pos h
    · rw [h, ite_self]
  simp only [hn, Act.noting_nil]

theorem hresBytes_length (r : HartResult) : (hresBytes r).length = 264 := by simp [hresBytes]

/-- The activation behind an HRES that took its result, the buffer stored by the plain writes `ws`. -/
def Act.tookResult (a : Act) (d : RegNo) (chan : Nat) (ws : List (Nat × Word)) : Act :=
  { ({ a with writes := ws, effects := a.effects ++ [.hartTaken chan] } : Act).setReg d 0#32 with pc := a.pc + 2, charge := a.charge + 40 }

theorem Act.tookResult_eq (a : Act) (d : RegNo) (chan : Nat) (ws : List (Nat × Word)) : a.tookResult d chan ws =
    { a with regs := (a.tookResult d chan ws).regs, pc := a.pc + 2, charge := a.charge + 40, writes := ws, effects := a.effects ++ [.hartTaken chan] } := by
  rw [Act.tookResult, Act.setReg_eq]

/-- Its later loads see the buffer stored. -/
theorem Act.load_tookResult (a : Act) (d : RegNo) (chan : Nat) (ws : List (Nat × Word)) (ad : Nat) :
    (a.tookResult d chan ws).load ad = ({ a with writes := ws } : Act).load ad := by
  rw [Act.tookResult_eq]
  exact Act.load_congr rfl rfl rfl ad

/-- HRES writes its buffer, and records that the result is taken. -/
theorem hres_leaves (s : State) (d : RegNo) (chan : Nat) (arr : ArrRef) {r : HartResult} {ws : List (Nat × Word)} (ht : s.m.fy.act.hartTook chan = false)
    (hr : s.m.fy.act.snap.hart.get none chan = some r) (hw : s.m.fy.act.storeBytes arr.base (hresBytes r) = { s.m.fy.act with writes := ws }) :
    Leaves (.hres d chan arr) s (s.m.fy.act.tookResult d chan ws) s.m.fy.slots := by
  have e : exec (.hres d chan arr) s = runFy (fyHres d chan arr) s := rfl
  rw [Leaves, FyNext, e, runFy, fyHres, Fy.upd]
  simp only [ht, Bool.false_eq_true, if_false, hr, hw, Act.effect, Act.retire]
  rw [Act.tookResult, Act.setReg_eq]

/-! ### The statement -/

/-- Settles O14: CANTX and HREQ by their statuses, CANPOP and CANMB by what the snapshot view holds, HRES by what its buffer reads as afterwards. -/
theorem canAndHartInstructions : Obligations.CanAndHartInstructions := by
  refine ⟨fun s d port buf box fifo base => ?_, fun s d chan arr => ?_⟩
  · refine ⟨fun hm => ?_, fun h1 h4 hoff => ?_, fun h1 h4 hon hl => ?_, fun h1 h4 hon hl => ?_, fun hoff => ?_, fun hon he => ?_, fun hon he => ?_,
      fun hon f filter l he => ?_, fun hon b he => ?_⟩
    · exact cantx_did s d port buf base (if_pos hm)
    · exact cantx_did s d port buf base (st := 11) (by simp [Act.cantxStatus, h1, h4, hoff])
    · exact cantx_did s d port buf base (st := 3) (by simp [Act.cantxStatus, h1, h4, hon, hl])
    · exact cantx_did s d port buf base (st := 0) (by simp [Act.cantxStatus, h1, h4, hon, hl])
    · exact ⟨canpop_did_off s d port fifo base hoff, canmb_did_off s d port box base hoff⟩
    · exact canpop_did_empty s d port fifo base hon (List.drop_eq_nil_of_le he)
    · exact canmb_did_empty s d port box base hon he
    · have h := canpop_did_frame s d port fifo base hon he
      unfold keptWords at h
      exact h
    · have h := canmb_did_frame s d port box base hon he
      unfold keptWords at h
      exact h
  · refine ⟨fun hm => ?_, fun h1 hoff => ?_, fun h1 hon hb => ?_, fun h1 hon hb => ?_, fun h => ?_, fun r ht hr ha hs hp => ?_⟩
    · exact hreq_did s d chan arr (if_pos hm)
    · exact hreq_did s d chan arr (st := 11) (by simp [Act.hreqStatus, h1, hoff])
    · exact hreq_did s d chan arr (st := 3) (by simp [Act.hreqStatus, h1, hon, hb])
    · have h := hreq_did s d chan arr (st := 0) (by simp [Act.hreqStatus, h1, hon, hb])
      rw [if_pos rfl, Act.hartRequest_eq] at h
      exact h
    · exact hres_did_empty s d chan arr h
    · obtain ⟨ws, hw, hbytes, hrest⟩ := s.m.fy.act.storeBytes_open arr.base (hresBytes r) hp (by rw [hresBytes_length]; exact hs)
      rw [hresBytes_length] at hbytes hrest
      refine ⟨s.m.fy.act.tookResult d chan ws, fun i hi => ?_, ?_, fun ad hm hin hout => ?_, ?_, hres_leaves s d chan arr ht hr hw⟩
      · rw [Act.loadByte, Act.load_tookResult]
        have hb := hbytes (arr.base + i) (by simp only [inSram, decide_eq_true_eq]; omega)
        rwa [if_pos (by omega), Nat.add_sub_cancel_left] at hb
      · exact fun x => Act.setReg_sets { s.m.fy.act with writes := ws, effects := s.m.fy.act.effects ++ [.hartTaken chan] } d 0#32 x
      · rw [Act.load_tookResult]
        have hq := hrest (ad / 4) (by rwa [show 4 * (ad / 4) = ad by omega]) (by omega)
        rwa [show 4 * (ad / 4) = ad by omega] at hq
      · rw [Act.tookResult_eq]

end Sys2Proof.Machine
end

section
/-! PROOFS. Commands whose own effect is known: what their end leaves of it, and the commands that leave the module as it is. -/

namespace Sys2Proof.Machine

/-- A command whose own effect makes the module `u`, without an event: only what its end reports may differ from `u` then. -/
theorem runs_quiet {c : Instr} {s : State} {f : M → M} {u : M} (h : exec c s = runM f s) (hp : s.m.aon.powered = true) (hf : f s.m.begun = u.begun)
    (hlog : u.log.queue = s.m.log.queue) (hqueue : u.aon.queue = s.m.aon.queue) (hlost : u.aon.lost = s.m.aon.lost) :
    Runs c s fun t => u.Only t [] ∧ s.m.Silent t := by
  refine runs_of h ⟨?_, M.Silent.of hp (by rw [hf]; exact hlog) (by rw [hf]; exact hqueue) (by rw [hf]; exact hlost)⟩
  have hl := M.Logs.perform f s.m hp
  rw [hf] at hl
  exact ((M.Only.begun u).trans hl.only).mono (by simp)

/-- A command without an effect of its own. -/
theorem runs_same {c : Instr} {s : State} {f : M → M} (h : exec c s = runM f s) (hp : s.m.aon.powered = true) (hf : f s.m.begun = s.m.begun) :
    Runs c s fun t => s.m.Only t [] ∧ s.m.Silent t := runs_quiet h hp hf rfl rfl rfl

theorem Runs.mono {c : Instr} {s : State} {P Q : M → Prop} (h : Runs c s P) (g : ∀ t, P t → Q t) : Runs c s Q := by
  obtain ⟨t, ht, hq, hp⟩ := h
  exact ⟨t, ht, hq, g _ hp⟩

end Sys2Proof.Machine
end

section
/-! PROOFS. The stores of tasks in the stroke in progress (R87, R90, R146, R172). -/

namespace Sys2Proof.Machine

/-- Whether a store to an address starts an action at the commit (R82, R146). -/
def actsAt (a : Nat) : Bool := startsAction a || a == 0x40001010

/-- The module with a store of a task in its digest and waiting for the commit, with the action that it starts. -/
def M.storing (s : M) (task a : Nat) (v : Word) (acts : Bool) : M := { s with run := { s.run with
  digest := s.run.digest + digestOf [(a, v)]
  pend := { writes := s.run.pend.writes ++ [(a, v)]
            effects := s.run.pend.effects ++ if acts then [(BitVec.ofNat 16 (0x0F00 + task), .regAction a v)] else [] } } }

theorem actionsOf_one (src : Half) (a : Nat) (v : Word) : actionsOf src [(a, v)] = if actsAt a then [(src, .regAction a v)] else [] := by
  rw [actionsOf, List.filterMap_cons, List.filterMap_nil, actsAt]
  cases startsAction a || a == 0x40001010 <;> rfl

theorem M.taskStore_ran (s : M) {task a : Nat} (v : Word) (hr : s.tasksRan = true ∧ task < 16) (hw : writable a = true) :
    s.taskStore task a v = s.storing task a v (actsAt a) := by
  obtain ⟨h1, h2⟩ := hr
  rw [M.taskStore, if_pos (by simp [h1, h2, hw]), actionsOf_one]
  rfl

/-- Where no task executes there is no store. -/
theorem M.taskStore_idle (s : M) {task a : Nat} (v : Word) (hr : ¬(s.tasksRan = true ∧ task < 16)) : s.taskStore task a v = s := by
  rw [M.taskStore, if_neg]
  simp only [Bool.and_eq_true, decide_eq_true_eq]
  exact fun h => hr h.1

/-- Nor is there one to an address that no task may write (R117, R172). -/
theorem M.taskStore_barred (s : M) (task : Nat) {a : Nat} (v : Word) (hw : writable a = false) : s.taskStore task a v = s := by
  rw [M.taskStore, if_neg (by simp [hw])]

/-- What the statement says of a command that is a store of `v` to `a`. -/
def Stores (c : Instr) (s : State) (task a : Nat) (v : Word) (acts : Bool) : Prop :=
  (¬(s.m.tasksRan = true ∧ task < 16) → Runs c s fun t => s.m.Only t [] ∧ s.m.Silent t) ∧
  (s.m.tasksRan = true ∧ task < 16 → Runs c s fun t => s.m.Silent t ∧ (s.m.storing task a v acts).Only t [])

/-- A command that makes a task's store to a writable address. -/
theorem stores_of {c : Instr} {s : State} {f : M → M} {task a : Nat} {v : Word} {acts : Bool} (hp : s.m.aon.powered = true) (h : exec c s = runM f s)
    (hf : f s.m.begun = s.m.begun.taskStore task a v) (hw : writable a = true) (ha : actsAt a = acts) : Stores c s task a v acts := by
  subst ha
  refine ⟨fun hr => runs_same h hp (hf.trans (M.taskStore_idle _ v hr)), fun hr => ?_⟩
  have hq := runs_quiet (u := s.m.storing task a v (actsAt a)) h hp (hf.trans (M.taskStore_ran s.m.begun v hr hw)) rfl rfl rfl
  exact hq.mono fun t ht => ht.symm

/-! ### Where the stores go -/

theorem actsAt_ports : ∀ n, n < 2 → (actsAt (0x4004002C + 0x4000 * n) = true ∧ actsAt (0x40040030 + 0x4000 * n) = true ∧
    actsAt (0x40040018 + 0x4000 * n) = false) ∧ writable (0x4004002C + 0x4000 * n) = true ∧ writable (0x40040030 + 0x4000 * n) = true ∧
    writable (0x40040018 + 0x4000 * n) = true := by decide +kernel

theorem actsAt_encoders : ∀ n, n < 4 → actsAt (0x4003000C + 16 * n) = true ∧ writable (0x4003000C + 16 * n) = true := by decide +kernel

theorem actsAt_of_low {a : Nat} (h : a < 0x40000000) : actsAt a = false := by
  simp [actsAt, startsAction, inSys, show ¬0x40000000 ≤ a by omega, show a ≠ 0x40001010 by omega]

theorem aliasTarget_aligned {base ad : Nat} (hb : base % 0x01000000 = 0) (h : ad < 0x01000000) : aliasTarget (base + ad / 4 * 4) = ad / 4 * 4 := by
  unfold aliasTarget; omega

/-- A word of data SRAM may be set and cleared through its aliases unless it lies in the system part of the cistern (R91, R172). -/
theorem writable_alias {base ad : Nat} (hb : base = 0x04000000 ∨ base = 0x08000000) (h : ad < 0x01000000) :
    writable (base + ad / 4 * 4) = inOpenSram ad := by
  have ht : aliasTarget (base + ad / 4 * 4) = ad / 4 * 4 := aliasTarget_aligned (by omega) h
  have halias : (inSetAlias (base + ad / 4 * 4) || inClrAlias (base + ad / 4 * 4)) = true := by
    simp only [inSetAlias, inClrAlias, Bool.or_eq_true, Bool.and_eq_true, decide_eq_true_eq]; omega
  have h1 : inOpenSram (base + ad / 4 * 4) = false := by simp only [inOpenSram, decide_eq_false_iff_not]; omega
  have h2 : inSys (base + ad / 4 * 4) = false := by simp only [inSys, Bool.and_eq_false_iff, decide_eq_false_iff_not]; omega
  have h3 : inLoop (base + ad / 4 * 4) = false := by simp only [inLoop, Bool.and_eq_false_iff, decide_eq_false_iff_not]; omega
  simp only [writable, h1, h2, h3, halias, ht, Bool.false_or, Bool.true_and, Bool.or_false]
  simp only [inOpenSram, decide_eq_decide]; omega

theorem alias_stores {c : Instr} {s : State} {f : M → M} {task ad base : Nat} {w : Word} (hp : s.m.aon.powered = true) (h : exec c s = runM f s)
    (hf : f s.m.begun = if inSram ad then s.m.begun.taskStore task (base + ad / 4 * 4) w else s.m.begun) (hb : base = 0x04000000 ∨ base = 0x08000000) :
    (inOpenSram ad = true → Stores c s task (base + ad / 4 * 4) w false) ∧
    (inOpenSram ad = false → Runs c s fun t => s.m.Only t [] ∧ s.m.Silent t) := by
  refine ⟨fun ho => ?_, fun ho => ?_⟩
  · have hlt : ad < 0x01000000 := by simp only [inOpenSram, decide_eq_true_eq] at ho; omega
    exact stores_of hp h (hf.trans (if_pos (by simp [inSram, hlt]))) ((writable_alias hb hlt).trans ho) (actsAt_of_low (by omega))
  · refine runs_same h hp (hf.trans ?_)
    by_cases hs : inSram ad = true
    · rw [if_pos hs]
      exact M.taskStore_barred _ _ _ ((writable_alias hb (by simpa [inSram] using hs)).trans ho)
    · rw [if_neg hs]

/-- The guard of REGISTER_WRITE: a register that starts no action and is none of those that other commands write. -/
theorem registerWrite_guard (a : Nat) : ((inSys a || inLoop a) && !isSet a && !isClear a && !startsAction a && a != 0x40001010) = true ↔
    (inSys a = true ∨ inLoop a = true) ∧ startsAction a = false ∧ a ∉ [0x40010084, 0x40010088, 0x40001010] := by
  have hs : inSys a = true ∨ inLoop a = true → inSetAlias a = false ∧ inClrAlias a = false := by
    simp only [inSys, inLoop, inSetAlias, inClrAlias, Bool.and_eq_true, Bool.and_eq_false_iff, decide_eq_true_eq, decide_eq_false_iff_not]
    omega
  by_cases h : inSys a = true ∨ inLoop a = true
  · obtain ⟨h1, h2⟩ := hs h
    have hor : (inSys a || inLoop a) = true := by simpa using h
    simp only [isSet, isClear, h1, h2, hor, h, Bool.false_or, Bool.true_and, true_and, Bool.and_eq_true, Bool.not_eq_true', beq_eq_false_iff_ne, bne_iff_ne,
      List.mem_cons, List.not_mem_nil, or_false, not_or]
    exact ⟨fun ⟨⟨⟨hset, hclr⟩, hacts⟩, hreq⟩ => ⟨hacts, hset, hclr, hreq⟩, fun ⟨hacts, hset, hclr, hreq⟩ => ⟨⟨⟨hset, hclr⟩, hacts⟩, hreq⟩⟩
  · have hor : (inSys a || inLoop a) = false := by simpa using h
    simp [hor, h]

/-! ### The statement -/

/-- Settles O52: each command is one store, and `stores_of` says what a store does. -/
theorem taskStores : Obligations.TaskStores := by
  intro s task n ad w hp
  refine ⟨stores_of hp rfl rfl rfl (by decide +kernel), stores_of hp rfl rfl rfl (by decide +kernel), stores_of hp rfl rfl rfl (by decide +kernel),
    stores_of hp rfl rfl rfl (by decide +kernel), stores_of hp rfl rfl rfl (by decide +kernel), stores_of hp rfl rfl rfl (by decide +kernel),
    stores_of hp rfl rfl rfl (by decide +kernel), stores_of hp rfl rfl rfl (by decide +kernel), stores_of hp rfl rfl rfl (by decide +kernel),
    fun hn => ?_, fun hn => runs_same rfl hp (if_neg (by omega)), fun hn => ?_, fun hn => ?_, fun ho => ?_, fun ho => ?_, fun hr => ?_, fun hr => ?_⟩
  · obtain ⟨ha, hw⟩ := actsAt_encoders n hn
    exact stores_of hp rfl (if_pos hn) hw ha
  · obtain ⟨⟨ha1, ha2, ha3⟩, hw1, hw2, hw3⟩ := actsAt_ports n hn
    exact ⟨stores_of hp rfl (if_pos hn) hw1 ha1, stores_of hp rfl (if_pos hn) hw2 ha2, stores_of hp rfl (if_pos hn) hw3 ha3⟩
  · exact ⟨runs_same rfl hp (if_neg (by omega)), runs_same rfl hp (if_neg (by omega)), runs_same rfl hp (if_neg (by omega))⟩
  · exact ⟨(alias_stores hp rfl rfl (.inl rfl)).1 ho, (alias_stores hp rfl rfl (.inr rfl)).1 ho⟩
  · exact ⟨(alias_stores hp rfl rfl (.inl rfl)).2 ho, (alias_stores hp rfl rfl (.inr rfl)).2 ho⟩
  · refine stores_of hp rfl (if_pos ((registerWrite_guard _).2 hr)) ?_ ?_
    · obtain ⟨hin, -, -⟩ := hr
      simp only [writable, Bool.or_eq_true]
      exact hin.elim (fun h => .inl (.inr h)) .inr
    · obtain ⟨-, hs, hn⟩ := hr
      simp only [List.mem_cons, List.not_mem_nil, or_false, not_or] at hn
      simp [actsAt, hs, hn]
  · exact runs_same rfl hp (if_neg fun h => hr ((registerWrite_guard _).1 h))

end Sys2Proof.Machine
end

section
/-! PROOFS. Sessions of the host: what a reply, a refusal and the end of a session change (R330 to R332, R412). -/

namespace Sys2Proof.Machine

/-- The module with its sessions, their requests that wait, and what has left it replaced. -/
def M.answering (s : M) (ss : List Session) (q : List HostReq) (o : List Out) : M :=
  { s with net := { s.net with sessions := ss, queue := q }, out := o }

@[simp] theorem M.answering_mem (s : M) (ss : List Session) (q : List HostReq) (o : List Out) : (s.answering ss q o).mem = s.mem := rfl
@[simp] theorem M.answering_log (s : M) (ss : List Session) (q : List HostReq) (o : List Out) : (s.answering ss q o).log = s.log := rfl
@[simp] theorem M.answering_store (s : M) (ss : List Session) (q : List HostReq) (o : List Out) : (s.answering ss q o).store = s.store := rfl
@[simp] theorem M.answering_reg (s : M) (ss : List Session) (q : List HostReq) (o : List Out) (k : Nat) : (s.answering ss q o).reg k = s.reg k := rfl

theorem M.Only.answering {s t : M} {l : List Nat} (h : s.Only t l) (ss : List Session) (q : List HostReq) (o : List Out) :
    (s.answering ss q o).Only (t.answering ss q o) l := by
  obtain ⟨h1, h2⟩ := h
  refine ⟨?_, h2⟩
  rw [h1]
  rfl

/-! ### Sessions looked up -/

theorem M.session_id {s : M} {r : Req} {x : Session} (h : s.session r = some x) : x.id = r.sess := by
  simpa using List.find?_some h

/-- A change to the session of a request that keeps its number is what its look-up then finds. -/
theorem find_session_map (l : List Session) (id : Nat) (g : Session → Session) (hg : ∀ y, (g y).id = y.id) :
    (l.map fun y => if y.id = id then g y else y).find? (fun y => y.id == id) = (l.find? fun y => y.id == id).map g := by
  induction l with
  | nil => rfl
  | cons y l ih =>
    rw [List.map_cons]
    by_cases h : y.id = id
    · rw [if_pos h, List.find?_cons_of_pos (by simp [hg, h]), List.find?_cons_of_pos (by simp [h])]
      rfl
    · rw [if_neg h, List.find?_cons_of_neg (by simp [h]), List.find?_cons_of_neg (by simp [h]), ih]

theorem M.session_updSession (s : M) (r : Req) (g : Session → Session) (hg : ∀ y, (g y).id = y.id) :
    (s.updSession r.sess g).session r = (s.session r).map g := find_session_map _ _ g hg

theorem M.session_congr {s t : M} (h : t.net = s.net) (r : Req) : t.session r = s.session r := by rw [M.session, M.session, h]

/-- The session of a request received: its place stands last among the unanswered ones. -/
def Session.queued (x : Session) : Session := { x with order := x.order ++ [x.nextPlace] }

/-- The session with its unanswered places and the replies kept back replaced. -/
def Session.flushed (order : List Nat) (ready : List (Nat × Out)) (x : Session) : Session := { x with order := order, ready := ready }

theorem M.updSession_eq_answering (s : M) (id : Nat) (g : Session → Session) :
    s.updSession id g = s.answering (s.net.sessions.map fun y => if y.id = id then g y else y) s.net.queue s.out := rfl

theorem M.answering_answering (s : M) (ss ss' : List Session) (q q' : List HostReq) (o o' : List Out) :
    (s.answering ss' q' o').answering ss q o = s.answering ss q o := rfl

/-! ### Replies -/

theorem M.foldl_emit (l : List Out) (s : M) : l.foldl M.emit s = { s with out := s.out ++ l } := by
  induction l generalizing s with
  | nil => simp
  | cons o l ih => rw [List.foldl_cons, ih]; simp [M.emit]

/-- The place that a reply answers. -/
def Session.answers (x : Session) (r : Req) : Nat := if r.place = 0 then x.order.getLast?.getD 0 else r.place

/-- What a reply lets leave, and the places and replies that stay (R332). -/
def Session.flush (x : Session) (r : Req) (o : Out) : List Out × List Nat × List (Nat × Out) :=
  flushReady x.order (x.ready ++ [(x.answers r, o)])

/-- The module once a reply has left in its turn, its session not yet closed. -/
def M.sent (s : M) (r : Req) (x : Session) (o : Out) : M :=
  s.answering (s.net.sessions.map fun y => if y.id = r.sess then y.flushed (x.flush r o).2.1 (x.flush r o).2.2 else y) s.net.queue (s.out ++ (x.flush r o).1)

theorem M.session_sent {s : M} {r : Req} {x y : Session} {o : Out} (h : s.session r = some y) :
    (s.sent r x o).session r = some (y.flushed (x.flush r o).2.1 (x.flush r o).2.2) := by
  refine (find_session_map s.net.sessions r.sess (Session.flushed (x.flush r o).2.1 (x.flush r o).2.2) fun _ => rfl).trans ?_
  rw [← M.session, h]
  rfl

/-- A reply in a session: in its turn, and the session that closes goes with its last one. -/
theorem M.send_eq {s : M} {r : Req} {x : Session} (h : s.session r = some x) (o : Out) :
    s.send r o = if x.closing && (x.flush r o).2.1.isEmpty then (s.sent r x o).dropSessions (fun z => z.id == x.id) 0 else s.sent r x o := by
  have hs : (x.flush r o).1.foldl (init := s.updSession r.sess (Session.flushed (x.flush r o).2.1 (x.flush r o).2.2)) M.emit = s.sent r x o := by
    rw [M.foldl_emit]; rfl
  rw [← hs, M.send, h]
  rfl

theorem M.send_open {s : M} {r : Req} {x : Session} (h : s.session r = some x) (hc : x.closing = false) (o : Out) : s.send r o = s.sent r x o := by
  rw [M.send_eq h, hc]; rfl

/-! ### The end of a session -/

/-- The registers that a download broken off changes. -/
def slotKeys : List Nat := [F.idImgSlotState 0, F.idImgSlotVerdict 0, F.secFwSlotState 0, F.secFwSlotVerdict 0,
  F.idImgSlotState 1, F.idImgSlotVerdict 1, F.secFwSlotState 1, F.secFwSlotVerdict 1]

/-- `t` is `s` but for its registers, and of these at most the keys listed. -/
def M.Fields (s t : M) (l : List Nat) : Prop := t = { s with fields := t.fields } ∧ ∀ k, k ∉ l → t.reg k = s.reg k

theorem M.Fields.refl (s : M) (l : List Nat) : s.Fields s l := ⟨rfl, fun _ _ => rfl⟩

theorem M.Fields.trans {s t u : M} {l : List Nat} (h : s.Fields t l) (g : t.Fields u l) : s.Fields u l := by
  obtain ⟨h1, h2⟩ := h
  obtain ⟨g1, g2⟩ := g
  refine ⟨?_, fun k hk => (g2 k hk).trans (h2 k hk)⟩
  rw [h1] at g1
  exact g1

theorem M.Fields.setN (s : M) {k : Nat} (n : Nat) {l : List Nat} (h : k ∈ l) : s.Fields (s.setN k n) l :=
  ⟨rfl, fun _ hj => M.reg_setN_ne s n fun e => hj (e ▸ h)⟩

theorem M.Fields.breakSlot (s : M) {state verdict : Nat} {l : List Nat} (h1 : state ∈ l) (h2 : verdict ∈ l) : s.Fields (s.breakSlot state verdict) l := by
  unfold M.breakSlot
  split
  · exact (M.Fields.setN s 4 h1).trans (.setN _ 2 h2)
  · exact .refl s l

theorem M.Fields.ite {s t u : M} {l : List Nat} {c : Prop} [Decidable c] (h : s.Fields t l) (g : s.Fields u l) : s.Fields (if c then t else u) l := by
  split
  · exact h
  · exact g

/-- Downloads that break off change the states and verdicts of slots, and whom they came from (R126, R407). -/
theorem M.breakLoads_eq (s : M) (all : Bool) (closed : Nat → Bool) : ∃ u i f, s.Fields u slotKeys ∧
    s.breakLoads all closed = { u with store := { u.store with imageFrom := i, fwFrom := f } } := by
  have step (u : M) {a b c d : Nat} (p q : Prop) [Decidable p] [Decidable q] (ha : a ∈ slotKeys) (hb : b ∈ slotKeys) (hc : c ∈ slotKeys)
      (hd : d ∈ slotKeys) : u.Fields (if q then (if p then u.breakSlot a b else u).breakSlot c d else if p then u.breakSlot a b else u) slotKeys := by
    have h := M.Fields.ite (c := p) (.breakSlot u ha hb) (.refl u slotKeys)
    exact .ite (h.trans (.breakSlot _ hc hd)) h
  exact ⟨_, _, _, (step s _ _ (by decide) (by decide) (by decide) (by decide)).trans (step _ _ _ (by decide) (by decide) (by decide) (by decide)), rfl⟩

/-- Without a download of a session none breaks off. -/
theorem M.breakLoads_none (s : M) (closed : Nat → Bool) (hi : s.store.imageFrom = none) (hf : s.store.fwFrom = none) : s.breakLoads false closed = s := by
  simp only [M.breakLoads, hi, hf, Option.any_none, Bool.or_self, Bool.false_eq_true, if_false]
  rfl

/-- The module with sessions gone, their requests that wait with them, before their downloads break off (R330, R332). -/
def M.dropped (s : M) (which : Session → Bool) (st : Nat) : M :=
  s.answering (s.net.sessions.filter fun x => !which x)
    (s.net.queue.filter fun q => !(match q.req with
      | some r => (s.net.sessions.filter which).any fun x => x.id == r.sess
      | none => false))
    (s.out ++ (s.net.sessions.filter which).map fun x => .closed x.id st)

theorem M.foldl_closed (l : List Session) (st : Nat) (s : M) :
    l.foldl (init := s) (fun s x => s.emit (.closed x.id st)) = { s with out := s.out ++ l.map fun x => .closed x.id st } := by
  rw [← M.foldl_emit, List.foldl_map]

/-- Sessions closed: beside what `dropped` says, at most registers of slots and the origins of downloads change (R126). -/
theorem M.dropSessions_eq (s : M) (which : Session → Bool) (st : Nat) : ∃ fs i f, (∀ k, k ∉ slotKeys → getField fs k = s.reg k) ∧
    s.dropSessions which st = { s.dropped which st with fields := fs, store := { s.store with imageFrom := i, fwFrom := f } } := by
  obtain ⟨u, i, f, ⟨hu, hk⟩, h⟩ := M.breakLoads_eq { s with out := s.out ++ (s.net.sessions.filter which).map fun x => .closed x.id st } false
    fun id => (s.net.sessions.filter which).any fun x => x.id == id
  refine ⟨u.fields, i, f, hk, ?_⟩
  unfold M.dropSessions
  simp only [M.foldl_closed]
  rw [h, hu]
  rfl

@[simp] theorem M.dropSessions_mem (s : M) (which : Session → Bool) (st : Nat) : (s.dropSessions which st).mem = s.mem := by
  obtain ⟨_, _, _, -, h⟩ := s.dropSessions_eq which st; rw [h]; rfl
@[simp] theorem M.dropSessions_log (s : M) (which : Session → Bool) (st : Nat) : (s.dropSessions which st).log = s.log := by
  obtain ⟨_, _, _, -, h⟩ := s.dropSessions_eq which st; rw [h]; rfl
theorem M.dropSessions_net (s : M) (which : Session → Bool) (st : Nat) : (s.dropSessions which st).net = (s.dropped which st).net := by
  obtain ⟨_, _, _, -, h⟩ := s.dropSessions_eq which st; rw [h]
theorem M.dropSessions_out (s : M) (which : Session → Bool) (st : Nat) :
    (s.dropSessions which st).out = s.out ++ (s.net.sessions.filter which).map fun x => .closed x.id st := by
  obtain ⟨_, _, _, -, h⟩ := s.dropSessions_eq which st; rw [h]; rfl
theorem M.reg_dropSessions (s : M) (which : Session → Bool) (st : Nat) {k : Nat} (h : k ∉ slotKeys) : (s.dropSessions which st).reg k = s.reg k := by
  obtain ⟨_, _, _, hk, e⟩ := s.dropSessions_eq which st; rw [e]; exact hk k h

/-- Sessions closed with no download of a session in progress. -/
theorem M.dropSessions_none (s : M) (which : Session → Bool) (st : Nat) (hi : s.store.imageFrom = none) (hf : s.store.fwFrom = none) :
    s.dropSessions which st = s.dropped which st := by
  unfold M.dropSessions
  simp only [M.foldl_closed]
  rw [M.breakLoads_none { s with out := s.out ++ (s.net.sessions.filter which).map fun x => .closed x.id st } _ hi hf]
  rfl

/-- No session of a number is left once those of that number are gone. -/
theorem M.session_dropped (s : M) (r : Req) (st : Nat) : (s.dropped (fun z => z.id == r.sess) st).session r = none := by
  rw [M.session, List.find?_eq_none]
  intro x hx
  have := (List.mem_filter.1 hx).2
  simpa using this

end Sys2Proof.Machine
end

section
/-! PROOFS. How a request of the host is judged on receipt (R12, R332, R412, R413). -/

namespace Sys2Proof.Machine

/-! ### Answers and refusals -/

/-- An effect that leaves the queue of events as raising an event does raises it once. -/
theorem M.Raised.of_log {s u : M} {f : M → M} {e : Event} (h : s.aon.powered = true) (hf : (f s.begun).log = (u.hw e).log)
    (hq : u.log.queue = s.log.queue) (hd : u.domainOn 1 = s.domainOn 1) (hs : u.stroke = s.stroke) (hw : u.wall = s.wall) : s.Raised (s.perform f) e := by
  intro h1 h2
  refine ⟨{ event := e, stroke := u.stroke, wall := u.wall, qual := u.nat F.wallQualQuality, kind := u.kindOf e.code }, ?_, rfl, hs, hw⟩
  rw [M.perform_on s f h, M.settle_log, hf, M.hw_queue u e (hd.trans h1) (by rw [hq]; exact h2), hq]

/-- An effect that raises an event and changes sessions, their waiting requests and what leaves the module changes nothing else. -/
theorem M.Only.perform_answering {s : M} {f : M → M} {ss ss' : List Session} {q q' : List HostReq} {o o' : List Out} {e : Event}
    (hp : s.aon.powered = true) (hf : f s.begun = ((s.begun.answering ss' q' o').hw e).answering ss q o) :
    (s.answering (s.perform f).net.sessions (s.perform f).net.queue (s.perform f).out).Only (s.perform f) [] := by
  have hl := M.Logs.perform f s hp
  rw [hf] at hl
  have hu := (M.Only.hw (s.begun.answering ss' q' o') e).answering ss q o
  rw [hl.net_eq, hl.out_eq]
  exact (((M.Only.begun (s.answering ss q o)).trans hu).trans hl.only).mono (by simp)

/-- A command whose own effect raises an event and changes sessions, their waiting requests and what leaves the module, and nothing else. -/
theorem runs_answering {c : Instr} {s : State} {f : M → M} {ss ss' : List Session} {q q' : List HostReq} {o o' : List Out} {e : Event}
    (h : exec c s = runM f s) (hp : s.m.aon.powered = true) (hf : f s.m.begun = ((s.m.begun.answering ss' q' o').hw e).answering ss q o) :
    Runs c s fun t => s.m.Raised t e ∧ (s.m.answering ss q o).Only t [] ∧ t.net.sessions = ss ∧ t.net.queue = q ∧ t.out = o := by
  have hl := M.Logs.perform f s.m hp
  have hss : (s.m.perform f).net.sessions = ss := by rw [hl.net_eq, hf]; rfl
  have hq : (s.m.perform f).net.queue = q := by rw [hl.net_eq, hf]; rfl
  have ho : (s.m.perform f).out = o := by rw [hl.out_eq, hf]; rfl
  refine runs_of h ⟨M.Raised.of_log (u := s.m.begun.answering ss' q' o') hp (by rw [hf, M.answering_log]) rfl rfl rfl rfl, ?_, hss, hq, ho⟩
  have hon := M.Only.perform_answering hp hf
  rwa [hss, hq, ho] at hon

/-- A request received: its place stands last in its session. -/
def M.received (s : M) (r : Req) : M := s.updSession r.sess Session.queued

/-- The event of a refused request (R12, R418). -/
def refusedRequest (code st : Nat) (x : Session) : Event := ev 0x0070 0x1080 code st x.principal.toNat

theorem M.session_received {s : M} {r : Req} {x : Session} (h : s.session r = some x) : (s.received r).session r = some x.queued := by
  rw [M.received, M.session_updSession s r Session.queued fun _ => rfl, h]; rfl

/-- A refusal of a request just received in a session that stays open. -/
theorem M.refuse_received {s : M} {r : Req} {x : Session} (h : s.session r = some x) (hc : x.closing = false) (code st : Nat) :
    (s.received r).refuse r x code st = ((s.received r).hw (refusedRequest code st x)).sent r x.queued (.reply r st []) := by
  have hs : ((s.received r).hw (refusedRequest code st x)).session r = some x.queued :=
    (M.session_congr (M.hw_net ..) r).trans (M.session_received h)
  exact M.send_open hs hc _

/-- The only reply of a session leaves at once. -/
theorem Session.flush_only {x : Session} {r : Req} (ho : x.order = []) (hr : x.ready = []) (h : r.place = 0) (o : Out) : x.queued.flush r o = ([o], [], []) := by
  simp [Session.flush, Session.queued, Session.nextPlace, Session.answers, flushReady, ho, hr, h]

/-- A place taken and given back leaves the sessions as they were, where each has its own number. -/
theorem sessions_answered {l : List Session} {id : Nat} {x : Session} (hu : ∀ y ∈ l, y.id = id → y = x) (ho : x.order = []) (hr : x.ready = []) :
    ((l.map fun y => if y.id = id then y.queued else y).map fun y => if y.id = id then y.flushed [] [] else y) = l := by
  rw [List.map_map]
  refine (List.map_congr_left fun y hy => ?_).trans (List.map_id l)
  by_cases h : y.id = id
  · obtain rfl := hu y hy h
    have hid : y.queued.id = id := h
    simp only [Function.comp_apply, if_pos h, if_pos hid]
    cases y
    simp_all [Session.queued, Session.flushed]
  · simp only [Function.comp_apply, if_neg h, id_eq]

/-- A request refused at once: what `Refuses` says. -/
theorem refuses_of {c : Instr} {s : State} {f : M → M} {r : Req} {x : Session} {code st : Nat} (h : exec c s = runM f s) (hp : s.m.aon.powered = true)
    (ha : s.m.Asks r x) (hf : f s.m.begun = (s.m.begun.received r).refuse r x code st) : Refuses c s r x code st := by
  obtain ⟨hs, ho, hr, -, hc, -, hpl⟩ := ha
  rw [M.refuse_received (s := s.m.begun) hs hc, M.sent, Session.flush_only ho hr hpl, M.hw_net, M.hw_out] at hf
  refine (runs_answering h hp hf).mono fun t ⟨hev, hon, hss, _, _⟩ => ⟨⟨?_, fun y hy hu => ?_⟩, hev⟩
  · rw [hss]; exact hon
  · obtain rfl : x = y := Option.some.inj (hs.symm.trans hy)
    rw [hss]
    exact sessions_answered hu ho hr

/-! ### The order of judgement (R413) -/

section
variable {s : M} {r : Req} {x : Session} {code : Nat} {least : Option Nat} {go : Session → M → M}

/-- Without its session, in RESET and in a session that closes, a request has no effect. -/
theorem M.receive_dropped (h : s.session r = none ∨ s.mode = 0 ∨ (s.session r).any (·.closing) = true) : s.receive r code least go = s := by
  unfold M.receive
  cases hs : s.session r with
  | none => rfl
  | some y =>
    rw [hs] at h
    simp only [reduceCtorEq, false_or, Option.any_some] at h
    exact if_pos h

variable (hs : s.session r = some x) (hm : s.mode ≠ 0) (hc : x.closing = false)
include hs hm hc

theorem M.receive_malformed (hh : headerOk r = false) : s.receive r code least go = s.malformed r x code := by
  simp [M.receive, hs, hm, hc, hh]

theorem M.receive_busy (hh : headerOk r = true) (ho : 8 ≤ x.order.length) : s.receive r code least go = (s.received r).refuse r x code 3 := by
  simp only [M.receive, hs, hm, hc, hh, ho, decide_true, Bool.false_eq_true, or_self, if_false, Bool.not_true, if_true]
  rfl

/-- Below the role that it asks for, a request is refused NOT_AUTHORISED. -/
theorem M.receive_low {n : Nat} (hh : headerOk r = true) (ho : x.order.length < 8) (hl : x.auth = false ∨ x.role < n) :
    s.receive r code (some n) go = (s.received r).refuse r x code 5 := by
  have hlow : (!x.auth || decide (x.role < n)) = true := by simpa using hl
  simp only [M.receive, hs, hm, hc, hh, show ¬8 ≤ x.order.length by omega, hlow, decide_false, Bool.false_eq_true, or_self, if_false, Bool.not_true, if_true]
  rfl

/-- An unauthenticated session may give a command that asks for no role. -/
theorem M.receive_any (hh : headerOk r = true) (ho : x.order.length < 8) : s.receive r code none go = go x (s.received r) := by
  simp only [M.receive, hs, hm, hc, hh, show ¬8 ≤ x.order.length by omega, decide_false, Bool.false_eq_true, or_self, if_false, Bool.not_true]
  rfl

theorem M.receive_may {n : Nat} (hh : headerOk r = true) (ho : x.order.length < 8) (hl : x.May n) :
    s.receive r code (some n) go = go x (s.received r) := by
  obtain ⟨ha, hn⟩ := hl
  simp only [M.receive, hs, hm, hc, hh, show ¬8 ≤ x.order.length by omega, ha, show ¬x.role < n by omega, decide_false, Bool.false_eq_true, or_self,
    if_false, Bool.not_true]
  rfl

end

/-- A command judged on receipt: WRONG_MODE before WRONG_ROLE. -/
theorem M.judge_wrong {s : M} {r : Req} {x : Session} {code least : Nat} {modes roles : List Nat} {go : Session → M → M} (ha : s.Asks r x)
    (hl : x.May least) {st : Nat} (hst : st ≠ 0) (h : (if s.mode ∉ modes then 1 else if s.role ∉ roles then 2 else 0) = st) :
    s.judge r code least modes roles go = (s.received r).refuse r x code st := by
  obtain ⟨hs, ho, -, hm, hc, hh, -⟩ := ha
  subst h
  rw [M.judge, M.receive_may hs hm hc hh (by simp [ho]) hl]
  have hmode : (s.received r).mode = s.mode := rfl
  have hrole : (s.received r).role = s.role := rfl
  simp only [hmode, hrole, Bool.not_eq_true', List.contains_eq_mem, decide_eq_false_iff_not]
  exact if_neg hst

/-! ### Malformed headers (R332) -/

/-- The session of a malformed request: its place stands last, and with that reply the session goes. -/
def Session.lastQueued (x : Session) : Session := { x.queued with closing := true }

/-- The module with a malformed request received and COMMAND_REFUSED raised. -/
def M.malformedNoted (s : M) (r : Req) (x : Session) (code : Nat) : M := (s.updSession r.sess Session.lastQueued).hw (refusedRequest code 26 x)

theorem M.malformed_eq (s : M) {r : Req} (x : Session) (code : Nat) (h : r.place = 0) :
    s.malformed r x code = (s.malformedNoted r x code).send r (.reply r 26 []) := by
  cases r
  subst h
  rfl

theorem M.session_malformedNoted {s : M} {r : Req} {x : Session} (h : s.session r = some x) (code : Nat) :
    (s.malformedNoted r x code).session r = some x.lastQueued := by
  rw [M.malformedNoted, M.session_congr (M.hw_net ..), M.session_updSession s r Session.lastQueued fun _ => rfl, h]; rfl

/-- With no request unanswered, the reply leaves at once and the session closes. -/
theorem M.malformed_closes {s : M} {r : Req} {x : Session} (hs : s.session r = some x) (ho : x.order = []) (hr : x.ready = []) (hpl : r.place = 0)
    (code : Nat) : s.malformed r x code = ((s.malformedNoted r x code).sent r x.lastQueued (.reply r 26 [])).dropSessions (fun z => z.id == r.sess) 0 := by
  have hf : x.lastQueued.flush r (.reply r 26 []) = ([.reply r 26 []], [], []) := Session.flush_only ho hr hpl _
  have hid : x.lastQueued.id = r.sess := (M.session_id hs : x.id = r.sess)
  rw [M.malformed_eq s x code hpl, M.send_eq (M.session_malformedNoted hs code), hf, hid]
  rfl

/-- What a malformed request does in a session with none unanswered: its reply and event, and the session closes. -/
def M.ClosedMalformed (s t : M) (r : Req) (x : Session) (code : Nat) : Prop :=
  s.Raised t (refusedRequest code 26 x) ∧ (.reply r 26 []) ∈ t.out ∧ t.session r = none ∧ t.mem = s.mem ∧ t.mode = s.mode ∧ t.role = s.role ∧
  (s.store.imageFrom = none → s.store.fwFrom = none → (s.answering t.net.sessions t.net.queue t.out).Only t [])

theorem runs_malformed {c : Instr} {s : State} {f : M → M} {r : Req} {x : Session} {code : Nat} (h : exec c s = runM f s) (hp : s.m.aon.powered = true)
    (hs : s.m.session r = some x) (ho : x.order = []) (hr : x.ready = []) (hpl : r.place = 0) (hf : f s.m.begun = s.m.begun.malformed r x code) :
    Runs c s fun t => s.m.ClosedMalformed t r x code := by
  rw [M.malformed_closes (s := s.m.begun) hs ho hr hpl] at hf
  have hl := M.Logs.perform f s.m hp
  have hreg (k : Nat) (h1 : reportField k = false) (h2 : k ∉ slotKeys) : (s.m.perform f).reg k = s.m.reg k := by
    rw [M.reg_perform s.m f hp h1, hf, M.reg_dropSessions _ _ _ h2]
    rw [M.sent, M.answering_reg, M.malformedNoted, M.reg_hw _ _ h1]
    rfl
  have hflush : x.lastQueued.flush r (.reply r 26 []) = ([.reply r 26 []], [], []) := Session.flush_only ho hr hpl _
  refine runs_of h ⟨?_, ?_, ?_, ?_, ?_, ?_, fun hi hw => ?_⟩
  · refine M.Raised.of_log (u := s.m.begun.updSession r.sess Session.lastQueued) hp ?_ rfl rfl rfl rfl
    rw [hf, M.dropSessions_log, M.sent, M.answering_log, M.malformedNoted]
  · rw [hl.out_eq, hf, M.dropSessions_out]
    simp [M.sent, M.answering, hflush]
  · rw [M.session_congr (hl.net_eq.trans ((congrArg M.net hf).trans (M.dropSessions_net ..)))]
    exact M.session_dropped _ r 0
  · rw [hl.mem_eq, hf, M.dropSessions_mem, M.sent, M.answering_mem, M.malformedNoted, M.hw_mem]
    rfl
  · exact congrArg BitVec.toNat (hreg _ (by decide) (by decide))
  · exact congrArg BitVec.toNat (hreg _ (by decide) (by decide))
  · have hst : ((s.m.begun.malformedNoted r x code).sent r x.lastQueued (.reply r 26 [])).store = s.m.store := by
      rw [M.sent, M.answering_store, M.malformedNoted, M.hw_store]
      rfl
    rw [M.dropSessions_none _ _ _ ((congrArg Store.imageFrom hst).trans hi) ((congrArg Store.fwFrom hst).trans hw)] at hf
    rw [M.dropped, M.sent, M.answering_answering, M.malformedNoted, M.updSession_eq_answering] at hf
    exact M.Only.perform_answering hp hf

/-- With one request unanswered, the reply of a malformed one waits for its turn, and the session closes with it. -/
theorem M.malformed_waits {s : M} {r : Req} {x : Session} {k : Nat} (hs : s.session r = some x) (ho : x.order = [k]) (hr : x.ready = []) (hpl : r.place = 0)
    (code : Nat) : x.lastQueued.flush r (.reply r 26 []) = ([], [k, k + 1], [(k + 1, .reply r 26 [])]) ∧
      s.malformed r x code = (s.malformedNoted r x code).sent r x.lastQueued (.reply r 26 []) := by
  have hf : x.lastQueued.flush r (.reply r 26 []) = ([], [k, k + 1], [(k + 1, .reply r 26 [])]) := by
    simp [Session.flush, Session.lastQueued, Session.queued, Session.nextPlace, Session.answers, flushReady, ho, hr, hpl]
  refine ⟨hf, ?_⟩
  rw [M.malformed_eq s x code hpl, M.send_eq (M.session_malformedNoted hs code), hf]
  rfl

theorem runs_malformed_waits {c : Instr} {s : State} {f : M → M} {r : Req} {x : Session} {code k : Nat} (h : exec c s = runM f s)
    (hp : s.m.aon.powered = true) (hs : s.m.session r = some x) (ho : x.order = [k]) (hr : x.ready = []) (hpl : r.place = 0)
    (hf : f s.m.begun = s.m.begun.malformed r x code) : Runs c s fun t => s.m.Raised t (refusedRequest code 26 x) ∧ t.out = s.m.out ∧
      t.session r = some { x with order := [k, k + 1], ready := [(k + 1, .reply r 26 [])], closing := true } := by
  obtain ⟨hflush, hw⟩ := M.malformed_waits (s := s.m.begun) hs ho hr hpl code
  rw [hw] at hf
  have hl := M.Logs.perform f s.m hp
  refine runs_of h ⟨M.Raised.of_log (u := s.m.begun.updSession r.sess Session.lastQueued) hp ?_ rfl rfl rfl rfl, ?_, ?_⟩
  · rw [hf, M.sent, M.answering_log, M.malformedNoted]
  · rw [hl.out_eq, hf, M.sent, hflush, List.append_nil, M.malformedNoted, M.hw_out]
    rfl
  · rw [M.session_congr (hl.net_eq.trans (congrArg M.net hf)), M.session_sent (M.session_malformedNoted (s := s.m.begun) hs code), hflush]
    rfl

/-! ### The statement -/

/-- A command received as a request of this code, for a role or open to every session. -/
def Receives (c : Instr) (r : Req) (code : Nat) (least : Option Nat) : Prop :=
  ∃ go, ∀ s, exec c s = runM (fun m => m.receive r code least go) s

/-- A command judged on receipt by role, mode and role of the module. -/
def Judges (c : Instr) (r : Req) (code least : Nat) (modes roles : List Nat) : Prop :=
  ∃ go, ∀ s, exec c s = runM (fun m => m.judge r code least modes roles go) s

theorem Judges.receives {c : Instr} {r : Req} {code least : Nat} {modes roles : List Nat} (h : Judges c r code least modes roles) :
    Receives c r code (some least) := by
  obtain ⟨go, h⟩ := h
  exact ⟨_, h⟩

section
variable {c : Instr} {s : State} {r : Req} {x : Session} {code : Nat} {least : Option Nat}

theorem Receives.dropped (h : Receives c r code least) (hp : s.m.aon.powered = true)
    (hd : s.m.session r = none ∨ s.m.mode = 0 ∨ (s.m.session r).any (·.closing) = true) : Runs c s fun t => s.m.Only t [] ∧ s.m.Silent t := by
  obtain ⟨go, h⟩ := h
  exact runs_same (h s) hp (M.receive_dropped (s := s.m.begun) hd)

theorem Receives.malformed (h : Receives c r code least) (hp : s.m.aon.powered = true) (hs : s.m.session r = some x) (hm : s.m.mode ≠ 0)
    (hc : x.closing = false) (hh : headerOk r = false) (ho : x.order = []) (hr : x.ready = []) (hpl : r.place = 0) :
    Runs c s fun t => s.m.ClosedMalformed t r x code := by
  obtain ⟨go, h⟩ := h
  exact runs_malformed (h s) hp hs ho hr hpl (M.receive_malformed (s := s.m.begun) hs hm hc hh)

/-- Beyond 8 unanswered requests a further one is BUSY: sessions and replies alone change. -/
theorem Receives.busy (h : Receives c r code least) (hp : s.m.aon.powered = true) (hs : s.m.session r = some x) (hm : s.m.mode ≠ 0)
    (hc : x.closing = false) (hh : headerOk r = true) (ho : 8 ≤ x.order.length) :
    Runs c s fun t => s.m.Raised t (refusedRequest code 3 x) ∧ (s.m.answering t.net.sessions s.m.net.queue t.out).Only t [] := by
  obtain ⟨go, h⟩ := h
  have hf := M.receive_busy (s := s.m.begun) (code := code) (least := least) (go := go) hs hm hc hh ho
  rw [M.refuse_received (s := s.m.begun) hs hc, M.sent, M.hw_net, M.received, M.updSession_eq_answering] at hf
  refine (runs_answering (h s) hp hf).mono fun t ⟨hev, hon, hss, _, hout⟩ => ⟨hev, ?_⟩
  rw [hss, hout]
  exact hon

theorem Receives.low {n : Nat} (h : Receives c r code (some n)) (hp : s.m.aon.powered = true) (ha : s.m.Asks r x) (hl : x.auth = false ∨ x.role < n) :
    Refuses c s r x code 5 := by
  obtain ⟨go, h⟩ := h
  obtain ⟨hs, ho, -, hm, hc, hh, -⟩ := id ha
  exact refuses_of (h s) hp ha (M.receive_low (s := s.m.begun) hs hm hc hh (by simp [ho]) hl)

theorem Judges.wrong {n : Nat} {modes roles : List Nat} (h : Judges c r code n modes roles) (hp : s.m.aon.powered = true) (ha : s.m.Asks r x)
    (hl : x.May n) {st : Nat} (hst : st ≠ 0) (hw : (if s.m.mode ∉ modes then 1 else if s.m.role ∉ roles then 2 else 0) = st) : Refuses c s r x code st := by
  obtain ⟨go, h⟩ := h
  exact refuses_of (h s) hp ha (M.judge_wrong (s := s.m.begun) ha hl hst hw)

/-- A code that is no command is UNKNOWN to every session (R332). -/
theorem unknownCommand_refuses {n : Nat} (hp : s.m.aon.powered = true) (ha : s.m.Asks r x) : Refuses (.unknownCommand r n) s r x n 27 := by
  obtain ⟨hs, ho, -, hm, hc, hh, -⟩ := id ha
  exact refuses_of rfl hp ha (M.receive_any (s := s.m.begun) hs hm hc hh (by simp [ho]))

end

/-- MALFORMED_HEADER without its session, in RESET and in a session that closes. -/
theorem malformedHeader_dropped {m : M} {r : Req} (n : Nat) (h : m.session r = none ∨ m.mode = 0 ∨ (m.session r).any (·.closing) = true) :
    malformedHeader r n m = m := by
  unfold malformedHeader
  cases hs : m.session r with
  | none => rfl
  | some y =>
    rw [hs] at h
    simp only [reduceCtorEq, false_or, Option.any_some] at h
    exact if_pos h

theorem malformedHeader_judged {m : M} {r : Req} {x : Session} (n : Nat) (hs : m.session r = some x) (hm : m.mode ≠ 0) (hc : x.closing = false) :
    malformedHeader r n m = m.malformed r x n := by
  simp [malformedHeader, hs, hm, hc]

/-- A request that waits for the cut is received as its command's code (R414). -/
theorem Receives.commit {c : Instr} {r : Req} (cmd : HostCmd) {least : Nat} (h : ∀ s, exec c s = runM (fun m => m.hostCommit r least cmd) s) :
    Receives c r cmd.code (some least) := ⟨_, h⟩

/-- Settles O54: every command of the host is received, or judged, with its own code, roles and modes, and `M.receive` judges in the order of R413. -/
theorem hostJudgement : Obligations.HostJudgement := by
  intro s r x n a b w d bs l ws e ok z le hp m every going any own now later all open_
  have hnow : ∀ p ∈ now, Judges p.1 r p.2.1 p.2.2.1 p.2.2.2.1 p.2.2.2.2 := by
    simp only [now, List.forall_mem_cons, List.not_mem_nil, false_imp_iff, implies_true, and_true]
    and_intros <;> exact ⟨_, fun _ => rfl⟩
  have hlater : ∀ p ∈ later, Receives p.1 r p.2.1 (some p.2.2) := by
    simp only [later, List.forall_mem_cons, List.not_mem_nil, false_imp_iff, implies_true, and_true]
    exact ⟨.commit (.varWrite _) fun _ => rfl, .commit .run fun _ => rfl, .commit .stop fun _ => rfl, .commit .safe fun _ => rfl, .commit .ack fun _ => rfl,
      .commit .hold fun _ => rfl, .commit (.forceSet ..) fun _ => rfl, .commit (.forceClear _) fun _ => rfl, .commit (.online ..) fun _ => rfl,
      ⟨_, fun _ => rfl⟩, .commit (.loop ..) fun _ => rfl, .commit (.loop ..) fun _ => rfl, .commit (.loop ..) fun _ => rfl,
      .commit (.loop ..) fun _ => rfl, .commit (.loop ..) fun _ => rfl, .commit (.loop ..) fun _ => rfl, .commit (.hartPass ..) fun _ => rfl,
      .commit .detach fun _ => rfl, .commit .switchover fun _ => rfl⟩
  have hall : ∀ p ∈ all, Receives p.1 r p.2.1 (some p.2.2) := by
    intro p h
    rcases List.mem_append.1 h with h | h
    · obtain ⟨q, hq, rfl⟩ := List.mem_map.1 h
      exact (hnow q hq).receives
    · exact hlater p h
  have hopen : ∀ p ∈ open_, ∃ least, Receives p.1 r p.2 least := by
    intro p h
    rcases List.mem_append.1 h with h | h
    · obtain ⟨q, hq, rfl⟩ := List.mem_map.1 h
      exact ⟨_, hall q hq⟩
    · simp only [List.mem_cons, List.not_mem_nil, or_false] at h
      rcases h with rfl | rfl
      · exact ⟨none, _, fun _ => rfl⟩
      · exact ⟨none, _, fun _ => rfl⟩
  have gone (x' : Session) (h : m.session r = some x') (hc : x'.closing = true) : (m.session r).any (·.closing) = true := by rw [h]; exact hc
  refine ⟨fun p hm => ?_, fun ha hl p hm => ?_, fun ha _ p hm hl => ?_, fun ha p hm hl => ?_, fun ha => ?_, fun hs => ?_, fun hd => ?_, ?_, ?_⟩
  · obtain ⟨least, hr⟩ := hopen p hm
    refine ⟨fun hd => ?_, fun hs hc => ?_, fun hs hm hc hh ho hr' hpl => ?_, fun hs hm hc hh hpl ho => ?_⟩
    · exact hr.dropped hp (hd.imp_right .inl)
    · exact hr.dropped hp (.inr (.inr (gone x hs hc)))
    · exact (hr.malformed hp hs hm hc hh ho hr' hpl).mono fun t ⟨h1, h2, h3, h4, h5, _⟩ => ⟨h1, h2, h3, h4, h5⟩
    · exact hr.busy hp hs hm hc hh ho
  · refine (hall p hm).low hp ha (.inl ?_)
    simpa [Session.May] using hl
  · exact (hall p hm).low hp ha (.inr hl)
  · exact ⟨fun hmode => (hnow p hm).wrong hp ha hl (by decide) (if_pos hmode),
      fun hmode hrole => (hnow p hm).wrong hp ha hl (by decide) (by rw [if_neg (not_not_intro hmode), if_pos hrole])⟩
  · exact unknownCommand_refuses hp ha
  · exact runs_same rfl hp (malformedHeader_dropped (m := m.begun) n (.inl hs))
  · refine runs_same rfl hp (malformedHeader_dropped (m := m.begun) n ?_)
    rcases hd with hd | ⟨hs, hc⟩
    · exact .inr (.inl hd)
    · exact .inr (.inr (gone x hs hc))
  · intro hs hm hc hpl ho hr
    exact runs_malformed rfl hp hs ho hr hpl (malformedHeader_judged (m := m.begun) n hs hm hc)
  · intro k hs hm hc hpl ho hr
    exact runs_malformed_waits rfl hp hs ho hr hpl (malformedHeader_judged (m := m.begun) n hs hm hc)

end Sys2Proof.Machine
end

section
/-! PROOFS. Modbus requests: in which order their exceptions are judged, and whether a request is answered at once or waits for a snapshot (R21, R94, R319 to R324). -/

namespace Sys2Proof.Machine

/-! ### The order of the exceptions (R320) -/

theorem firstEx_zero (l : List Nat) : firstEx (0 :: l) = firstEx l := if_pos rfl

theorem firstEx_of_ne {x : Nat} (h : x ≠ 0) (l : List Nat) : firstEx (x :: l) = x := if_neg h

theorem M.mbRange_or (s : M) (fn start n : Nat) : s.mbRange fn start n = 0 ∨ s.mbRange fn start n = 2 := by
  unfold M.mbRange
  split
  · exact .inr rfl
  · exact .inl rfl

/-- The exception of a read: its quantity first, then its range. -/
theorem firstEx_read (n most range : Nat) : firstEx [if n = 0 ∨ n > most then 3 else 0, range] = if n = 0 ∨ most < n then 3 else range := by
  by_cases h : n = 0 ∨ most < n
  · rw [if_pos h, if_pos h, firstEx_of_ne (by decide)]
  · rw [if_neg h, if_neg h, firstEx_zero]
    by_cases hr : range = 0
    · rw [hr]; rfl
    · exact firstEx_of_ne hr _

/-! ### Answers, counted in MB_STAT (R320) -/

/-- MB_STAT after the answer to one request. -/
def M.mbCounted (s : M) (ex : Nat) : M :=
  if ex = 0 then s.wrap F.mbStatRequests 16 1 else (s.wrap F.mbStatRequests 16 1).bump F.mbStatExceptions 4095 1

/-- The answer to a read and to a request with an exception. -/
theorem M.mbReply_eq (s : M) {w : MbWrite} (h : w.ex ≠ 0 ∨ w.fn < 5 ∧ w.readPart = none) :
    s.mbReply w = (s.emit (.modbus w.conn w.tag w.unit w.fn w.ex (if w.ex = 0 then s.mbRead w.fn w.start w.values.length else []))).mbCounted w.ex := by
  unfold M.mbReply M.mbCounted
  by_cases hx : w.ex = 0
  · obtain ⟨hf, hp⟩ := h.resolve_left (not_not_intro hx)
    simp only [hx, hf, hp, if_true]
    rfl
  · simp only [hx, if_false]
    rfl

theorem M.mbCounted_begun (s : M) (ex : Nat) : s.begun.mbCounted ex = (s.mbCounted ex).begun := by
  unfold M.mbCounted
  split <;> rfl

theorem M.mbCounted_log (s : M) (ex : Nat) : (s.mbCounted ex).log = s.log := by
  unfold M.mbCounted
  split <;> rfl

theorem M.mbCounted_aon (s : M) (ex : Nat) : (s.mbCounted ex).aon = s.aon := by
  unfold M.mbCounted
  split <;> rfl

theorem M.Only.mbCounted (s : M) (ex : Nat) : s.Only (s.mbCounted ex) [F.mbStatRequests, F.mbStatExceptions] := by
  have hreq : s.Only (s.wrap F.mbStatRequests 16 1) [F.mbStatRequests] := .setN s _ _
  unfold M.mbCounted
  split
  · exact hreq.mono (by simp)
  · exact hreq.trans (.bump _ _ _ _)

theorem M.nat_mbCounted_requests (s : M) (ex : Nat) : (s.mbCounted ex).nat F.mbStatRequests = (s.nat F.mbStatRequests + 1) % 65536 := by
  have hreq : (s.wrap F.mbStatRequests 16 1).nat F.mbStatRequests = (s.nat F.mbStatRequests + 1) % 65536 := M.nat_setN_same _ _ _ (by omega)
  unfold M.mbCounted
  split
  · exact hreq
  · rw [M.nat, M.reg_bump_ne _ _ _ (by decide)]
    exact hreq

theorem M.nat_mbCounted_exceptions (s : M) (ex : Nat) :
    (s.mbCounted ex).nat F.mbStatExceptions = if ex = 0 then s.nat F.mbStatExceptions else min 4095 (s.nat F.mbStatExceptions + 1) := by
  have hexc : (s.wrap F.mbStatRequests 16 1).reg F.mbStatExceptions = s.reg F.mbStatExceptions := M.reg_setN_ne _ _ (by decide)
  unfold M.mbCounted
  split
  · exact congrArg BitVec.toNat hexc
  · rw [M.nat, M.reg_bump, if_pos rfl, word_toNat _ (by omega), hexc]
    rfl

/-! ### What a request does -/

/-- The server can take request `r`: P3 is live and the request's connection is open. -/
def M.MbOpen (s : M) (r : MbReq) : Prop := s.p3Live = true ∧ r.conn ∈ s.net.conns

/-- A request waits before `r` on its connection. -/
def M.MbBehind (s : M) (r : MbReq) : Prop := ∃ w ∈ s.net.writes, w.conn = r.conn

/-- A request as the server keeps it. -/
def mbAsked (r : MbReq) (fn ex : Nat) (values : List Nat) (part : Option (Nat × Nat)) : MbWrite :=
  { fn := fn, ex := ex, conn := r.conn, tag := r.tag, start := r.start, values := values, readPart := part, unit := r.unit }

/-- From `s` the command answers request `r` at once, and nothing else happens. -/
def AnswersMb (c : Instr) (s : State) (r : MbReq) (fn ex : Nat) (values : List Nat) : Prop :=
  Runs c s fun t => s.m.Silent t ∧ t.nat F.mbStatRequests = (s.m.nat F.mbStatRequests + 1) % 65536 ∧
    t.nat F.mbStatExceptions = (if ex = 0 then s.m.nat F.mbStatExceptions else min 4095 (s.m.nat F.mbStatExceptions + 1)) ∧
    ({ s.m with out := s.m.out ++ [.modbus r.conn r.tag r.unit fn ex values] } : M).Only t [F.mbStatRequests, F.mbStatExceptions]

/-- From `s` the command has a request wait, and nothing else happens. -/
def WaitsMb (c : Instr) (s : State) (w : MbWrite) : Prop :=
  Runs c s fun t => s.m.Silent t ∧ ({ s.m with net := { s.m.net with writes := s.m.net.writes ++ [w] } } : M).Only t []

theorem M.mbQueue_waits {s : M} {r : MbReq} (ho : s.MbOpen r) {fn ex : Nat} {values : List Nat} {part : Option (Nat × Nat)}
    (h : 5 ≤ fn ∧ ex = 0 ∨ s.MbBehind r) : s.mbQueue (mbAsked r fn ex values part) =
      { s with net := { s.net with writes := s.net.writes ++ [mbAsked r fn ex values part] } } := by
  obtain ⟨hl, hc⟩ := ho
  have hw : (decide (fn ≥ 5) && ex == 0 || s.net.writes.any fun x => x.conn == r.conn) = true := by simpa [M.MbBehind] using h
  simp [M.mbQueue, mbAsked, hl, hc, hw]

theorem M.mbQueue_answers {s : M} {r : MbReq} (ho : s.MbOpen r) {fn ex : Nat} {values : List Nat} {part : Option (Nat × Nat)}
    (h : fn < 5 ∨ ex ≠ 0) (hb : ¬s.MbBehind r) : s.mbQueue (mbAsked r fn ex values part) = s.mbReply (mbAsked r fn ex values part) := by
  obtain ⟨hl, hc⟩ := ho
  have hw : (decide (fn ≥ 5) && ex == 0 || s.net.writes.any fun x => x.conn == r.conn) = false := by
    have hnow : (decide (fn ≥ 5) && ex == 0) = false := by simp; omega
    rw [hnow, Bool.false_or]
    simpa [M.MbBehind] using hb
  simp [M.mbQueue, mbAsked, hl, hc, hw]

section
variable {c : Instr} {s : State} {f : M → M} {r : MbReq} {fn ex : Nat} {values : List Nat} {part : Option (Nat × Nat)}
variable (hc : exec c s = runM f s) (hp : s.m.aon.powered = true) (ho : s.m.MbOpen r) (hf : f s.m.begun = s.m.begun.mbQueue (mbAsked r fn ex values part))
include hc hp ho hf

theorem waitsMb_of (h : 5 ≤ fn ∧ ex = 0 ∨ s.m.MbBehind r) : WaitsMb c s (mbAsked r fn ex values part) := by
  rw [M.mbQueue_waits (s := s.m.begun) ho h] at hf
  let u : M := { s.m with net := { s.m.net with writes := s.m.net.writes ++ [mbAsked r fn ex values part] } }
  exact (runs_quiet (u := u) hc hp hf rfl rfl rfl).mono fun t ⟨hon, hs⟩ => ⟨hs, hon⟩

theorem answersMb_of (h : ex ≠ 0 ∨ fn < 5 ∧ part = none) (hb : ¬s.m.MbBehind r) :
    AnswersMb c s r fn ex (if ex = 0 then s.m.mbRead fn r.start values.length else []) := by
  rw [M.mbQueue_answers (s := s.m.begun) ho (h.symm.imp_left And.left) hb, M.mbReply_eq _ h] at hf
  generalize hv : (if ex = 0 then s.m.mbRead fn r.start values.length else []) = vs
  replace hf : f s.m.begun = (s.m.emit (.modbus r.conn r.tag r.unit fn ex vs)).begun.mbCounted ex := by rw [hf, ← hv]; rfl
  rw [M.mbCounted_begun] at hf
  refine (runs_quiet hc hp hf ?_ ?_ ?_).mono fun t ⟨hon, hs⟩ => ⟨hs, ?_, ?_, ?_⟩
  · rw [M.mbCounted_log]; rfl
  · rw [M.mbCounted_aon]; rfl
  · rw [M.mbCounted_aon]; rfl
  · rw [M.nat, hon.2 _ (by decide) (by simp)]
    exact M.nat_mbCounted_requests ..
  · rw [M.nat, hon.2 _ (by decide) (by simp)]
    exact M.nat_mbCounted_exceptions ..
  · exact ((M.Only.mbCounted _ ex).trans hon).mono (by simp)

/-- A request with an exception that has nothing before it. -/
theorem refusesMb_of {x : Nat} (hx : ex = x) (h : x ≠ 0) (hb : ¬s.m.MbBehind r) : AnswersMb c s r fn x [] := by
  subst hx
  have ha := answersMb_of hc hp ho hf (.inl h) hb
  rwa [if_neg h] at ha

end

/-! ### Reads (R321) -/

/-- The exception code of a read of at most `most` elements. -/
def M.mbReadEx (s : M) (fn start most n : Nat) : Nat := if n = 0 ∨ most < n then 3 else s.mbRange fn start n

theorem M.mbReadReq_eq (s : M) {fn most : Nat} (hm : (if mbBits fn then 2000 else 125) = most) (r : MbReq) (n : Nat) :
    s.mbReadReq fn r n = s.mbQueue (mbAsked r fn (s.mbReadEx fn r.start most n) (if s.mbReadEx fn r.start most n = 0 then List.replicate n 0 else []) none) := by
  subst hm
  unfold M.mbReadReq
  simp only [firstEx_read]
  rfl

/-- What a read does. -/
theorem readsMb {c : Instr} {s : State} {r : MbReq} {fn most n : Nat} (h : exec c s = runM (fun m => m.mbReadReq fn r n) s) (hp : s.m.aon.powered = true)
    (ho : s.m.MbOpen r) (hfn : fn < 5) (hm : (if mbBits fn then 2000 else 125) = most) : let ex := s.m.mbReadEx fn r.start most n
    (¬s.m.MbBehind r → AnswersMb c s r fn ex (if ex = 0 then s.m.mbRead fn r.start n else [])) ∧
    (s.m.MbBehind r → WaitsMb c s (mbAsked r fn ex (if ex = 0 then List.replicate n 0 else []) none)) := by
  intro ex
  have hf : s.m.begun.mbReadReq fn r n = s.m.begun.mbQueue (mbAsked r fn ex (if ex = 0 then List.replicate n 0 else []) none) := M.mbReadReq_eq _ hm r n
  refine ⟨fun hb => ?_, fun hb => waitsMb_of h hp ho hf (.inr hb)⟩
  have ha := answersMb_of h hp ho hf (.inr ⟨hfn, rfl⟩) hb
  by_cases hx : ex = 0
  · simpa only [if_pos hx, List.length_replicate] using ha
  · simpa only [if_neg hx] using ha

/-! ### Writes (R21, R94, R322 to R324) -/

/-- Modes and roles in which writes are taken. -/
def M.TakesWrites (s : M) : Prop := s.mode ≠ 1 ∧ (s.role = 0 ∨ s.role = 1 ∨ s.role = 4)

/-- The read part of a request judged as a range of holding registers (R323). -/
def M.mbPartRange (s : M) : Option (Nat × Nat) → Nat
  | some (a, n) => s.mbRange 3 a n
  | none => 0

theorem M.mbPartRange_eq_two {s : M} {part : Option (Nat × Nat)} (h : ∃ a k, part = some (a, k) ∧ s.mbRange 3 a k = 2) : s.mbPartRange part = 2 := by
  obtain ⟨a, k, rfl, h⟩ := h
  exact h

theorem M.mbPartRange_eq_zero {s : M} {part : Option (Nat × Nat)} (h : ∀ a k, part = some (a, k) → s.mbRange 3 a k = 0) : s.mbPartRange part = 0 := by
  cases part with
  | none => rfl
  | some p => exact h p.1 p.2 rfl

/-- The exception code of a write of at most `most` elements whose values need `size` bytes and are `count` in number. -/
def M.mbWriteEx (s : M) (fn start most n size bytes count : Nat) (legal : Bool) (part : Option (Nat × Nat)) : Nat :=
  firstEx [if s.mode = 1 ∨ !ownRoles.contains s.role then 6 else 0, if n = 0 ∨ n > most ∨ bytes ≠ size ∨ count ≠ n ∨ !legal then 3 else 0,
    s.mbRange fn start n, s.mbPartRange part, if (size + 3) / 4 * 4 + 8 > s.aMb then 4 else 0]

theorem M.mbWriteReq_eq (s : M) {fn n size : Nat} (hs : (if mbBits fn then (n + 7) / 8 else 2 * n) = size) (r : MbReq) (most bytes : Nat) (values : List Nat)
    (legal : Bool) (part : Option (Nat × Nat)) : s.mbWriteReq fn r most n bytes values legal part =
      s.mbQueue (mbAsked r fn (s.mbWriteEx fn r.start most n size bytes values.length legal part) values
        (if s.mbWriteEx fn r.start most n size bytes values.length legal part = 0 then part else none)) := by
  subst hs
  cases part <;> rfl

theorem M.takesWrites_iff (s : M) : s.TakesWrites ↔ ¬(s.mode = 1 ∨ (!ownRoles.contains s.role) = true) := by
  have hrole : ownRoles.contains s.role = true ↔ s.role = 0 ∨ s.role = 1 ∨ s.role = 4 := by simp [ownRoles]
  rw [not_or, Bool.not_eq_true', Bool.not_eq_false, hrole]
  rfl

section
variable {s : M} {fn start most n size bytes count : Nat} {legal : Bool} {part : Option (Nat × Nat)}

theorem M.mbWriteEx_barred (h : ¬s.TakesWrites) : s.mbWriteEx fn start most n size bytes count legal part = 6 := by
  rw [M.takesWrites_iff, Classical.not_not] at h
  rw [M.mbWriteEx, if_pos h, firstEx_of_ne (by decide)]

theorem M.mbWriteEx_malformed (h : s.TakesWrites) (hb : n = 0 ∨ n > most ∨ bytes ≠ size ∨ count ≠ n ∨ (!legal) = true) :
    s.mbWriteEx fn start most n size bytes count legal part = 3 := by
  rw [M.mbWriteEx, if_neg (s.takesWrites_iff.1 h), firstEx_zero, if_pos hb, firstEx_of_ne (by decide)]

variable (h : s.TakesWrites) (hb : ¬(n = 0 ∨ n > most ∨ bytes ≠ size ∨ count ≠ n ∨ (!legal) = true))
include h hb

theorem M.mbWriteEx_proper : s.mbWriteEx fn start most n size bytes count legal part =
    firstEx [s.mbRange fn start n, s.mbPartRange part, if (size + 3) / 4 * 4 + 8 > s.aMb then 4 else 0] := by
  rw [M.mbWriteEx, if_neg (s.takesWrites_iff.1 h), firstEx_zero, if_neg hb, firstEx_zero]

theorem M.mbWriteEx_beyond (hr : s.mbRange fn start n = 2 ∨ ∃ a k, part = some (a, k) ∧ s.mbRange 3 a k = 2) :
    s.mbWriteEx fn start most n size bytes count legal part = 2 := by
  rw [M.mbWriteEx_proper h hb]
  rcases s.mbRange_or fn start n with h0 | h2
  · rw [h0, firstEx_zero, M.mbPartRange_eq_two (hr.resolve_left (by omega)), firstEx_of_ne (by decide)]
  · rw [h2, firstEx_of_ne (by decide)]

theorem M.mbWriteEx_within (hr : s.mbRange fn start n = 0) (hq : ∀ a k, part = some (a, k) → s.mbRange 3 a k = 0) :
    s.mbWriteEx fn start most n size bytes count legal part = if (size + 3) / 4 * 4 + 8 > s.aMb then 4 else 0 := by
  rw [M.mbWriteEx_proper h hb, hr, M.mbPartRange_eq_zero hq, firstEx_zero, firstEx_zero]
  split <;> rfl

end

/-- What a write does. -/
theorem writesMb {c : Instr} {s : State} {r : MbReq} {fn most n size bytes : Nat} {values : List Nat} {legal : Bool} {part : Option (Nat × Nat)} {bad : Prop}
    (h : exec c s = runM (fun m => m.mbWriteReq fn r most n bytes values legal part) s) (hp : s.m.aon.powered = true) (ho : s.m.MbOpen r) (hfn : 5 ≤ fn)
    (hs : (if mbBits fn then (n + 7) / 8 else 2 * n) = size)
    (hbad : bad ↔ n = 0 ∨ n > most ∨ bytes ≠ size ∨ values.length ≠ n ∨ (!legal) = true) :
    (¬s.m.TakesWrites → ¬s.m.MbBehind r → AnswersMb c s r fn 6 []) ∧
    (s.m.TakesWrites → bad → ¬s.m.MbBehind r → AnswersMb c s r fn 3 []) ∧
    (s.m.TakesWrites → ¬bad → s.m.mbRange fn r.start n = 2 ∨ (∃ a k, part = some (a, k) ∧ s.m.mbRange 3 a k = 2) → ¬s.m.MbBehind r →
      AnswersMb c s r fn 2 []) ∧
    (s.m.TakesWrites → ¬bad → s.m.mbRange fn r.start n = 0 → (∀ a k, part = some (a, k) → s.m.mbRange 3 a k = 0) →
      (s.m.aMb < (size + 3) / 4 * 4 + 8 → ¬s.m.MbBehind r → AnswersMb c s r fn 4 []) ∧
      ((size + 3) / 4 * 4 + 8 ≤ s.m.aMb → WaitsMb c s (mbAsked r fn 0 values part))) := by
  rw [hbad]
  have hf := M.mbWriteReq_eq s.m.begun hs r most bytes values legal part
  refine ⟨fun hown => ?_, fun hown hb => ?_, fun hown hb hr => ?_, fun hown hb hr hq => ?_⟩
  · exact refusesMb_of h hp ho hf (M.mbWriteEx_barred (s := s.m.begun) hown) (by decide)
  · exact refusesMb_of h hp ho hf (M.mbWriteEx_malformed (s := s.m.begun) hown hb) (by decide)
  · exact refusesMb_of h hp ho hf (M.mbWriteEx_beyond (s := s.m.begun) hown hb hr) (by decide)
  · have hex := M.mbWriteEx_within (s := s.m.begun) hown hb hr hq
    refine ⟨fun hlarge => refusesMb_of h hp ho hf (hex.trans (if_pos hlarge)) (by decide), fun hfits => ?_⟩
    rw [hex.trans (if_neg (Nat.not_lt.2 hfits)), if_pos rfl] at hf
    exact waitsMb_of h hp ho hf (.inl ⟨hfn, rfl⟩)

/-! ### The statement -/

/-- Settles O39: reads, writes by their four exceptions, and any other function code. -/
theorem modbusRequests : Obligations.ModbusRequests := by
  intro s r fn v n n2 rs rn bytes vs hp m hmode hnet hip hconn
  have ho : s.m.MbOpen r := ⟨by simp [M.p3Live, M.netOn, m, hmode, hnet, hip], hconn⟩
  refine ⟨readsMb rfl hp ho (by decide) rfl, readsMb rfl hp ho (by decide) rfl, readsMb rfl hp ho (by decide) rfl, readsMb rfl hp ho (by decide) rfl,
    writesMb rfl hp ho (by decide) rfl (by simp), writesMb rfl hp ho (by decide) rfl (by simp), writesMb rfl hp ho (by decide) rfl (by simp),
    writesMb rfl hp ho (by decide) rfl (by simp), writesMb rfl hp ho (by decide) rfl (by simp), ?_⟩
  exact refusesMb_of (values := []) (part := none) rfl hp ho rfl rfl (by decide)

end Sys2Proof.Machine
end
